-- ==== Sys2Proof/Word.lean ====
section
/-! DEFINITION. The word types of the KLT3720 model (00_scope R6, R7). -/

namespace Sys2Proof

/-- One byte of a register, packet, record or flash structure. -/
abbrev Byte := BitVec 8

/-- One 32-bit word of the register window (11 R339). -/
abbrev Word := BitVec 32

/-- The tick within a beat at which a command falls (02 R34, R51). -/
abbrev Tick := BitVec 8

end Sys2Proof
end

