-- ==== Sys2Proof/Syntax.lean ====
section
/-! DEFINITION. The commands: one constructor of Instr per row of spec/opcode_table.json, with the
operands the row's rule names. Every command but BEAT_EDGE carries the tick of its instant within the
beat (02 R51). -/

namespace Sys2Proof

/-- How far the host clocked a link transaction before HOST_CS_N rose (11 R330, R337). -/
inductive Extent where
  /-- ended before the header was whole -/
  | short
  /-- the header whole, bit 31 of the vector not shifted out -/
  | header
  /-- bit 31 of the vector shifted out, the status byte not whole -/
  | vector
  /-- the five-byte leader whole, the payload and its CRC not -/
  | status
  /-- every bit clocked -/
  | full
  deriving DecidableEq, Repr

/-- The outcome of a piece of flash work; a failure names the first address of the failing operation (14 R442, Table 14.8). -/
inductive FlashRes where
  | ok
  | readFail (address : Nat)
  | eraseFail (address : Nat)
  | programFail (address : Nat)
  deriving DecidableEq, Repr

/-- One line's self-pass measurement (03 R79, R80): the charge captured in each of the 8 self chips of the line's phase
and, by the same converter, of phase 3, in 1/256 Qref before any clamp. -/
structure SelfMeas where
  line : List Int
  ref : List Int
  deriving DecidableEq, Repr

/-- The sense lines' measurements of a detection self pass, and by how many tenths of a percent GUARD's amplitude differed
at most in that pass (03 R73, R83). -/
structure GuardedSense where
  lines : List SelfMeas
  guardDev : Nat
  deriving DecidableEq, Repr

/-- The charge that a sense line's input takes in the positive and in the negative half-window of a code chip (03 R74),
in 1/256 Qref. -/
structure ChipCharge where
  plus : Int
  minus : Int
  deriving DecidableEq, Repr

/-- What the comparators read in the three line-check tests of one physical line (03 R85), in mV: the line at the end of
test A and in test B, and every other line in test C. A line is named by the word of Table 3.8: bit 15 sense, bits 14:0
the physical line. -/
structure LineTest where
  line : Nat
  aMv : Nat
  bMv : Nat
  cMv : List (Nat × Nat)
  deriving DecidableEq, Repr

/-- A node-memory ECC error met by a read (17 R491): its region number (R490) and whether it is
uncorrectable. -/
structure EccErr where
  region : Nat
  fatal : Bool
  deriving DecidableEq, Repr

/-- What a housekeeping gap finds on its sensors and lines (17 R488). -/
structure GapIn where
  /-- die sensor, 1/256 degree (06 R175) -/
  dieTemp : Int
  /-- the drive rail at the present level, mV (03 R67) -/
  railMv : Nat
  /-- VDRV, mV (03 R67) -/
  vdrvMv : Nat
  /-- the line tests of this gap (03 R86) -/
  tests : List LineTest
  /-- the converter's calibration ratio to its factory value, in 1/1000 (17 R489) -/
  senseCal : Nat
  /-- the Level reference's ratio at gains 1 and 128, in 1/1000 -/
  levelCal : List Nat
  /-- what the scrubber met -/
  ecc : List EccErr
  /-- junction temperature, 1/256 degree (19 R518) -/
  tj : Int
  /-- does a fuse step of this gap read back blown (15 R456)? -/
  fuseBlown : Bool
  deriving DecidableEq, Repr

/-- What one Plane round has: its modulator sample, one bit for plus or minus full scale (05 R142), whether the modulator is
overloaded at the sample (10 R312), and V_REFS at the sample in mV, by magnitude and sign (10 R319). -/
structure RoundIn where
  bit : Bool
  overload : Bool
  refMin : Nat
  refNeg : Bool
  deriving DecidableEq, Repr

/-- Errors that take a Tenon port DOWN (09 R263), with the codes of event 0x0506. -/
inductive TenonError where
  | parity
  | credit
  | disconnect
  deriving DecidableEq, Repr

/-- The header of a Tenon message (09 Table 9.3) and the port it arrived on (0 N, 1 E, 2 S, 3 W). -/
structure MsgHdr where
  inPort : Fin 4
  dest : Nat
  src : Nat
  seq : Nat
  port : Nat
  deriving DecidableEq, Repr

/-- A message's bytes as a port took them off the wire, CRC and all (09 R264, Table 9.3). -/
structure WireMsg where
  port : Fin 4
  bytes : List Byte
  deriving DecidableEq, Repr

/-- One strip or corner node (09 R282): delta, flags of Table 9.8, and at a block end its increment. -/
structure StripNode where
  delta : Int
  flags : Nat
  inc : Option Int
  deriving DecidableEq, Repr

/-- One peak with its footprint piece as the tracker works on it, or a member reports it (09 R284):
global node, delta, centroid as integer sums over the weight, strength, size, and the footprint. -/
structure Peak where
  col : Int
  row : Int
  delta : Int
  /-- sum of weights, and of weight times column and row offset from the peak (07 R195) -/
  w : Nat
  su : Int
  sv : Int
  z : Nat
  major : Nat
  minor : Nat
  /-- footprint nodes as (column, row) with their deltas -/
  foot : List (Int × Int × Int)
  wet : Bool
  suspect : Bool
  /-- the footprint has more than palm_area nodes (07 R194) -/
  palm : Bool
  /-- the seeding threshold of the peak's column in 1/64 count (06 R173, R180) -/
  theta64 : Nat
  /-- nodes of the piece at 3/4 of its largest delta or more, and its drops in 1/12 count with their number
  (06 R169; 09 R285) -/
  flat : Nat
  dropSum : Int
  dropN : Nat
  deriving DecidableEq, Repr

/-- A footprint as one tile images it (09 R284, R285): its nodes with their deltas, its drops, and the marks of the footprint
(07 Table 7.1). -/
structure FootPiece where
  nodes : List (Int × Int × Int)
  /-- Nodes with a neighbour outside the footprint, with their drops in 1/12 count (06 R169). -/
  drops : List (Int × Int × Int)
  /-- The same where a node's footprint is the part of it that belongs to the node's peak (07 R193; log 47). -/
  parted : List (Int × Int × Int)
  wet : Bool
  suspect : Bool
  deriving DecidableEq, Repr

/-- A member's part of one key (09 R288). -/
structure KeyPartial where
  key : Nat
  value : Int
  present : Bool
  wet : Bool
  suspect : Bool
  interp : Bool
  deriving DecidableEq, Repr

/-- REPORT payload (09 Table 9.4). -/
structure ReportBody where
  metrics : List Nat
  /-- headroom of 04 R115 as a fraction -/
  headNum : Nat
  headDen : Nat
  sat : Bool
  levels : List Nat
  noiseMax : Nat
  peaks : List Peak
  /-- the footprints of its area, those without a peak in it too (09 R285) -/
  pieces : List FootPiece
  keys : List KeyPartial
  more : Bool
  /-- the frame has a WATER node on this tile (06 R172) -/
  water : Bool
  /-- the member reports that it is ready (09 R275), or that it refuses the image (09 R274) -/
  ready : Bool
  imageBad : Bool
  deriving DecidableEq, Repr

/-- DIRECT payload (09 Table 9.4). -/
structure DirectBody where
  activeSet : List Nat
  /-- the profile of the next frame: every tile runs the master's (09 R276) -/
  profile : Nat
  level : Nat
  probe : Option Nat
  absorb : List (Int × Int)
  /-- environment readings by their source, 2 or 3 (06 R174) -/
  envTemp : List (Nat × Int)
  envHumid : List (Nat × Int)
  power : Option Nat
  /-- modes of the IMAGE_SNAPSHOTs that are due, to which every tile of image_tiles contributes (12 R381) -/
  snap : List Nat
  /-- parameters that the master holds for every tile (09 R276): those off their defaults -/
  params : List (Nat × List Byte)
  /-- bitmap of the joined tiles, for each tile's own cascade_status and records (09 Tables 9.12, 9.15) -/
  present : Nat
  deriving DecidableEq, Repr

/-- PLAN payload (09 Table 9.4). -/
structure PlanBody where
  planId : Nat
  cols : Nat
  rows : Nat
  codeLog : Nat
  driveCounts : List Nat
  /-- sense_count per tile-column, which 09 R259 needs on every tile -/
  senseCounts : List Nat
  rate : Nat
  /-- frame starts from the receipt to the plan's first frame -/
  firstFrame : Nat
  /-- parameters that the master holds for every tile (09 R276): those off their defaults -/
  params : List (Nat × List Byte)
  /-- bitmap of the joined tiles -/
  present : Nat
  deriving DecidableEq, Repr

/-- The capability fields a tile sends (09 R257, R258). -/
structure TileCap where
  partCode : Nat
  maxTiles : Nat
  driveCount : Nat
  senseCount : Nat
  deriving DecidableEq, Repr

/-- How a sensor-bus transaction attempt ended at its STOP (13 R403). -/
inductive BusEnd where
  /-- the first address byte was not acknowledged -/
  | nackAddress
  /-- the address after the repeated START was not acknowledged -/
  | nackRestart
  /-- a write byte was not acknowledged after `n` acknowledged bytes -/
  | nackByte (n : Nat)
  /-- all bytes moved -/
  | moved (read : List Byte)
  deriving DecidableEq, Repr

/-- A fast read that the BFPT supports: its dummy clocks and its mode clocks (14 R426). -/
structure FastRead where
  dummy : Nat
  mode : Nat
  deriving DecidableEq, Repr

/-- What the chip takes from the Basic Flash Parameter Table (14 R426, R427): times are typical ones with the multiplier of
their maximum. -/
structure Bfpt where
  threeByte : Bool
  density : Nat
  /-- the instructions of the 4 KiB and the 64 KiB erase type -/
  erase4k : Option Nat
  erase64k : Option Nat
  /-- typical erase times in ms, and their multiplier -/
  typ4kMs : Nat
  typ64kMs : Nat
  eraseMult : Nat
  page : Nat
  /-- typical page program time in µs, and its multiplier -/
  typPageUs : Nat
  pageMult : Nat
  /-- the fast reads 1-1-2, 1-2-2, 1-1-4 and 1-4-4 -/
  r112 : Option FastRead
  r122 : Option FastRead
  r114 : Option FastRead
  r144 : Option FastRead
  quadEnable : Nat
  deriving DecidableEq, Repr

/-- A parameter header of the SFDP with the table that it points to (14 R426). -/
structure SfdpHeader where
  id : Nat
  major : Nat
  dwords : Nat
  table : Bfpt
  deriving DecidableEq, Repr

/-- What discovery reads of a flash: the bytes of 0x9F, the four bytes at SFDP address 0, and the parameter headers in order
(14 R426). -/
structure Sfdp where
  jedec : Nat
  signature : List Byte
  headers : List SfdpHeader
  deriving DecidableEq, Repr

/-- The commands of the block. -/
inductive Instr where
  /-- READ_REG (R332). -/
  | readReg (tk : Tick) (addr : BitVec 16) (words : Nat) (ext : Extent)
  /-- WRITE_REG (R333). -/
  | writeReg (tk : Tick) (addr : BitVec 16) (count : Nat) (words : List Word) (crc : BitVec 16) (ext : Extent)
  /-- PUSH_CMD (R334). -/
  | pushCmd (tk : Tick) (length : Nat) (bytes : List Byte) (ext : Extent)
  /-- POP_REPORT (R335). -/
  | popReport (tk : Tick) (max : Nat) (ext : Extent)
  /-- POP_IMAGE (R335). -/
  | popImage (tk : Tick) (max : Nat) (ext : Extent)
  /-- POP_RECORD (R335). -/
  | popRecord (tk : Tick) (max : Nat) (ext : Extent)
  /-- DONE (R336). -/
  | done (tk : Tick) (source : Byte) (check : Byte) (ext : Extent)
  /-- READ_ID (R19). -/
  | readId (tk : Tick) (ext : Extent)
  /-- UNDEFINED_LINK_OPERATION (R331). -/
  | undefinedLinkOperation (tk : Tick) (op : Byte) (ext : Extent)
  /-- TIMEBASE_LO_READ (R340). -/
  | timebaseLoRead (tk : Tick)
  /-- TALLY_SEQ_LO_READ (R340). -/
  | tallySeqLoRead (tk : Tick)
  /-- ATTN_PENDING_WRITE (R347). -/
  | attnPendingWrite (tk : Tick) (value : Word)
  /-- CLEARED_BEFORE_SERVICE_WRITE (R348). -/
  | clearedBeforeServiceWrite (tk : Tick) (value : Word)
  /-- VECTOR_BASE_WRITE (R341). -/
  | vectorBaseWrite (tk : Tick) (value : Word)
  /-- VECTOR_STRIDE_WRITE (R341). -/
  | vectorStrideWrite (tk : Tick) (value : Word)
  /-- HOLDOFF_WRITE (R341). -/
  | holdoffWrite (tk : Tick) (group : Fin 8) (value : Word)
  /-- REGISTER_WRITE (R339). -/
  | registerWrite (tk : Tick) (addr : BitVec 16) (value : Word)
  /-- HOST_CS_N_WAKE (R245). -/
  | hostCsNWake (tk : Tick)
  /-- HSLEEP_RISE (R243). -/
  | hsleepRise (tk : Tick)
  /-- HSLEEP_FALL (R244). -/
  | hsleepFall (tk : Tick)
  /-- MALFORMED_PUSH (R356). -/
  | malformedPush (tk : Tick)
  /-- UNKNOWN_OPCODE (R357). -/
  | unknownOpcode (tk : Tick)
  /-- NOP (R359). -/
  | nop (tk : Tick)
  /-- IDENTIFY (R368). -/
  | identify (tk : Tick)
  /-- ATTEST (R457). -/
  | attest (tk : Tick)
  /-- GET_STATUS (R369). -/
  | getStatus (tk : Tick)
  /-- RESET (R370). -/
  | reset (tk : Tick)
  /-- SET_POWER (R234). -/
  | setPower (tk : Tick)
  /-- HOST_SLEEP (R244). -/
  | hostSleep (tk : Tick)
  /-- SCAN_START (R120). -/
  | scanStart (tk : Tick)
  /-- SCAN_STOP (R122). -/
  | scanStop (tk : Tick)
  /-- SCAN_PROFILE (R121). -/
  | scanProfile (tk : Tick)
  /-- FREQ_SET (R113). -/
  | freqSet (tk : Tick)
  /-- LINE_MAP (R376). -/
  | lineMap (tk : Tick)
  /-- HEALTH_MAP (R92). -/
  | healthMap (tk : Tick)
  /-- LEGACY_PHASE (R118). -/
  | legacyPhase (tk : Tick)
  /-- BASELINE_ACQUIRE (R159). -/
  | baselineAcquire (tk : Tick)
  /-- REFERENCE_SAVE (R167). -/
  | referenceSave (tk : Tick)
  /-- REFERENCE_SELECT (R167). -/
  | referenceSelect (tk : Tick)
  /-- KEY_DEFINE (R379). -/
  | keyDefine (tk : Tick)
  /-- KEY_READ (R213). -/
  | keyRead (tk : Tick)
  /-- GESTURE_SET (R227). -/
  | gestureSet (tk : Tick)
  /-- SILL_SET (R380). -/
  | sillSet (tk : Tick)
  /-- CONTACT_FILTER (R227). -/
  | contactFilter (tk : Tick)
  /-- IMAGE_STREAM (R141). -/
  | imageStream (tk : Tick)
  /-- IMAGE_SNAPSHOT (R381). -/
  | imageSnapshot (tk : Tick)
  /-- LEVEL_CONFIG (R303). -/
  | levelConfig (tk : Tick)
  /-- LEVEL_CONVERT (R314). -/
  | levelConvert (tk : Tick)
  /-- LEVEL_EXCITE (R306). -/
  | levelExcite (tk : Tick)
  /-- LEVEL_REFBUF (R305). -/
  | levelRefbuf (tk : Tick)
  /-- LEVEL_OPENWIRE (R382). -/
  | levelOpenwire (tk : Tick)
  /-- LEVEL_TRIGGER (R313). -/
  | levelTrigger (tk : Tick)
  /-- DETECTOR_READ (R383). -/
  | detectorRead (tk : Tick)
  /-- LINEAR_SET (R321). -/
  | linearSet (tk : Tick)
  /-- BUS_XFER (R403). -/
  | busXfer (tk : Tick)
  /-- BUS_ROLLCALL (R416). -/
  | busRollcall (tk : Tick)
  /-- BUS_BRANCH (R408). -/
  | busBranch (tk : Tick)
  /-- BUS_CONFIG (R390). -/
  | busConfig (tk : Tick)
  /-- CASCADE_MAP (R300). -/
  | cascadeMap (tk : Tick)
  /-- CASCADE_PLAN (R294). -/
  | cascadePlan (tk : Tick)
  /-- CASCADE_FORWARD (R385). -/
  | cascadeForward (tk : Tick)
  /-- PARAM_GET (R392). -/
  | paramGet (tk : Tick)
  /-- PARAM_SET (R391). -/
  | paramSet (tk : Tick)
  /-- UPDATE_BEGIN (R386). -/
  | updateBegin (tk : Tick)
  /-- UPDATE_CHUNK (R386). -/
  | updateChunk (tk : Tick)
  /-- UPDATE_COMMIT (R438). -/
  | updateCommit (tk : Tick)
  /-- MEMORY_INFO (R387). -/
  | memoryInfo (tk : Tick)
  /-- TALLY_READ (R484). -/
  | tallyRead (tk : Tick)
  /-- TALLY_MARK (R388). -/
  | tallyMark (tk : Tick)
  /-- CALENDAR_SET (R40). -/
  | calendarSet (tk : Tick)
  /-- TIME_GET (R43). -/
  | timeGet (tk : Tick)
  /-- ATTN_CONFIG (R353). -/
  | attnConfig (tk : Tick)
  /-- ATTN_ROUTE (R353). -/
  | attnRoute (tk : Tick)
  /-- TELEMETRY_READ (R494). -/
  | telemetryRead (tk : Tick)
  /-- TELEMETRY_CLEAR (R494). -/
  | telemetryClear (tk : Tick)
  /-- TEST_CHALLENGE (R461). -/
  | testChallenge (tk : Tick)
  /-- TEST_UNLOCK (R461). -/
  | testUnlock (tk : Tick)
  /-- SELFTEST (R388). -/
  | selftest (tk : Tick)
  /-- ATTEST_COMPLETE (R457). -/
  | attestComplete (tk : Tick)
  /-- UPDATE_BEGIN_COMPLETE (R437). -/
  | updateBeginComplete (tk : Tick) (res : FlashRes)
  /-- UPDATE_CHUNK_COMPLETE (R437). -/
  | updateChunkComplete (tk : Tick) (res : FlashRes)
  /-- UPDATE_COMMIT_COMPLETE (R438). -/
  | updateCommitComplete (tk : Tick) (readRes : FlashRes) (pointerRes : FlashRes)
  /-- REFERENCE_SAVE_COMPLETE (R439). -/
  | referenceSaveComplete (tk : Tick) (fails : List FlashRes)
  /-- TALLY_READ_COMPLETE (R484). -/
  | tallyReadComplete (tk : Tick) (badSectors : List Nat)
  /-- SELFTEST_COMPLETE (R388). -/
  | selftestComplete (tk : Tick) (failed : BitVec 16) (tests : List LineTest)
  /-- TEST_UNLOCK_COMPLETE (R461). -/
  | testUnlockComplete (tk : Tick)
  /-- IMAGE_SNAPSHOT_COMPLETE (R381). -/
  | imageSnapshotComplete (tk : Tick)
  /-- CASCADE_PLAN_COMPLETE (R294). -/
  | cascadePlanComplete (tk : Tick)
  /-- CASCADE_FORWARD_TIMEOUT (R295). -/
  | cascadeForwardTimeout (tk : Tick) (tag : Byte)
  /-- BUS_BRANCH_CYCLE_COMPLETE (R408). -/
  | busBranchCycleComplete (tk : Tick)
  /-- SCAN_STOP_PARK (R122). -/
  | scanStopPark (tk : Tick)
  /-- HELD_REPLY_WRITE (R343). -/
  | heldReplyWrite (tk : Tick)
  /-- QUEUED_RECORD_WRITE (R343). -/
  | queuedRecordWrite (tk : Tick)
  /-- RESET_REPLY_TIMEOUT (R370). -/
  | resetReplyTimeout (tk : Tick)
  /-- BEAT_EDGE (R30). -/
  | beatEdge (count : Nat)
  /-- STORY_POLE_FAULT_CLEAR (R32). -/
  | storyPoleFaultClear (tk : Tick)
  /-- CRYSTAL_DECLARED_RUNNING (R25). -/
  | crystalDeclaredRunning (tk : Tick)
  /-- CRYSTAL_SWITCH (R25). -/
  | crystalSwitch (tk : Tick)
  /-- CRYSTAL_LOST (R26). -/
  | crystalLost (tk : Tick)
  /-- FALLBACK_TAKEOVER (R26). -/
  | fallbackTakeover (tk : Tick)
  /-- CLK32_DECLARED_RUNNING (R61). -/
  | clk32DeclaredRunning (tk : Tick)
  /-- CLK32_LOST (R61). -/
  | clk32Lost (tk : Tick)
  /-- FRAME_START (R102). -/
  | frameStart (tk : Tick)
  /-- FRAME_SLOT_SKIP (R58). -/
  | frameSlotSkip (tk : Tick)
  /-- SELF_PASS_COMPLETE (R80). -/
  | selfPassComplete (tk : Tick) (drive : List SelfMeas) (sense : List SelfMeas) (guardDev : Nat)
  /-- MUTUAL_PASS_START (R102). -/
  | mutualPassStart (tk : Tick) (index : Nat)
  /-- DOVETAIL_OUTPUT (R106). -/
  | dovetailOutput (tk : Tick) (index : Nat) (charge : List (List ChipCharge))
  /-- NOISE_ALARM_CLEAR (R114). -/
  | noiseAlarmClear (tk : Tick)
  /-- ACTIVE_SLOT_CHANGE (R112). -/
  | activeSlotChange (tk : Tick)
  /-- PLANE_COMBINE (R134). -/
  | planeCombine (tk : Tick) (ecc : List EccErr)
  /-- TRACKER_FRAME (R198). -/
  | trackerFrame (tk : Tick)
  /-- CONTACT_LIFT (R198). -/
  | contactLift (tk : Tick) (id : Nat)
  /-- LONG_PRESS (R215). -/
  | longPress (tk : Tick) (id : Nat)
  /-- TAP_DEFERRAL_SETTLE (R216). -/
  | tapDeferralSettle (tk : Tick) (id : Nat)
  /-- KEY_STATE_CHANGE (R212). -/
  | keyStateChange (tk : Tick) (key : Nat)
  /-- CONTACT_OWNER_CHANGE (R286). -/
  | contactOwnerChange (tk : Tick) (id : Nat)
  /-- FRAME_GROUP_WRITE (R220). -/
  | frameGroupWrite (tk : Tick) (marginPct : Nat)
  /-- ACQUISITION_PHASE1 (R162). -/
  | acquisitionPhase1 (tk : Tick)
  /-- ACQUISITION_PHASE2_END (R164). -/
  | acquisitionPhase2End (tk : Tick)
  /-- TRACKING_BLOCK_END (R168). -/
  | trackingBlockEnd (tk : Tick)
  /-- NODE_STATE_RELEASE (R158). -/
  | nodeStateRelease (tk : Tick) (node : Nat)
  /-- OBJECT_ABSORBED (R170). -/
  | objectAbsorbed (tk : Tick) (id : Nat)
  /-- SCAR_RESOLVED (R171). -/
  | scarResolved (tk : Tick) (box : Nat)
  /-- BASELINE_REGION_REBUILD (R183). -/
  | baselineRegionRebuild (tk : Tick) (nodes : List Nat)
  /-- TEMP_READING (R174). -/
  | tempReading (tk : Tick) (humid : Bool) (source : Nat) (value : Int)
  /-- TEMP_SOURCE_STALE (R176). -/
  | tempSourceStale (tk : Tick) (humid : Bool)
  /-- DRIVE_OVERCURRENT (R71). -/
  | driveOvercurrent (tk : Tick) (line : Nat)
  /-- LINE_FAULT_CONFIRMED (R87). -/
  | lineFaultConfirmed (tk : Tick) (line : Nat) (cause : Nat) (partner : Nat)
  /-- LINE_RETURN (R89). -/
  | lineReturn (tk : Tick) (line : Nat)
  /-- FULL_LINE_CHECK_COMPLETE (R86). -/
  | fullLineCheckComplete (tk : Tick) (tests : List LineTest)
  /-- DETECTION_SELF_PASS (R83). -/
  | detectionSelfPass (tk : Tick) (drive : List SelfMeas) (sense : GuardedSense)
  /-- PUMP_SETTLED (R66). -/
  | pumpSettled (tk : Tick)
  /-- VDRV_RESTORE (R67). -/
  | vdrvRestore (tk : Tick)
  /-- HOUSEKEEPING_GAP (R488). -/
  | housekeepingGap (tk : Tick) (inp : GapIn)
  /-- PROBE (R111). -/
  | probe (tk : Tick) (charge : List (List ChipCharge))
  /-- THERMAL_CLAMP_CLEAR (R518). -/
  | thermalClampClear (tk : Tick)
  /-- SLEEP_ENTRY (R231). -/
  | sleepEntry (tk : Tick)
  /-- IDLE_TIMEOUT (R233). -/
  | idleTimeout (tk : Tick)
  /-- TIMER_WAKE (R233). -/
  | timerWake (tk : Tick)
  /-- SILL_PERIOD_START (R238). -/
  | sillPeriodStart (tk : Tick)
  /-- SILL_READING (R239). -/
  | sillReading (tk : Tick) (group : Nat) (edges : Nat)
  /-- WAKE_CHECK_TIMEOUT (R242). -/
  | wakeCheckTimeout (tk : Tick)
  /-- SYNC_WAKE_PULSE (R247). -/
  | syncWakePulse (tk : Tick) (low : Nat)
  /-- VDD_LOSS (R246). -/
  | vddLoss (tk : Tick) (vbk : Bool)
  /-- HOLDOFF_END (R349). -/
  | holdoffEnd (tk : Tick) (group : Fin 8)
  /-- WAKE_PULSE_START (R350). -/
  | wakePulseStart (tk : Tick)
  /-- WAKE_PULSE_END (R350). -/
  | wakePulseEnd (tk : Tick)
  /-- TENON_POLARITY_TRIAL (R262). -/
  | tenonPolarityTrial (tk : Tick) (port : Fin 4)
  /-- TENON_RUN (R262). -/
  | tenonRun (tk : Tick) (port : Fin 4)
  /-- TENON_PORT_DOWN (R263). -/
  | tenonPortDown (tk : Tick) (port : Fin 4) (kind : TenonError)
  /-- TENON_BRINGUP_RESTART (R263). -/
  | tenonBringupRestart (tk : Tick) (port : Fin 4)
  /-- TENON_MESSAGE_CRC_FAIL (R264). -/
  | tenonMessageCrcFail (tk : Tick) (rx : WireMsg)
  /-- SCARF_CROSS (R281). -/
  | scarfCross (tk : Tick) (hdr : MsgHdr) (deltas : List Int)
  /-- SCARF_STRIP (R282). -/
  | scarfStrip (tk : Tick) (hdr : MsgHdr) (nodes : List StripNode)
  /-- SCARF_CORNER (R282). -/
  | scarfCorner (tk : Tick) (hdr : MsgHdr) (nodes : List StripNode)
  /-- REPORT (R284). -/
  | report (tk : Tick) (hdr : MsgHdr) (body : ReportBody)
  /-- DIRECT (R277). -/
  | direct (tk : Tick) (hdr : MsgHdr) (body : DirectBody)
  /-- TIME (R63). -/
  | time (tk : Tick) (hdr : MsgHdr) (masterT : Nat)
  /-- PLAN (R279). -/
  | plan (tk : Tick) (hdr : MsgHdr) (body : PlanBody)
  /-- ENUM (R271). -/
  | enum (tk : Tick) (hdr : MsgHdr) (col : Nat) (row : Nat)
  /-- ENUM_REPLY (R271). -/
  | enumReply (tk : Tick) (hdr : MsgHdr) (cap : TileCap) (col : Nat) (row : Nat)
  /-- JOIN (R293). -/
  | join (tk : Tick) (hdr : MsgHdr) (cap : TileCap)
  /-- EVENT (R296). -/
  | event (tk : Tick) (hdr : MsgHdr) (rec : List Byte)
  /-- FORWARD (R295). -/
  | forward (tk : Tick) (hdr : MsgHdr) (packet : List Byte)
  /-- FORWARD_REPLY (R385). -/
  | forwardReply (tk : Tick) (hdr : MsgHdr) (rec : List Byte)
  /-- IMAGE_CHUNK (R274). -/
  | imageChunk (tk : Tick) (hdr : MsgHdr) (offset : Nat) (bytes : List Byte)
  /-- ACK (R267). -/
  | ack (tk : Tick) (hdr : MsgHdr) (type : Byte) (seq : Byte)
  /-- IMAGE_DATA (R290). -/
  | imageData (tk : Tick) (hdr : MsgHdr) (bytes : List Byte) (first : Bool) (last : Bool)
  /-- ACK_TIMEOUT (R267). -/
  | ackTimeout (tk : Tick) (dest : Nat) (type : Nat) (seq : Nat)
  /-- ENUM_WINDOW_CLOSE (R273). -/
  | enumWindowClose (tk : Tick)
  /-- MEMBER_READY_TIMEOUT (R275). -/
  | memberReadyTimeout (tk : Tick)
  /-- MEMBER_LOST (R291). -/
  | memberLost (tk : Tick) (tile : Nat) (reason : Nat)
  /-- SYNC_PULSE (R269). -/
  | syncPulse (tk : Tick) (low : Nat)
  /-- SYNC_LOST (R270). -/
  | syncLost (tk : Tick)
  /-- PLANE_SERVICE_ROUND (R128). -/
  | planeServiceRound (tk : Tick) (inp : RoundIn)
  /-- LEVEL_QUEUED_RECORD_WRITE (R323). -/
  | levelQueuedRecordWrite (tk : Tick)
  /-- LEVEL_TIMER_TRIGGER (R313). -/
  | levelTimerTrigger (tk : Tick) (slot : Nat)
  /-- LEVEL_REQUEST_ELIGIBLE (R314). -/
  | levelRequestEligible (tk : Tick) (slot : Nat)
  /-- LEVEL_CONVERSION_START (R314). -/
  | levelConversionStart (tk : Tick)
  /-- OPEN_WIRE_CHECK_END (R318). -/
  | openWireCheckEnd (tk : Tick) (slot : Nat)
  /-- EXCITATION_REVERSAL (R307). -/
  | excitationReversal (tk : Tick)
  /-- EXCITATION_OVERCURRENT (R310). -/
  | excitationOvercurrent (tk : Tick)
  /-- REFBUF_SETTLED (R305). -/
  | refbufSettled (tk : Tick)
  /-- PD5_POWER_DOWN (R317). -/
  | pd5PowerDown (tk : Tick)
  /-- BUS_START (R401). -/
  | busStart (tk : Tick)
  /-- BUS_START_TIMER (R401). -/
  | busStartTimer (tk : Tick) (sclHigh : Bool) (sdaHigh : Bool) (probe : Option (Bool × Nat))
  /-- BUS_JOB_START (R413). -/
  | busJobStart (tk : Tick)
  /-- BUS_TRANSACTION_END (R403). -/
  | busTransactionEnd (tk : Tick) (res : BusEnd)
  /-- ADDRESS_RETRY (R404). -/
  | addressRetry (tk : Tick)
  /-- CLOCK_STRETCH_TIMEOUT (R405). -/
  | clockStretchTimeout (tk : Tick) (sclHigh : Bool) (sdaHigh : Bool)
  /-- BUS_FREE_TIMEOUT (R410). -/
  | busFreeTimeout (tk : Tick)
  /-- ARBITRATION_LOST (R410). -/
  | arbitrationLost (tk : Tick)
  /-- ARBITRATION_LOST_AT_STOP (R411). -/
  | arbitrationLostAtStop (tk : Tick) (atStop : Bool)
  /-- BUS_JOB_TIME_LIMIT (R413). -/
  | busJobTimeLimit (tk : Tick)
  /-- SB_ALERT_CHANGE (R412). -/
  | sbAlertChange (tk : Tick) (low : Bool)
  /-- ROLLCALL_DUE (R416). -/
  | rollcallDue (tk : Tick)
  /-- ROLLCALL_END (R416). -/
  | rollcallEnd (tk : Tick)
  /-- ENV_READ_DUE (R419). -/
  | envReadDue (tk : Tick) (humid : Bool)
  /-- VBR_CURRENT_LIMIT (R407). -/
  | vbrCurrentLimit (tk : Tick)
  /-- VBR_RECLOSE (R407). -/
  | vbrReclose (tk : Tick)
  /-- VBR_CLOSING_CLEAR (R407). -/
  | vbrClosingClear (tk : Tick)
  /-- REVERIFY_DUE (R441). -/
  | reverifyDue (tk : Tick) (badReads : List Nat)
  /-- LEDGER_SNAPSHOT (R440). -/
  | ledgerSnapshot (tk : Tick) (res : FlashRes)
  /-- REFERENCE_READ (R443). -/
  | referenceRead (tk : Tick) (slot : Nat) (readOk : Bool)
  /-- IMAGE_VERIFICATION_COMPLETE (R450). -/
  | imageVerificationComplete (tk : Tick) (readOk : Bool)
  /-- RECOVERY_ENTRY (R463). -/
  | recoveryEntry (tk : Tick)
  /-- TAP_PUBLIC_INSTRUCTION (R458). -/
  | tapPublicInstruction (tk : Tick) (ir : Byte)
  /-- TAP_BOUNDARY_TEST_MODE (R459). -/
  | tapBoundaryTestMode (tk : Tick) (ir : Byte)
  /-- TAP_PRIVATE_INSTRUCTION (R460). -/
  | tapPrivateInstruction (tk : Tick) (ir : Byte)
  /-- CHALLENGE_EXPIRY (R461). -/
  | challengeExpiry (tk : Tick)
  /-- TALLY_RECORD_CLOSE (R472). -/
  | tallyRecordClose (tk : Tick)
  /-- TALLY_TIME_MARK (R473). -/
  | tallyTimeMark (tk : Tick)
  /-- TALLY_DRAIN (R477). -/
  | tallyDrain (tk : Tick) (res : FlashRes)
  /-- RETENTION_CHECK (R476). -/
  | retentionCheck (tk : Tick) (uncorrectable : Bool)
  /-- AVAILABILITY_DAY_END (R493). -/
  | availabilityDayEnd (tk : Tick)
  /-- TELEMETRY_PERIOD (R493). -/
  | telemetryPeriod (tk : Tick)
  /-- POWER_ON_RESET (R496). -/
  | powerOnReset (tk : Tick) (vbk : Bool)
  /-- RESET_N_LOW (R497). -/
  | resetNLow (tk : Tick) (ns : Nat)
  /-- INTERNAL_RESET_RELEASE (R498). -/
  | internalResetRelease (tk : Tick) (mode : BitVec 2) (recoverN : Bool)
  /-- VDD_LOW_WARNING_SET (R519). -/
  | vddLowWarningSet (tk : Tick)
  /-- VDD_LOW_WARNING_CLEAR (R519). -/
  | vddLowWarningClear (tk : Tick)
  /-- PUMP_START_TIMEOUT (R507). -/
  | pumpStartTimeout (tk : Tick)
  /-- FUSE_STEP_WHILE_STOPPED (R456). -/
  | fuseStepWhileStopped (tk : Tick) (blown : Bool)
  /-- NODE_MEMORY_INIT_COMPLETE (R504). -/
  | nodeMemoryInitComplete (tk : Tick)
  /-- DISCOVERY_COMPLETE (R427). -/
  | discoveryComplete (tk : Tick) (sfdp : Sfdp)
  /-- PD1_PD4_READY (R236), with how many regions of retained node memory fail their ECC check (R235). -/
  | pd1Pd4Ready (tk : Tick) (badRegions : Nat)
  /-- SYNC_ANNOUNCE (R269). -/
  | syncAnnounce (tk : Tick) (frame : Bool)
  /-- BUS_BUSY (R399). -/
  | busBusy (tk : Tick)
  deriving DecidableEq, Repr

end Sys2Proof
end

