-- ==== Sys2Proof/Machine/Bits.lean ====
section
/-! DEFINITION. Bytes, byte order, CRC-16, integer roots, rounded quotients and ordered tables: the
arithmetic the chapters share. -/

namespace Sys2Proof.Machine

/-! ## Bytes -/

/-- The low `n` bytes of `v`, least significant first (00 R6). -/
def leBytes : Nat → Nat → List Byte
  | 0, _ => []
  | n + 1, v => BitVec.ofNat 8 v :: leBytes n (v / 256)

/-- The number a little-endian byte list holds (00 R6). -/
def leVal : List Byte → Nat
  | [] => 0
  | b :: bs => b.toNat + 256 * leVal bs

/-- The number a big-endian byte list holds (14 R431). -/
def beVal (bs : List Byte) : Nat := bs.foldl (fun a b => 256 * a + b.toNat) 0

/-- `n` bytes of `v`, most significant first (14 R431). -/
def beBytes (n v : Nat) : List Byte := (leBytes n v).reverse

/-- `n` bytes of `bs` from offset `o`; missing bytes read as 0. -/
def slice (bs : List Byte) (o n : Nat) : List Byte :=
  let t := (bs.drop o).take n
  t ++ List.replicate (n - t.length) 0

/-- The unsigned little-endian field of `n` bytes at offset `o`. -/
def fieldAt (bs : List Byte) (o n : Nat) : Nat := leVal (slice bs o n)

/-- Read `v`, a field of `w` bits, as two's complement. -/
def signed (w v : Nat) : Int :=
  let m := v % 2 ^ w
  if m < 2 ^ (w - 1) then (m : Int) else (m : Int) - (2 ^ w : Nat)

/-- The `w`-bit two's complement field that holds `i`. -/
def unsigned (w : Nat) (i : Int) : Nat := (i % ((2 ^ w : Nat) : Int)).toNat

/-- The little-endian bytes of a signed value in `n` bytes. -/
def leSigned (n : Nat) (i : Int) : List Byte := leBytes n (unsigned (8 * n) i)

/-- Zero bytes up to the next multiple of `m`. -/
def padTo (m : Nat) (bs : List Byte) : List Byte :=
  bs ++ List.replicate ((m - bs.length % m) % m) 0

/-- `v` with an upper limit: a saturating field. -/
def satAt (m v : Nat) : Nat := if v ≤ m then v else m

/-- A signed value clamped to a range. -/
def clampInt (lo hi v : Int) : Int := if v < lo then lo else if hi < v then hi else v

/-- Bit `i` of `v` as a Bool. -/
def bitAt (v i : Nat) : Bool := v / 2 ^ i % 2 == 1

/-- A Bool as a bit of weight `2^i`. -/
def bitOf (b : Bool) (i : Nat) : Nat := if b then 2 ^ i else 0

/-! ## CRC-16/CCITT-FALSE (12 R354) -/

/-- One bit of the register: polynomial 0x1021, no reflection. -/
def crcBit (c : BitVec 16) : BitVec 16 :=
  if c.getMsbD 0 then (c <<< 1) ^^^ 0x1021#16 else c <<< 1

/-- One byte of the register. -/
def crcByte (c : BitVec 16) (b : Byte) : BitVec 16 :=
  let c0 := c ^^^ (b.zeroExtend 16 <<< 8)
  crcBit (crcBit (crcBit (crcBit (crcBit (crcBit (crcBit (crcBit c0)))))))

/-- The CRC of a byte list: initial value 0xFFFF, no final XOR. -/
def crc16 (bs : List Byte) : BitVec 16 := bs.foldl crcByte 0xFFFF#16

/-- The two bytes in which a CRC is stored, little-endian. -/
def crcBytes (bs : List Byte) : List Byte := leBytes 2 (crc16 bs).toNat

/-! ## Integer arithmetic -/

/-- Bitwise search for the integer square root: `k` bits left, `r` found so far. -/
def isqrtGo (n : Nat) : Nat → Nat → Nat
  | 0, r => r
  | k + 1, r =>
    let r' := r + 2 ^ k
    isqrtGo n k (if r' * r' ≤ n then r' else r)

/-- floor of the square root. -/
def isqrt (n : Nat) : Nat := isqrtGo n (n.log2 / 2 + 1) 0

/-- The quotient rounded to the nearest, halves away from zero. -/
def roundAway (n : Int) (d : Nat) : Int :=
  if d = 0 then 0
  else if n < 0 then -(((2 * n.natAbs + d) / (2 * d) : Nat) : Int)
  else (((2 * n.natAbs + d) / (2 * d) : Nat) : Int)

/-- The quotient rounded to the nearest, halves up. -/
def roundUpHalf (n : Int) (d : Nat) : Int :=
  if d = 0 then 0 else Int.fdiv (2 * n + d) (2 * d)

/-- The quotient rounded toward zero. -/
def divZero (n : Int) (d : Nat) : Int :=
  if d = 0 then 0 else Int.tdiv n d

/-- The square root of `n / d` in units of 1/16, to the nearest unit with halves up:
the least r with sqrt(n/d)*16 < r + 1/2. -/
def sqrt16 (n d : Nat) : Nat :=
  if d = 0 then 0
  else (isqrt (4 * 256 * n / d) + 1) / 2

/-- The rounded-up quotient. -/
def ceilDiv (n d : Nat) : Nat := if d = 0 then 0 else (n + d - 1) / d

/-- Arithmetic shift right of a signed value. -/
def asr (v : Int) (s : Nat) : Int := Int.fdiv v ((2 ^ s : Nat) : Int)

/-- A parameter in ms as ticks (07, opening): floor(ms * 8,388,608 / 1,000). -/
def msTicks (ms : Nat) : Nat := ms * 8388608 / 1000

/-- Ticks as ms, saturating at 65,535 (07, opening). -/
def ticksMs (t : Nat) : Nat := satAt 65535 (t * 1000 / 8388608)

/-- Number of one bits among the low `w`. -/
def popcount (w v : Nat) : Nat := ((List.range w).filter (bitAt v)).length

/-- The set bits of `v` below `w`, ascending. -/
def bitsOf (w v : Nat) : List Nat := (List.range w).filter (bitAt v)

/-! ## Lists -/

/-- Replace element `i`. -/
def setAt {α : Type} (l : List α) (i : Nat) (a : α) : List α := l.set i a

/-- Change element `i`. -/
def modAt {α : Type} (l : List α) (i : Nat) (f : α → α) : List α :=
  match l, i with
  | [], _ => []
  | a :: as, 0 => f a :: as
  | a :: as, i + 1 => a :: modAt as i f

/-- Sum of a list of Nats. -/
def sumNat (l : List Nat) : Nat := l.foldl (· + ·) 0

/-- Sum of a list of Ints. -/
def sumInt (l : List Int) : Int := l.foldl (· + ·) 0

/-- Largest of a list of Nats, 0 when empty. -/
def maxNat (l : List Nat) : Nat := l.foldl max 0

/-- Smallest element of a list by a strict order, the first on a tie. -/
def bestBy {α : Type} (lt : α → α → Bool) : List α → Option α
  | [] => none
  | a :: as =>
    match bestBy lt as with
    | none => some a
    | some b => if lt b a then some b else some a

/-- Put `a` into a list ordered by `lt`, after its equals. -/
def insertBy {α : Type} (lt : α → α → Bool) (a : α) : List α → List α
  | [] => [a]
  | b :: bs => if lt a b then a :: b :: bs else b :: insertBy lt a bs

/-- Stable ordering of a list. -/
def sortBy {α : Type} (lt : α → α → Bool) (l : List α) : List α :=
  l.foldl (fun acc a => insertBy lt a acc) []

/-- The first index at which `p` holds. -/
def findIdx? {α : Type} (p : α → Bool) : List α → Option Nat
  | [] => none
  | a :: as => if p a then some 0 else (findIdx? p as).map (· + 1)

/-! ## Ordered tables: strictly rising keys, no entry equal to what an unlisted key reads as -/

/-- Look a key up. -/
def tabGet {α : Type} (d : Nat → α) (t : List (Nat × α)) (k : Nat) : α :=
  match t with
  | [] => d k
  | (k', v) :: r => if k = k' then v else tabGet d r k

/-- Drop a key. -/
def tabDel {α : Type} (t : List (Nat × α)) (k : Nat) : List (Nat × α) := t.filter fun e => e.1 != k

/-- Enter a key, keeping the keys rising. -/
def tabPut {α : Type} (t : List (Nat × α)) (k : Nat) (a : α) : List (Nat × α) :=
  match t with
  | [] => [(k, a)]
  | (k', v) :: r =>
    if k < k' then (k, a) :: (k', v) :: r
    else if k = k' then (k, a) :: r
    else (k', v) :: tabPut r k a

/-- Set a key in canonical form: the default is not listed. -/
def tabSet {α : Type} [DecidableEq α] (d : Nat → α) (t : List (Nat × α)) (k : Nat) (a : α) :
    List (Nat × α) :=
  if a = d k then tabDel t k else tabPut t k a

end Sys2Proof.Machine
end

