-- ==== Sys2Proof/Machine/Ecdsa.lean ====
section
/-! DEFINITION. ECDSA verification over P-256 (FIPS 186-4), as 15 R450 and R461 use it. -/

namespace Sys2Proof.Machine

def p256P : Nat := 0xFFFFFFFF00000001000000000000000000000000FFFFFFFFFFFFFFFFFFFFFFFF
def p256N : Nat := 0xFFFFFFFF00000000FFFFFFFFFFFFFFFFBCE6FAADA7179E84F3B9CAC2FC632551
def p256B : Nat := 0x5AC635D8AA3A93E7B3EBBD55769886BC651D06B0CC53B0F63BCE3C3E27D2604B
def p256Gx : Nat := 0x6B17D1F2E12C4247F8BCE6E563A440F277037D812DEB33A0F4A13945D898C296
def p256Gy : Nat := 0x4FE342E2FE1A7F9B8EE7EB4A7C0F9E162BCE33576B315ECECBB6406837BF51F5

/-- base^e mod m, over the low `k` bits of `e`. -/
def powMod (m : Nat) : Nat → Nat → Nat → Nat
  | 0, _, _ => 1 % m
  | k + 1, base, e =>
    let r := powMod m k (base * base % m) (e / 2)
    if e % 2 = 1 then r * base % m else r

/-- The inverse modulo a prime, by Fermat. -/
def invMod (m a : Nat) : Nat := powMod m 256 (a % m) (m - 2)

/-- A point of the curve; none is the point at infinity. -/
abbrev EcPoint := Option (Nat × Nat)

/-- Point addition in affine coordinates (a = -3). -/
def ecAdd (u v : EcPoint) : EcPoint :=
  match u, v with
  | none, q => q
  | q, none => q
  | some (x1, y1), some (x2, y2) =>
    if x1 = x2 ∧ (y1 + y2) % p256P = 0 then none
    else
      let l :=
        if x1 = x2 then (3 * x1 * x1 + (p256P - 3)) % p256P * invMod p256P (2 * y1) % p256P
        else (y2 + p256P - y1) % p256P * invMod p256P ((x2 + p256P - x1) % p256P) % p256P
      let x3 := (l * l + 2 * p256P - x1 - x2) % p256P
      some (x3, (l * ((x1 + p256P - x3) % p256P) + p256P - y1) % p256P)

/-- Scalar multiplication over the low `k` bits of the scalar. -/
def ecMul : Nat → Nat → EcPoint → EcPoint
  | 0, _, _ => none
  | k + 1, e, q =>
    let r := ecMul k (e / 2) (ecAdd q q)
    if e % 2 = 1 then ecAdd r q else r

/-- Is (x, y) a point of the curve? -/
def ecOnCurve (x y : Nat) : Bool :=
  x < p256P && y < p256P &&
    y * y % p256P == (x * x * x + (p256P - 3) * x + p256B) % p256P

/-- Does the signature r, s verify over the digest with the public key (64 bytes, x then y)? -/
def ecdsaVerify (pub digest sig : List Byte) : Bool :=
  let x := beVal (slice pub 0 32)
  let y := beVal (slice pub 32 32)
  let r := beVal (slice sig 0 32)
  let s := beVal (slice sig 32 32)
  let e := beVal digest
  if 1 ≤ r ∧ r < p256N ∧ 1 ≤ s ∧ s < p256N ∧ ecOnCurve x y then
    let w := invMod p256N s
    match ecAdd (ecMul 256 (e * w % p256N) (some (p256Gx, p256Gy)))
        (ecMul 256 (r * w % p256N) (some (x, y))) with
    | none => false
    | some (px, _) => px % p256N == r
  else false

end Sys2Proof.Machine
end

