-- ==== Sys2Proof/Config.lean ====
section
/-! DEFINITION. What a part fixes (00_scope R1, Table 0.1) and the values the spec leaves open, as
constants without a body. -/

namespace Sys2Proof

/-- The three parts of the family (00 R1). -/
inductive Part where
  | klt3720
  | klt3712
  | klt3706
  deriving DecidableEq, Repr

namespace Part

/-- Drive lines, Table 0.1. -/
def driveLines : Part → Nat
  | klt3720 => 192
  | klt3712 => 144
  | klt3706 => 96

/-- Sense lines, Table 0.1. -/
def senseLines : Part → Nat
  | klt3720 => 120
  | klt3712 => 96
  | klt3706 => 64

/-- Node memory in KiB, Table 0.1. -/
def nodeKib : Part → Nat
  | klt3720 => 384
  | klt3712 => 256
  | klt3706 => 128

/-- Contacts per tile, Table 0.1. -/
def contacts : Part → Nat
  | klt3706 => 20
  | _ => 40

/-- Sill groups, Table 0.1. -/
def sillGroups : Part → Nat
  | klt3720 => 8
  | _ => 4

/-- Differential Level pairs, Table 1.6. -/
def levelPairs : Part → Nat
  | klt3720 => 4
  | klt3712 => 2
  | klt3706 => 0

/-- The part's own cascade limit, Table 1.6. -/
def maxTiles : Part → Nat
  | klt3720 => 16
  | klt3712 => 8
  | klt3706 => 1

/-- part_code of Table 1.6. -/
def code : Part → Nat
  | klt3720 => 0x20
  | klt3712 => 0x12
  | klt3706 => 0x06

/-- The part number in the IDCODE of 15 R458. -/
def idcodePart : Part → Nat
  | klt3720 => 0x3720
  | klt3712 => 0x3712
  | klt3706 => 0x3706

/-- unit_present, Table 1.7. -/
def unitPresent : Part → Nat
  | klt3720 => 0x6FF
  | klt3712 => 0x5FF
  | klt3706 => 0x5F9

/-- Command ring in KiB, Table 1.6. -/
def cmdKib : Part → Nat
  | klt3720 => 4
  | _ => 2

/-- Report ring in KiB, Table 1.6. -/
def reportKib : Part → Nat
  | klt3720 => 16
  | _ => 8

/-- Image ring in KiB, Table 1.6. -/
def imageKib : Part → Nat
  | klt3720 => 96
  | _ => 48

/-- Record ring in KiB, Table 1.6. -/
def recordKib : Part → Nat
  | klt3720 => 2
  | _ => 1

/-- Does the part contain the Level converter (Table 1.7 bit 1)? -/
def hasLevel : Part → Bool
  | klt3706 => false
  | _ => true

/-- Does the part contain the cascade unit (Table 1.7 bit 2)? -/
def hasCascade : Part → Bool
  | klt3706 => false
  | _ => true

/-- Does the part have slope-controlled bus edges (Table 1.7 bit 9)? -/
def busSlope : Part → Bool
  | klt3720 => true
  | _ => false

end Part

/-- A value the spec leaves open, drawn afresh for each value of State's counter freeIdx: nothing
constrains it (DESIGN CHOICE, log entry 2). -/
opaque Config.freeValue : Nat → Nat

/-- The fuse device_id (15 R448); fixed at Nyilo final test, not given by the spec. -/
opaque Config.deviceId : Nat

/-- The fuse attest_public, as the 512-bit number x then y (15 R448). -/
opaque Config.attestPublic : Nat

/-- The signature of the attestation statement over a digest, r then s: the private key is never
readable and the nonce of the signature is not given (15 R448, R457). The second argument counts
signatures. -/
opaque Config.attestSign : Nat → Nat → Nat

/-- Factory trim pair of internal channel T, c_00 and c_10 as binary32 bits (10 R321). -/
opaque Config.trimC00 : Nat
opaque Config.trimC10 : Nat

/-- Four times the trimmed reference voltage as binary32 bits (10 R321, input V). -/
opaque Config.trimRef4 : Nat

/-- Is a dew point that lies between two steps of 1/256 degree rounded up (06 R178)? The arguments are t_comp (1/256
degree) and humidity (1/256 %RH): the spec gives the formula over the reals and no rounding. -/
opaque Config.dewUp : Int → Nat → Bool

/-- The dew point at 0 %RH, in 1/256 degree from t_comp: the formula of 06 R178 gives none there. -/
opaque Config.dewDry : Int → Int

/-- Is a linearised binary32 value that lies between two steps of 1/256 degree, or of 1/256 %RH, rounded up? 10 Table 10.4
and 06 R174 give no rounding. -/
opaque Config.tempUp : Nat → Bool

/-- Does a crystal that has not started run outside 12.5 % of the fallback oscillator at an instant T? Table 2.1 of 02
R29 has a cause for it, and no rule says when it is known (log entry 82). -/
opaque Config.crystalOff : Nat → Bool

/-- Does the 4 KiB block of a region number hold the state of a node (17 R490)? The second argument is the
node's index, columns first. The spec does not give the layout of node memory. -/
opaque Config.regionNode : Nat → Nat → Bool

end Sys2Proof
end

