-- ==== Sys2Proof/Machine/F32.lean ====
section
/-! DEFINITION. IEEE 754 binary32 with every operation rounded to nearest-even, as 06 R177, 07 R197,
10 R320 and 13 R419 use it. A value is its 32 bits as a Nat. -/

namespace Sys2Proof.Machine

/-- The quiet NaN of 10 R320. -/
def f32NaN : Nat := 0x7FC00000

/-- Infinity with a sign. -/
def f32Inf (neg : Bool) : Nat := if neg then 0xFF800000 else 0x7F800000

/-- Zero with a sign. -/
def f32Zero (neg : Bool) : Nat := if neg then 0x80000000 else 0

def f32Neg (x : Nat) : Bool := bitAt x 31
def f32Exp (x : Nat) : Nat := x / 2 ^ 23 % 256
def f32Man (x : Nat) : Nat := x % 2 ^ 23
def f32IsNaN (x : Nat) : Bool := f32Exp x == 255 && f32Man x != 0
def f32IsInf (x : Nat) : Bool := f32Exp x == 255 && f32Man x == 0
def f32Finite (x : Nat) : Bool := f32Exp x != 255

/-- The magnitude of a finite value as an integer in units of 2^-149. -/
def f32Mag (x : Nat) : Nat :=
  if f32Exp x = 0 then f32Man x else (2 ^ 23 + f32Man x) * 2 ^ (f32Exp x - 1)

/-- A finite value as a signed integer in units of 2^-149. -/
def f32Int (x : Nat) : Int := if f32Neg x then -(f32Mag x : Int) else (f32Mag x : Int)

/-- Round the magnitude `n / d * 2^-149` to nearest-even. `e` is the exponent step at which the
significand of 24 bits stands. -/
def f32Round (neg : Bool) (n d : Nat) : Nat :=
  if n = 0 ∨ d = 0 then f32Zero neg
  else
    let q := n / d
    let e := q.log2 - 23
    let den := d * 2 ^ e
    let m := n / den
    let r := n % den
    let up := 2 * r > den ∨ (2 * r = den ∧ m % 2 = 1)
    let m' := if up then m + 1 else m
    let (m2, e2) := if m' = 2 ^ 24 then (2 ^ 23, e + 1) else (m', e)
    if m2 < 2 ^ 23 then (if neg then 2 ^ 31 else 0) + m2
    else if e2 + 1 ≥ 255 then f32Inf neg
    else (if neg then 2 ^ 31 else 0) + (e2 + 1) * 2 ^ 23 + (m2 - 2 ^ 23)

/-- A finite value in 1/256: exact where it is a whole number of steps, else the step below or the one above it. -/
def tempOf (x : Nat) : Int :=
  let n := 256 * f32Int x
  Int.fdiv n (2 ^ 149) + (if n % 2 ^ 149 != 0 && Config.tempUp x then 1 else 0)

/-- The binary32 value nearest the signed quotient `i / d`. -/
def f32OfRat (i : Int) (d : Nat) : Nat := f32Round (i < 0) (i.natAbs * 2 ^ 149) d

/-- The binary32 value nearest an integer. -/
def f32OfInt (i : Int) : Nat := f32OfRat i 1

def f32Negate (x : Nat) : Nat := if f32Neg x then x - 2 ^ 31 else x + 2 ^ 31

/-- Sum. -/
def f32Add (x y : Nat) : Nat :=
  if f32IsNaN x || f32IsNaN y then f32NaN
  else if f32IsInf x then (if f32IsInf y && f32Neg x != f32Neg y then f32NaN else x)
  else if f32IsInf y then y
  else
    let s := f32Int x + f32Int y
    if s = 0 then f32Zero (f32Neg x && f32Neg y) else f32Round (s < 0) s.natAbs 1

/-- Difference. -/
def f32Sub (x y : Nat) : Nat := if f32IsNaN y then f32NaN else f32Add x (f32Negate y)

/-- Product. -/
def f32Mul (x y : Nat) : Nat :=
  let neg := f32Neg x != f32Neg y
  if f32IsNaN x || f32IsNaN y then f32NaN
  else if f32IsInf x || f32IsInf y then
    (if (f32IsInf x && f32Finite y && f32Mag y == 0) || (f32IsInf y && f32Finite x && f32Mag x == 0)
     then f32NaN else f32Inf neg)
  else f32Round neg (f32Mag x * f32Mag y) (2 ^ 149)

/-- Quotient. -/
def f32Div (x y : Nat) : Nat :=
  let neg := f32Neg x != f32Neg y
  if f32IsNaN x || f32IsNaN y then f32NaN
  else if f32IsInf x then (if f32IsInf y then f32NaN else f32Inf neg)
  else if f32IsInf y then f32Zero neg
  else if f32Mag y = 0 then (if f32Mag x = 0 then f32NaN else f32Inf neg)
  else f32Round neg (f32Mag x * 2 ^ 149) (f32Mag y)

/-- Square root, rounded to nearest-even: the root of mag * 2^-149 is taken with 60 further bits and
a sticky bit, so the rounding sees which side of every boundary the exact root lies on. -/
def f32Sqrt (x : Nat) : Nat :=
  if f32IsNaN x then f32NaN
  else if f32Finite x && f32Mag x == 0 then x
  else if f32Neg x then f32NaN
  else if f32IsInf x then x
  else
    let n := f32Mag x * 2 ^ 149 * 2 ^ 120
    let r := isqrt n
    let sticky := if r * r = n then 0 else 1
    f32Round false (2 * r + sticky) (2 ^ 61)

/-- Strict order of finite values. -/
def f32Lt (x y : Nat) : Bool :=
  if f32IsNaN x || f32IsNaN y then false
  else if f32IsInf x then f32Neg x && !(f32IsInf y && f32Neg y)
  else if f32IsInf y then !f32Neg y
  else f32Int x < f32Int y

/-- The larger of two values. -/
def f32Max (x y : Nat) : Nat := if f32Lt x y then y else x

/-- floor(k * x + 1/2) of a finite value, as an integer. -/
def f32ScaleRound (k : Nat) (x : Nat) : Int :=
  Int.fdiv (2 * k * f32Int x + 2 ^ 149) (2 ^ 150)

end Sys2Proof.Machine
end

