-- ==== Sys2Proof/Machine/State.lean ====
section
/-! DEFINITION. The state of the KLT3720 as plain data, one structure per unit, and the state right after
reset. Each field's docstring names its width, the rule of spec/ that gives it, and its reset value. -/

namespace Sys2Proof.Machine

/-- Why the machine stops. No rule of the spec stops the block with a fault: the type has no inhabitant
that a meaning answers with but the one below. -/
inductive Fault where
  /-- Raised by no meaning: the spec gives the block no fault that stops it. Safe. -/
  | noneRaised
  deriving DecidableEq, Repr

/-- Why a command is refused. -/
inductive Refusal where
  /-- The command has no meaning yet. Safe: nothing is claimed of it. -/
  | notModelled (mnemonic : String)
  /-- Raised by TAP_PRIVATE_INSTRUCTION while test is unlocked: 15 R460 leaves what the instruction does
  to Nyilo's test documentation. Safe: nothing is claimed of it. -/
  | privateTestInstruction
  deriving DecidableEq, Repr

/-- An instant: the 56-bit tick time T (02 R34). -/
abbrev Time := BitVec 56

/-- A column-major grid of node values: one list per logical column, rows ascending. -/
abbrev Grid (α : Type) := List (List α)

/-! ## Time base -/

/-- How far the Story Pole has come since PD4 powered up (02 R37). -/
inductive PoleStage where
  | off
  | waitEdge
  | measuring
  | placed
  deriving DecidableEq, Repr

/-- Chapter 02. -/
structure TimeBase where
  /-- T (56; 02 R34; 0 at PD0 power-up) -/
  t : Time
  /-- the latest valid N of the Story Pole (20; 02 R30; DESIGN CHOICE 0, log 4) -/
  n : BitVec 20
  /-- where the present tick boundary stands, in delay-line units after the beat's edge (20; 02 R30; 0) -/
  place : Nat
  /-- this tile drives CLK32_IO with its own beat (1; 02 R60; 0) -/
  clk32 : Bool
  /-- are ticks placed within the beat? (02 R37; off) -/
  stage : PoleStage
  /-- consecutive beats with N in range while a Story Pole fault stands (02 R32; 0) -/
  inRange : Nat
  /-- Story Pole fault, cause 0b101 (1; 02 R32; 0) -/
  poleFault : Bool
  /-- TIMEBASE_FAULT of the time source (1; 02 R27, Table 2.1; 1 at PD0 power-up) -/
  sourceFault : Bool
  /-- FAULT_CAUSE of the time source (3; 02 R29, Table 2.1; 0b001) -/
  sourceCause : BitVec 3
  /-- CASCADE_LOCKED (1; 02 R29; 0) -/
  cascadeLocked : Bool
  /-- CALENDAR_SET (1; 02 R29; 0) -/
  calendarSet : Bool
  /-- CRYSTAL_RUNNING (1; 02 R29; 0) -/
  crystalRunning : Bool
  /-- the crystal, or CLK32 on a member, is declared running and the switch is due (1; 02 R25, R61; 0) -/
  declared : Bool
  /-- a loss is declared and the takeover is due (1; 02 R26; 0) -/
  takeoverDue : Bool
  /-- T at the latest switch, crystal_since (56; 02 R43; none) -/
  lastSwitch : Option Time
  /-- the calendar offset in 2^-16 s (signed; 02 R40; unread while CALENDAR_SET is 0, DESIGN CHOICE 0, log 4) -/
  calOffset : Int
  /-- TIMEBASE_HI latch (24; 02 R38, 11 R340; 0) -/
  hiLatch : BitVec 24
  /-- a member's held difference to master time (56; 02 R63; DESIGN CHOICE 0, log 4) -/
  masterDiff : Time
  /-- VCORE in mV (02 R54, R55; 900 at PD4 power-up) -/
  vcoreMv : Nat
  /-- margins in percent of the latest frames, newest first, at most 16 (8 each; 02 R54; empty) -/
  margins : List Nat
  /-- the margin of the latest frame awaits the gap's VCORE step (02 R54; none) -/
  frameMargin : Option Nat
  deriving DecidableEq, Repr

/-! ## Panel front end -/

/-- One physical line (03 R84 to R92). -/
structure LineSt where
  /-- confirmed fault cause in force, 0 none (03 Table 3.7; 0) -/
  cause : Nat
  /-- cause confirmed, acting from the next frame boundary (03 R87; 0) -/
  nextCause : Nat
  /-- partner word, 0xFFFF none (03 Table 3.8; 0xFFFF) -/
  partner : Nat
  /-- forced out by the host, in force (03 R90; false) -/
  forced : Bool
  /-- in current limit: undriven for the rest of this frame and to be tested (03 R71; false) -/
  underTest : Bool
  /-- consecutive rolling checks passed while excluded (03 R89; 0) -/
  passes : Nat
  /-- consecutive failures of tests A, B (03 Table 3.7; 0) -/
  aRun : Nat
  bRun : Nat
  /-- partners that the latest test C showed (03 Table 3.7; none) -/
  cSeen : List Nat
  /-- partners of confirmed shorts that are still to be excluded (03 R87; none) -/
  shorts : List Nat
  /-- consecutive self passes under the open criterion (03 Table 3.7; 0) -/
  openRun : Nat
  /-- the latest self value stands under the open criterion (1; 03 R89; false) -/
  openNow : Bool
  /-- consecutive saturating frames at the lowest level (03 R77; 0) -/
  satRun : Nat
  /-- the return of the line is due at the next boundary (03 R89; false) -/
  returning : Bool
  deriving DecidableEq, Repr

/-- A healthy line. -/
def LineSt.healthy : LineSt :=
  ⟨0, 0, 0xFFFF, false, false, 0, 0, 0, [], [], 0, false, 0, false⟩

/-- A self value of one logical line (03 R80, R88). -/
structure SelfVal where
  value : Nat
  interp : Bool
  deriving DecidableEq, Repr

/-- Chapter 03. -/
structure Front where
  /-- drive and sense order in force, true reversed (1 each; 03 R83, Table 3.6; normal) -/
  driveRev : Bool
  senseRev : Bool
  /-- drive_count, sense_count and drive_source in force (03 R82; the parameters' defaults) -/
  driveCount : Nat
  senseCount : Nat
  driveSource : Nat
  /-- measured rail of each swing level, mV (16 each; 03 R67; DESIGN CHOICE nominal, log 5) -/
  rails : List Nat
  /-- driving from VDD in place of VDRV (1; 03 R67; 0) -/
  vdrvFallback : Bool
  /-- the fallback begins at the next frame boundary (1; 03 R67; 0) -/
  fallbackDue : Bool
  /-- consecutive gaps with VDRV in range (03 R67; 0) -/
  vdrvGood : Nat
  /-- the pump has reached its level (1; 03 R66; 0) -/
  pumpSettled : Bool
  /-- lines not healthy, by the word of Table 3.8 (03 R91; none: not remembered, R89) -/
  lines : List (Nat × LineSt)
  /-- next line of the rolling check, and next excluded line (03 R86; DESIGN CHOICE 0, log 5) -/
  rollNext : Nat
  rollExcl : Nat
  /-- self values of the latest self pass by logical line (16; 03 R80; none) -/
  selfDrive : List SelfVal
  selfSense : List SelfVal
  /-- this frame has valid self values (1; 06 R173; 0) -/
  selfValid : Bool
  /-- raw value that each of the six capture integrators holds, by physical sense input (24 each; 03 R74, R75;
  DESIGN CHOICE none, log 5) -/
  integ : List (List Int)
  /-- the full line check has been done since the reset (1; 03 R86; 0) -/
  lineChecked : Bool
  /-- origin of the forcing in force: 2 image, 1 host (16 Table 16.1; 2) -/
  forcedBy : Nat
  /-- last good ratio of each sense converter to its factory value, in 1/1000, by physical sense input (17 R489; DESIGN CHOICE
  1000, log 85) -/
  senseCal : List Nat
  deriving DecidableEq, Repr

/-! ## Scanning -/

/-- Where scanning stands (04 R120, R122). -/
inductive ScanPhase where
  | stopped
  /-- the start sequence waits for the full line check -/
  | waitCheck
  /-- the start sequence waits for the pump -/
  | waitPump
  /-- the start sequence waits for the detection self pass -/
  | waitDetect
  /-- the first frame is due -/
  | waitFrame
  | frames
  /-- the frame in progress completes and no further frame starts -/
  | stopping
  deriving DecidableEq, Repr

/-- How far the frame in progress has come. -/
inductive FrameStage where
  | none
  | started
  | decoded
  | combined
  | tracked
  | written
  deriving DecidableEq, Repr

/-- One mutual pass of the frame (04 R106 to R108), by logical column and row. -/
structure PassData where
  index : Nat
  k : Nat
  /-- node values d_r, 24 bits; none where R88 fills nothing -/
  value : Grid (Option Int)
  interp : Grid Bool
  /-- SAT by column -/
  sat : List Bool
  /-- listen variance by column, none on an excluded line -/
  v : List (Option Nat)
  deriving DecidableEq, Repr

/-- Chapter 04. -/
structure Scan where
  /-- phase of scanning (04 R120; stopped) -/
  phase : ScanPhase
  /-- profile in force (3; 04 R120; 0) -/
  profile : Nat
  /-- parameters 0x0100 to 0x03FF, 0x0500 to 0x05FF and 0x0C00 to 0x0CFF as latched at the latest frame start (04 R126, 03 R94, 07 R227; none) -/
  latched : List (Nat × List Byte)
  /-- frame_ticks (32; 04 R103; 0) -/
  frameTicks : Nat
  /-- FRAME_COUNT (32; 02 R47, 18 R503; 0) -/
  frameCount : BitVec 32
  /-- FRAME_WRAP of the frame in progress (1; 02 R47; 0) -/
  wrapped : Bool
  /-- T at the start of the frame in progress (56; 04 R102; 0) -/
  frameT : Time
  /-- the end of the current pass, at which a tile that lost its lock stops driving (56; 02 R61, 09 R270; none) -/
  stopAt : Option Time
  /-- PARAM_SET changed a field of the running profile: the next frame start follows 04 R121 (1; 04 R121; false) -/
  profChange : Bool
  /-- T at the start of the present frame slot, later than frameT when a slot is skipped (56; 02 R58; 0) -/
  slotT : Time
  /-- the crystal, or CLK32, timed the chip at the frame's start: TIME_VALID (1; 02 R39, 07 Table 7.8; 0) -/
  timeValid : Bool
  /-- how far the frame in progress has come (04 R102; none) -/
  stage : FrameStage
  /-- mutual passes started in this frame (04 R102; 0) -/
  passesStarted : Nat
  /-- T at the start of each of them, in order (56; 02 R62; none) -/
  passTs : List Time
  /-- passes decoded in this frame, in order (04 R106; none) -/
  passes : List PassData
  /-- the active set (04 R112; none) -/
  activeSet : List Nat
  /-- slot and candidate of a change that acts at the next frame start (04 R112; none) -/
  slotChange : Option (Nat × Nat)
  /-- a set named by FREQ_SET that acts at the next frame start, or at the next start of scanning (04 R113; none) -/
  namedSet : Option (List Nat)
  /-- confirmation of R112: worst slot, challenger, count (04 R112; none) -/
  confirm : Option (Nat × Nat × Nat)
  /-- noise metrics m_c (16 of 16; 04 R110; invalid at scan start) -/
  metrics : List (Option Nat)
  /-- NOISE_ALARM (1; 04 R114; 0) -/
  noiseAlarm : Bool
  /-- consecutive quiet decisions (04 R114; 0) -/
  quietRun : Nat
  /-- NOISE_ALARM clears by the frame's decision (04 R114; false) -/
  alarmClearDue : Bool
  /-- swing level (3; 04 R115; 0) -/
  level : Nat
  /-- level from the next frame start (04 R115, R116; none) -/
  nextLevel : Option Nat
  /-- frames below amp_low at this level (04 R115; 0) -/
  lowRun : Nat
  /-- DRIVE_RANGE of the frame in progress (1; 04 R117; 0) -/
  driveRange : Bool
  /-- headroom of the frame: largest |x_0| over its limit, as a fraction, and any SAT (04 R115; 0) -/
  headNum : Nat
  headDen : Nat
  satSeen : Bool
  /-- next candidate to probe (04 R111; 0) -/
  probeNext : Nat
  /-- a probe of this gap is done (04 R111; false) -/
  probed : Bool
  /-- profile from the next frame start (04 R121; none) -/
  nextProfile : Option Nat
  /-- the scanning in progress began by SCAN_START or at boot, and not at a power-state transition (04 R120, 18 R501, 08 R235; false) -/
  startDetect : Bool
  /-- T at the start of the detection self pass of the start in progress (56; 03 R83, R79; none) -/
  detectT : Option Time
  /-- drive overcurrent rows of this frame, logical (03 R71; none) -/
  overRows : List Nat
  /-- the frame is dropped (17 R491; false) -/
  dropped : Bool
  /-- the housekeeping gap after this frame has done its work (1; 17 R488; 0) -/
  gapDone : Bool
  deriving DecidableEq, Repr

/-! ## Plane -/

/-- A combined node word (05 Table 5.3). -/
structure CNode where
  value : Int
  interp : Bool
  warm : Bool
  /-- the node holds its baseline by the last step of 03 R88 -/
  hold : Bool
  deriving DecidableEq, Repr

/-- A detector slot (05 R149 to R155). -/
structure Det where
  max : Int
  min : Int
  sum : Nat
  count : Nat
  rms : Nat
  env : Nat
  tripped : Bool
  rescaled : Bool
  peakValid : Bool
  rmsValid : Bool
  tripTime : Time
  /-- working thresholds (05 R152) -/
  high : Int
  low : Int
  /-- present gain as its power of two (05 Table 5.9) -/
  gain : Nat
  deriving DecidableEq, Repr

/-- A slot after a reset (05 R154), with the default thresholds of Table 5.7. -/
def Det.fresh : Det :=
  ⟨-2147483648, 2147483647, 0, 0, 0, 0, false, false, false, false, 0, 2147483647, -2147483648, 0⟩

/-- What reaches the detector slots within a round (05 R151, R152): an input of a slot with its stamp, a gain step of a
channel, which rescales, and the gain of a Level restart, which does not. -/
inductive DetOp where
  | input (slot : Nat) (x : Int) (stamp : Time)
  | rescale (channel gain : Nat)
  | gain (channel gain : Nat)
  deriving DecidableEq, Repr

/-- The image stream of a tile (05 R140, R141). -/
structure ImageAcc where
  on : Bool
  mode : Nat
  rate : Nat
  count : Nat
  sums : List Int
  interp : List Bool
  warming : Bool
  timeValid : Bool
  drops : Nat
  /-- of the latest image's last frame, for the tile images of that image: frame counter, stamp, flags (11
  Table 11.7) -/
  lastCount : Nat
  lastTime : Nat
  lastFlags : Nat
  deriving DecidableEq, Repr

/-- An IMAGE_SNAPSHOT under way (12 R381): mode, frame counter, stamp and flags of its frame, and by tile the
entries wanted, still awaited, and written. -/
structure Snap where
  mode : Nat
  count : Nat
  time : Nat
  flags : Nat
  wanted : Nat
  left : Nat
  written : Nat
  /-- images of the stream that each tile sends before the snapshot's (09 R290) -/
  after : Nat
  deriving DecidableEq, Repr

/-- Chapter 05. -/
structure Plane where
  /-- temporal state y, 1/256 count (32; 05 R136; seeded at a restart) -/
  y : Grid Int
  /-- frames to go until a re-seeded node is settled; 255 marks a node to be re-seeded (05 Table 5.5; 0) -/
  warm : Grid Nat
  /-- completed frames since the touch-path restart (05 R146; 0) -/
  since : Nat
  /-- every node is re-seeded from its next value with WARM and no WARMING (08 R235; false) -/
  reseedAll : Bool
  /-- combined node words of the frame (32; 05 R138; none) -/
  combined : Grid CNode
  /-- image stream (05 R141; off) -/
  img : ImageAcc
  /-- detector slots (8 of 24 bytes; 05 R154; slot reset) -/
  dets : List Det
  /-- detector_n in force (16 bytes each; 05 R149; none latched) -/
  detCfg : List (List Byte)
  /-- the slots at the start of the round in progress (8; 05 R155; slot reset), what has reached them in it, the slots whose change
  acts at the next boundary, and an instant of the round (05 R149, R154; none) -/
  detAt : List Det
  detIn : List DetOp
  detNew : List Nat
  detT : Time
  deriving DecidableEq, Repr

/-! ## Baseline and environment -/

/-- Baseline states (06 Table 6.1). -/
inductive NodeSt where
  | free
  | frozen
  | suspect
  | held
  deriving DecidableEq, Repr

/-- One node of the baseline unit (06 R156, R158, R164, R168). -/
structure BNode where
  /-- baseline, 1/256 count (32) -/
  b : Int
  st : NodeSt
  /-- held level h, counts -/
  h : Int
  /-- consecutive frames that meet the leaving condition -/
  leave : Nat
  /-- consecutive WATER frames -/
  film : Nat
  /-- block sum of 256·c and its clean frames -/
  acc : Int
  used : Nat
  /-- phase-2 sum and clean frames; also a returning line's mean -/
  p2 : Int
  p2n : Nat
  /-- the node collects acq_frames frames because its line returned -/
  own : Bool
  deriving DecidableEq, Repr

/-- A node before any baseline. -/
def BNode.blank : BNode := ⟨0, .free, 0, 0, 0, 0, 0, 0, 0, false⟩

/-- One line of the baseline unit, units of R157 (06 R157). -/
structure BLine where
  b : Int
  acc : Int
  used : Nat
  p2 : Int
  p2n : Nat
  /-- self delta of the frame, none when not formed -/
  delta : Option Int
  deriving DecidableEq, Repr

/-- A line before any baseline. -/
def BLine.blank : BLine := ⟨0, 0, 0, 0, 0, none⟩

/-- Acquisition (06 R159, R164). -/
inductive Acq where
  | idle
  /-- phase 1 runs after `n` more frames; `forced` is mode 1 -/
  | wait (n : Nat) (forced : Bool)
  /-- phase 2: mode of event 0x0201, slot, frames collected, temperature difference -/
  | phase2 (mode : Nat) (slot : Nat) (frames : Nat) (tdiff : Int)
  deriving DecidableEq, Repr

/-- A scar box in local columns and rows (06 R171). -/
structure Scar where
  x0 : Int
  y0 : Int
  x1 : Int
  y1 : Int
  run : Nat
  deriving DecidableEq, Repr

/-- An object's rest clock and history over the still window (06 R169, R170). -/
structure Rest where
  id : Nat
  /-- stamp at which the clock began -/
  since : Option Time
  /-- stamp, centroid in 1/64 pitch and z of frames within the last 2 s, newest first -/
  hist : List (Time × Int × Int × Int)
  deriving DecidableEq, Repr

/-- Chapter 06. -/
structure Base where
  /-- node baselines and states (06 R156; none in force) -/
  nodes : Grid BNode
  drive : List BLine
  sense : List BLine
  /-- deltas of the frame (16; 06 R156; none) -/
  delta : Grid Int
  water : Grid Bool
  /-- baselines are in force (06 R159; false) -/
  inForce : Bool
  acq : Acq
  /-- tracking block running, its length and frames so far (06 R168; 0) -/
  blockLen : Nat
  blockAt : Nat
  /-- parameters of the 0x0200 range in force (06 R188; none latched) -/
  latched : List (Nat × List Byte)
  /-- frames since the latest valid self values (06 R173; 9, none yet) -/
  selfAge : Nat
  /-- WATER_UNCHECKED of the frame (06 R173; 0) -/
  unchecked : Bool
  rests : List Rest
  scars : List Scar
  /-- nodes to be rebuilt and judged in the next frame (06 R183; none) -/
  judge : List Nat
  /-- combined noise n_s by column, 1/16 count (16; 06 R179; none) -/
  noise : List Nat
  noiseMax : Nat
  /-- t_comp, die temperature, humidity, applied and retained temperatures, 1/256 (06 R174, R185; DESIGN CHOICE 25 degrees, log 6) -/
  tComp : Int
  tDie : Int
  humidity : Option Nat
  tDew : Option Int
  tApplied : Int
  tRetained : Int
  /-- temp_source and humid_source in force (2 each; 06 R188; 0) -/
  tempSrc : Nat
  humidSrc : Nat
  /-- temp_channel and humid_channel in force (4 each; 06 R188; 0) -/
  tempChan : Nat
  humidChan : Nat
  /-- a block has ended: the parameters are latched at the next frame start (1; 06 R188, 01 R15; 0) -/
  latchDue : Bool
  /-- source_in_use (06 Table 6.7; 0) -/
  sourceInUse : Nat
  /-- the source's first reading rebases t_applied (06 R177; false) -/
  rebase : Bool
  condRisk : Bool
  tempFallback : Bool
  /-- T of the latest reading from the named temperature and humidity source (06 R176; none) -/
  tempLast : Option Time
  humidLast : Option Time
  /-- ref_in_use (06 Table 6.7; 0xFE) -/
  refInUse : Nat
  /-- T of the latest die reading (06 R175; none) -/
  dieRead : Option Time
  /-- the reference slot whose reading failed (06 R160, 14 R443; none) -/
  refFault : List Nat
  /-- phase 1, forced or not, ran in this frame (06 R162, R165; false) -/
  phase1 : Bool
  forcedNow : Bool
  /-- the frame is one of phase 2 (06 R159; false) -/
  acquiring : Bool
  /-- objects found at the rest limit: contact ids (06 R170; none) -/
  absorbDue : List Nat
  /-- scar boxes whose region qualifies for the second frame: box index and nodes (06 R171; none) -/
  scarDue : List (Nat × List (Int × Int))
  /-- nodes whose state leaves SUSPECT or HELD this frame (06 Table 6.1; none) -/
  releaseDue : List Nat
  /-- baseline regions lost to an uncorrectable error and not yet rebuilt (06 R183, 17 R491; 0) -/
  rebuildDue : Nat
  /-- rebuilt regions in a phase 2 of their own: nodes, and frames so far (06 Table 6.4; none) -/
  ownPhase : List (List Nat × Nat)
  deriving DecidableEq, Repr

/-! ## Tracker -/

/-- A live contact (07 R198 to R206, R214). -/
structure Contact where
  id : Nat
  gen : BitVec 4
  palm : Bool
  age : Nat
  missed : Nat
  /-- unrounded centroid: sums over weight of the present and the previous frame (07 R195, R198) -/
  cx : Int
  cy : Int
  cw : Nat
  px : Int
  py : Int
  pw : Nat
  /-- reported position (07 R202) -/
  rx : Int
  ry : Int
  /-- position of its record in the last written group (07 R223) -/
  wx : Int
  wy : Int
  z : Nat
  major : Nat
  minor : Nat
  /-- coordinates of R195 in the latest matched frame -/
  x : Int
  y : Int
  /-- start stamp and start centroid (07 R214) -/
  start : Time
  sx : Int
  sy : Int
  /-- largest squared distance from the start -/
  travel2 : Nat
  /-- stamp of the latest matched frame -/
  stamp : Time
  present : Bool
  suspect : Bool
  wet : Bool
  seam : Bool
  longPressed : Bool
  /-- a frame has reached the time of LONG_PRESS (1; 07 Table 7.5; 0) -/
  pressPast : Bool
  /-- footprint nodes of the latest matched frame -/
  foot : List (Int × Int × Int)
  /-- state of this frame's record: 0 new, 1 moved, 2 held, 3 lifted, 4 cancelled (07 R201) -/
  state : Nat
  /-- born since the last written group (07 R223) -/
  fresh : Bool
  /-- owning tile and the tile that may take it over, with its run (09 R286) -/
  owner : Nat
  rival : Option (Nat × Nat)
  deriving DecidableEq, Repr

/-- Key states (07 R212). -/
inductive KeyPhase where
  | off
  | arming
  | on
  | releasing
  deriving DecidableEq, Repr

/-- One key (07 R212, R213). -/
structure Key where
  phase : KeyPhase
  count : Nat
  value : Int
  wet : Bool
  suspect : Bool
  interp : Bool
  /-- time and on_time of the latest written record -/
  wroteT : Nat
  wroteOn : Nat
  /-- stamp at which the key turned ON -/
  onStamp : Time
  /-- transitions since the latest record, and whether one fell in a withheld frame -/
  changes : Nat
  withheld : Bool
  cancelled : Bool
  /-- record state, stamp, value and flags of the latest transition -/
  stamp : Time
  tValue : Int
  tFlags : Nat
  onTime : Nat
  /-- a transition of this frame is due -/
  due : Option KeyPhase
  deriving DecidableEq, Repr

/-- An OFF key. -/
def Key.idle : Key :=
  ⟨.off, 0, 0, false, false, false, 0, 0, 0, 0, false, false, 0, 0, 0, 0, none⟩

/-- A tap that has lifted (07 R215, R216). -/
structure TapRec where
  id : Nat
  gen : Nat
  start : Time
  lift : Time
  sx : Int
  sy : Int
  /-- reported position, travel squared -/
  rx : Int
  ry : Int
  travel2 : Nat
  /-- the tap was the second of a DOUBLE_TAP or part of a TWO_FINGER_TAP -/
  spent : Bool
  /-- deferred: the partner B's id -/
  partner : Option Nat
  /-- the contact B of a tap that TWO_FINGER_TAP, being disabled, does not defer (07 R217) -/
  mate : Option Nat
  deriving DecidableEq, Repr

/-- A gesture waiting to be written (07 R219, R224): code, id, and its 16 bytes. -/
structure Gest where
  code : Nat
  id : Nat
  bytes : List Byte
  deriving DecidableEq, Repr

/-- Chapter 07. -/
structure Tracker where
  /-- the live contacts (07 R198, R199; none) -/
  contacts : List Contact
  /-- contacts that ended and whose end is not yet written (07 R199, R223) -/
  ended : List Contact
  /-- 4-bit generation of each global id, 15 where unlisted (07 R199; 15) -/
  gens : List (Nat × BitVec 4)
  /-- keys not at rest (07 R212; OFF) -/
  keys : List (Nat × Key)
  /-- the keys changed by a write, to be put OFF at the next frame start (07 R210; none) -/
  keyChanges : List Nat
  /-- keys not evaluated in this frame, or in the next one that is not dropped (07 R210; none) -/
  keySkip : List Nat
  /-- recent and deferred taps (07 R215, R216; none) -/
  taps : List TapRec
  /-- gestures of the frame, and the queue of withheld frames (07 R224; none) -/
  gests : List Gest
  queue : List Gest
  /-- gestures lost since the last written header (07 R224; 0) -/
  lost : Nat
  /-- withheld frames since the last written group, OR of their flags, AND of TIME_VALID (07 R223; 0) -/
  withheld : Nat
  heldFlags : Nat
  heldValid : Bool
  /-- seeds refused in this frame (07 R200; 0) -/
  refused : Nat
  /-- the tracker's own tile has more than 40 peaks in a frame of a cascade (09 R284; false) -/
  tooMany : Bool
  /-- ids whose lift is due in this frame, and ids with the tile that their ownership passes to (07 R198, 09 R286; none) -/
  liftDue : List Nat
  ownerDue : List (Nat × Nat)
  /-- a SILL_SWIPE record to be written first in the next group (08 R241; none) -/
  sillSwipe : Option Gest
  /-- stamp of the frame (02 R45; 0) -/
  stamp : Time
  /-- tick at which the touch outputs of withheld content became pending sources in a wake check: bits 2 to 5 (08 R242; 0) -/
  heldSources : BitVec 25
  deriving DecidableEq, Repr

/-! ## Power and Sill scan -/

/-- A Sill group at work (08 R239, R240). -/
structure Sill where
  enabled : Bool
  /-- disabled for a count out of range until the next entry (08 R240) -/
  faulty : Bool
  /-- baseline, 1/256 count (08 R239) -/
  b : Int
  /-- readings since entry, up to 4, and their sum -/
  acq : Nat
  acqSum : Nat
  armed : Bool
  /-- readings taken while armed -/
  confirms : Nat
  /-- was the last reading at or above threshold? -/
  above : Bool
  last : Nat
  deriving DecidableEq, Repr

/-- A group not enabled. -/
def Sill.idle : Sill := ⟨false, false, 0, 0, 0, false, 0, false, 0xFFFF⟩

/-- A requested entry to DORMANT or WATCH (08 R231, R234). -/
structure SleepReq where
  target : Nat
  cause : Nat
  /-- tag of a deferred SET_POWER whose reply is not yet written -/
  tag : Option Nat
  deriving DecidableEq, Repr

/-- Chapter 08. -/
structure Power where
  /-- STATE (2; 08 R251; 0b11) -/
  st : BitVec 2
  /-- WAKE_CAUSE (3; 08 R251; 0b110) -/
  wakeCause : BitVec 3
  /-- WAKE_CHECK (1; 08 R251; 0) -/
  wakeCheck : Bool
  /-- HOST_ASLEEP (1; 08 R251; 0) -/
  hostAsleep : Bool
  /-- NODES_RETAINED (1; 08 R251; 0) -/
  nodesRetained : Bool
  /-- level of the HSLEEP pin (1; 08 R243; DESIGN CHOICE low, log 7) -/
  hsleep : Bool
  /-- domains on: PD1, PD2 and PD3, PD4 (08 R228; off) -/
  pd1 : Bool
  pd2 : Bool
  pd4 : Bool
  /-- node memory content is held (on or in retention) (08 R230; false) -/
  nodesHeld : Bool
  /-- requested entry (08 R231; none) -/
  entry : Option SleepReq
  /-- the profile whose scanning the request ended (3; 08 R231, R544; none) -/
  entryRan : Option Nat
  /-- transition between DOZE and ACTIVE at the next frame start: target, cause, profile (08 R233; none) -/
  next : Option (Nat × Nat × Nat)
  /-- the transition that the master's latest DIRECT ordered, which acts at the next frame start (08 R247; none) -/
  ordered : Option (Nat × Nat × Nat)
  /-- T from which idle time counts (08 Table 8.2; 0) -/
  idleFrom : Time
  /-- T at which the host became asleep (08 Table 8.2; none) -/
  sleepFrom : Option Time
  /-- T of entry to DORMANT or WATCH (08 Table 8.2; none) -/
  entryT : Option Time
  /-- bring-up after a wake: what starts once PD1 and PD4 are ready: wake cause, target state, profile (08 R236; none) -/
  waking : Option (Nat × Nat × Option Nat)
  /-- T at which the wake began, for events of the same beat (08 R248; 0) -/
  wakeT : Time
  /-- the host fell asleep during a wake check: sleep_state is requested when the check succeeds (08 R244,
  Table 8.7; false) -/
  sleepDue : Bool
  /-- the wake check has failed and its scanning is ending (08 Table 8.6; false) -/
  checkFailed : Bool
  /-- wake check: report pointer and record count at the wake, T of the first frame start, frames (08 R242; 0) -/
  checkHead : Nat
  checkRecs : Nat
  checkFrom : Option Time
  checkFrames : Nat
  /-- running on VBK alone (1; 08 R246; 0) -/
  onVbk : Bool
  /-- Sill groups (08 R239; not enabled) -/
  sills : List Sill
  /-- Sill parameters in force since entry (08 R252; none) -/
  latched : List (Nat × List Byte)
  /-- T of the present Sill period's start, and of the next (08 R238; none) -/
  periodT : Option Time
  /-- group whose window runs and its end; groups still to measure in this period (08 R238; none) -/
  window : Option (Nat × Time)
  todo : List Nat
  /-- run of onsets: group and end of window, oldest first (08 R241; none) -/
  run : List (Nat × Time)
  /-- SYNC is held low by this tile until (08 R247; none) -/
  syncLow : Option Time
  deriving DecidableEq, Repr

/-! ## Link, attention, rings -/

/-- What the pop of a report record sets off (11 R331, 12 R370). -/
inductive RecMark where
  | plain
  | resetReply (kind : Nat)
  | widthReply (width : Nat)
  deriving DecidableEq, Repr

/-- A push, record or entry of a ring. -/
structure Item where
  bytes : List Byte
  mark : RecMark
  deriving DecidableEq, Repr

/-- A ring: content oldest first, head and tail as running offsets below twice the ring size (11 R342). -/
structure Ring where
  items : List Item
  head : Nat
  tail : Nat
  deriving DecidableEq, Repr

/-- An empty ring. -/
def Ring.empty : Ring := ⟨[], 0, 0⟩

/-- Chapter 11, the link. -/
structure Link where
  /-- BUSY (1; 11 R338; 1) -/
  busy : Bool
  /-- CRC_ERROR for the next leader (1; 11 Table 11.2; 0) -/
  crcError : Bool
  /-- an image was dropped and no entry has been written whole since (1; 11 Table 11.2; 0) -/
  imageFull : Bool
  /-- MODE (2; 11 Table 11.4; 1) -/
  mode : BitVec 2
  /-- WIDTH in force (2; 11 Table 11.4; 0) -/
  width : BitVec 2
  /-- status byte of the latest transaction (8; 11 Table 11.4; 0x80) -/
  status : Byte
  /-- TALLY_SEQ_HI latch (16; 11 R340; 0) -/
  seqHi : BitVec 16
  /-- bytes the chip shifted out in the latest transaction (11 R330; none) -/
  out : List Byte
  deriving DecidableEq, Repr

/-- HOLDOFF_Gn (11 R349). -/
structure Group where
  priority : BitVec 3
  scale : BitVec 2
  count : Byte
  /-- end of the running hold-off and its unit's exponent -/
  holdEnd : Option Time
  holdScale : BitVec 2
  deriving DecidableEq, Repr

/-- A group at reset. -/
def Group.initial : Group := ⟨0, 0, 0, none, 0⟩

/-- The WAKE pin (11 R350). -/
inductive WakeSt where
  | low
  /-- high until -/
  | high (till : Time)
  /-- low after a pulse that ended at the time -/
  | gap (since : Time)
  deriving DecidableEq, Repr

/-- Chapter 11, the attention controller. -/
structure Attn where
  /-- ATTN_VECTOR (32; 11 Table 11.4; 0) -/
  vector : Word
  /-- ATTN_PENDING (25; 11 Table 11.4; 0) -/
  pending : BitVec 25
  /-- ATTN_ACTIVE (25; 11 Table 11.4; 0) -/
  active : BitVec 25
  /-- ATTN_IN_SERVICE (25; 11 Table 11.4; 0) -/
  inService : BitVec 25
  /-- activations acknowledged by DONE or W1C (25; 08 R231; 0) -/
  acked : BitVec 25
  /-- level sources claimed during the present activation (25; 08 R231; 0) -/
  claimed : BitVec 25
  /-- CLEARED_BEFORE_SERVICE (6; 11 R348; 0) -/
  cbs : BitVec 6
  /-- the latest instant at which hardware set a bit of ATTN_PENDING or CLEARED_BEFORE_SERVICE, and the bits set at
  it, which a host clear of the same instant leaves set (56, 25, 6; 00 R9, 02 Table 2.6; 0) -/
  setT : Time
  setPend : BitVec 25
  setCbs : BitVec 6
  /-- ATTN_ENABLE (25; 11 Table 11.4; 0) -/
  enable : BitVec 25
  /-- ATTN_GLOBAL.ENABLE (1; 11 Table 11.4; 0) -/
  global : Bool
  /-- VECTOR_BASE (32; 11 Table 11.4; 0x100) -/
  base : Word
  /-- VECTOR_STRIDE (2; 11 Table 11.4; 0) -/
  stride : BitVec 2
  /-- HOLDOFF_G0 to G7 (11 Table 11.4; 0) -/
  groups : List Group
  /-- ATTN_WAKE_GROUPS (8; 11 Table 11.4; 0) -/
  wakeGroups : BitVec 8
  /-- ATTN_N asserted (1; 11 R350; 0) -/
  attnN : Bool
  /-- the WAKE pin (1; 11 R350; low) -/
  wake : WakeSt
  /-- cause and group of a WAKE pulse to start (11 R350; none) -/
  wakeDue : Option (Nat × Nat)
  /-- the set of deliverable wake-worthy sources is not empty while the host is asleep (11 R350; false) -/
  wakeSet : Bool
  deriving DecidableEq, Repr

/-- A reply that waits to be written (12 R358). -/
structure Reply where
  tag : Nat
  opcode : Nat
  status : Nat
  kind : Nat
  seq : Nat
  data : List Byte
  mark : RecMark
  deriving DecidableEq, Repr

/-- A deferred command outstanding (12 R363): its tag, opcode, packet_seq, parameter bytes and T of acceptance. -/
structure Deferred where
  tag : Nat
  opcode : Nat
  seq : Nat
  par : List Byte
  t : Time
  deriving DecidableEq, Repr

/-- Chapter 12. -/
structure Bench where
  /-- packets taken since the reset (16; 12 Table 12.2; 0) -/
  packetSeq : BitVec 16
  /-- bytes of the push at the ring's tail already taken (12 R355; 0) -/
  taken : Nat
  /-- a held reply and the final replies behind it (12 R395; none) -/
  held : List Reply
  /-- deferred commands outstanding, in order of acceptance, at most 8 (12 R363; none) -/
  outstanding : List Deferred
  /-- final replies that are ready while that of an earlier command of the same unit is not (12 R364; none) -/
  turn : List Reply
  /-- kind of an armed RESET, and T at which its reply was written (12 R370; none) -/
  resetArmed : Option (Nat × Option Time)
  /-- fault, partner and cascade records that wait for space, at most 8 (11 R343; none) -/
  faultQueue : List (List Byte)
  /-- modes of the snapshots due with the next completed frame, and the snapshots whose frame has completed, each in
  the order of their commands (12 R381; none) -/
  snapModes : List Nat
  snaps : List Snap
  /-- the drive lines park at this chip boundary and the frame is discarded (04 R122; none) -/
  parkDue : Option Time
  /-- the sole reply of the command that Bench is executing, written once the parking or the end of the start sequence comes (04 R122, Table 4.5; none) -/
  owed : Option Reply
  deriving DecidableEq, Repr

/-! ## Tally -/

/-- A Tally record (16 R470). -/
structure TallyRec where
  epoch : Nat
  seq : Nat
  code : Nat
  source : Nat
  flags : Nat
  count : Nat
  /-- the 48-bit data field -/
  data : Nat
  deriving DecidableEq, Repr

/-- One sector of the Tally log (16 R480): its sector number, header fields and places 1, 2, …; a torn
place is none. -/
structure TallySector where
  sector : Nat
  epoch : Nat
  firstSeq : Nat
  places : List (Option TallyRec)
  deriving DecidableEq, Repr

/-- Chapter 16, the part in PD0 and the drain. -/
structure Tally where
  /-- newest seq and epoch (32, 16; 16 R471; 0) -/
  seq : Nat
  epoch : Nat
  /-- has any record been written since seq was 0 (16 R471; false) -/
  started : Bool
  /-- retention memory: undrained records, oldest first, at most 64 (16 R476; empty) -/
  kept : List TallyRec
  /-- T since which the newest record is open (16 R472; none) -/
  openT : Option Time
  /-- overwrite counter (16; 16 R477; 0) -/
  overwrites : Nat
  /-- count and first seq lost since the last 0x0008 (16 R477; none) -/
  lostRun : Option (Nat × Nat)
  /-- TALLY_DEGRADED, TALLY_UNAVAILABLE (1 each; 16 R482, R483; 0) -/
  degraded : Bool
  unavailable : Bool
  /-- the retention memory is invalid: PD0 lost both supplies (16 R478; true) -/
  invalid : Bool
  /-- T and calendar of the latest marks (16 R473, R474; none) -/
  lastMarkT : Option Time
  lastMarkCal : Option Int
  /-- the log is usable and the write position is known (16 R478, R482; false) -/
  logReady : Bool
  /-- consecutive log sectors that failed (16 R482; 0) -/
  failedRun : Nat
  /-- T of the latest retention check (16 R476; none) -/
  checkedT : Option Time
  deriving DecidableEq, Repr

/-! ## Telemetry and gap -/

/-- Chapter 17. -/
structure Tel where
  /-- the counters of Table 17.4 (32 each; 17 R494; 0) -/
  scheduled : Nat
  lostOverrun : Nat
  lostEcc : Nat
  withheld : Nat
  degraded : Nat
  fallbackTimed : Nat
  marginLow : Nat
  eccCorrected : Nat
  tenonCrc : Nat
  tenonDropped : Nat
  scrubPasses : Nat
  /-- margin_min_pct (8; 17 R494; 100) -/
  marginMin : Nat
  /-- cleared_at (56; 17 R494; T at the clear) -/
  clearedAt : Time
  /-- complete days, newest first, at most 30: scheduled and lost; and the present day (17 R493; none) -/
  days : List (Nat × Nat)
  today : Nat × Nat
  /-- T of the day's start and of the latest period (17 R493; 0) -/
  dayFrom : Time
  periodFrom : Time
  /-- next word of the scrubber and next converter to calibrate (17 R489, R491; 0) -/
  scrubAt : Nat
  calNext : Nat
  deriving DecidableEq, Repr

/-! ## Boot and supply -/

/-- Where the boot stands (18 R500). -/
inductive BootPhase where
  /-- held in reset: power-on reset or RESET_N -/
  | held
  /-- released, PD1 and PD4 powering up -/
  | released
  /-- discovery and node-memory initialisation run -/
  | starting
  /-- an image is being verified -/
  | verifying
  /-- a member waits for its image and CLK32 -/
  | waitImage
  | done
  deriving DecidableEq, Repr

/-- Kinds of reset (18 Table 18.2). -/
inductive ResetKind where
  | powerUp
  | vddReturn
  | boot
  | recovery
  | warm
  deriving DecidableEq, Repr

/-- Chapters 18 and 19. -/
structure Boot where
  /-- step of the boot, and the kind of the latest reset (18 R498, R503; held at the power-up) -/
  phase : BootPhase
  kind : ResetKind
  /-- T of the release (18 R498; none) -/
  releaseT : Option Time
  /-- T from which the release counts: the instant the reset condition ended (18 R498) -/
  heldT : Option Time
  /-- node memory initialised, discovery done (18 R504; 14 R427; 0) -/
  nodeInit : Bool
  discovered : Bool
  /-- discovery failed (14 R427) -/
  discoveryFailed : Bool
  /-- RECOVER_N as sampled, MODE1:MODE0 as sampled (18 R498; DESIGN CHOICE high and 0, log 7) -/
  recoverLow : Bool
  straps : BitVec 2
  /-- recovery cause, 0 none (15 R463; 0) -/
  recovery : Nat
  /-- recovery is due with this cause (18 R507; none) -/
  recoveryDue : Option Nat
  /-- slot being verified and whether the other slot has been tried (14 R435; none) -/
  verifySlot : Option (Nat × Bool)
  /-- VDD low warning, thermal warning and clamp (19 R518, R519; 0) -/
  vddLow : Bool
  thermalWarn : Bool
  thermalClamp : Bool
  /-- junction temperature as last read, 1/256 degree, and consecutive gaps below the clamp's clearing limit (19 R518; DESIGN CHOICE 25 degrees, log 6) -/
  tj : Int
  coolGaps : Nat
  deriving DecidableEq, Repr

/-! ## Cascade -/

/-- Roles (09 Table 9.1). -/
inductive Role where
  | standalone
  | master
  | member
  deriving DecidableEq, Repr

/-- Port states (09 Table 9.16). -/
inductive PortPhase where
  | down
  | bringup
  | run
  | fault
  deriving DecidableEq, Repr

/-- One Tenon port (09 R262 to R265). -/
structure Port where
  /-- STATE (2; 09 Table 9.16; 0) -/
  phase : PortPhase
  /-- RATE (2; 09 Table 9.16; 0b11) -/
  rate : BitVec 2
  /-- DI_INV, SI_INV (1 each; 09 Table 9.16; 0) -/
  diInv : Bool
  siInv : Bool
  /-- T at which bring-up starts or restarts (09 R263; none) -/
  upFrom : Option Time
  /-- inversion states tried since then (09 R262; 0) -/
  tried : Nat
  deriving DecidableEq, Repr

/-- A port that is down. -/
def Port.initial : Port := ⟨.down, 3, false, false, none, 0⟩

/-- What the master holds of one grid position (09 R257, R271 to R275, R291 to R293, R300). -/
structure Member where
  cap : TileCap
  placed : Bool
  joined : Bool
  refused : Bool
  reason : Nat
  /-- consecutive frames without a REPORT (09 R291) -/
  missed : Nat
  reported : Bool
  ready : Bool
  /-- what a tile says of itself whose JOIN waits for CASCADE_PLAN mode 2 (09 R293) -/
  offer : TileCap
  waiting : Bool
  /-- TIME and PLAN of a re-join wait for the image to be delivered (09 R293) -/
  planDue : Bool
  /-- images of the stream that have come from the tile, or will not come (09 R290; 12 R381) -/
  imgGot : Nat
  metrics : List Nat
  headNum : Nat
  headDen : Nat
  sat : Bool
  levels : List Nat
  noiseMax : Nat
  peaks : List Peak
  pieces : List FootPiece
  keys : List KeyPartial
  more : Bool
  water : Bool
  deriving DecidableEq, Repr

/-- A position with no tile. -/
def Member.none : Member :=
  ⟨⟨0, 0, 0, 0⟩, false, false, false, 0, 0, false, false, ⟨0, 0, 0, 0⟩, false, false, 0, [], 0, 1, false, [], 0, [], [], [], false, false⟩

/-- The payload of a Tenon message sent by this tile. Where 09 Table 9.4 gives the content of a payload and no
byte layout, the content stands here. -/
inductive TenonBody where
  | bytes (bs : List Byte)
  | cross (deltas : List Int)
  | strip (nodes : List StripNode)
  | report (body : ReportBody)
  | direct (body : DirectBody)
  | plan (body : PlanBody)
  | time (t : Nat)
  | enum (col row : Nat)
  | enumReply (cap : TileCap) (col row : Nat)
  | join (cap : TileCap)
  deriving DecidableEq, Repr

/-- A Tenon message sent by this tile: type, destination, sequence number and payload (09 Table 9.3). -/
structure TenonMsg where
  type : Nat
  dest : Nat
  /-- tile number of the sender, 0xFE while unplaced -/
  src : Nat
  seq : Nat
  /-- ports by which it leaves this tile: 0 N, 1 E, 2 S, 3 W (09 R266) -/
  ports : List Nat
  payload : TenonBody
  deriving DecidableEq, Repr

/-- A message that waits for its ACK (09 R267). -/
structure AckWait where
  msg : TenonMsg
  sentT : Time
  resends : Nat
  deriving DecidableEq, Repr

/-- A node of a neighbour that this tile holds for the frame, by global column and row (09 R283). -/
structure SeamNode where
  col : Int
  row : Int
  delta : Int
  flags : Nat
  inc : Option Int
  deriving DecidableEq, Repr

/-- Chapter 09. -/
structure Cascade where
  /-- role in force (2; 09 R254; standalone) -/
  role : Role
  /-- own tile number, none while unplaced (8; 09 Table 9.15; 0xFF or 0 by role) -/
  tile : Option Nat
  /-- grid columns and rows (4 each; 09 R273; 0) -/
  cols : Nat
  rows : Nat
  /-- members by tile number (16; 09 R256; none) -/
  members : List Member
  ports : List Port
  /-- plan_id, PLAN_VALID, code length exponent, drive_count per tile-row, first frame (09 R279, Table 9.15; 0) -/
  planId : BitVec 16
  planValid : Bool
  codeLog : Nat
  driveCounts : List Nat
  /-- sense_count per tile-column (09 R259; none) -/
  senseCounts : List Nat
  /-- tenon_rate in force (2; 09 R262, R301; 0) -/
  rate : Nat
  firstFrame : Nat
  /-- plan waiting for a frame start (09 R294; none) -/
  nextPlan : Option PlanBody
  /-- SYNC_LOCKED (1; 09 Table 9.15; 0) -/
  syncLocked : Bool
  rerouted : Bool
  /-- any grid position's data was missing in this frame (09 R291; 0) -/
  degraded : Bool
  /-- T at the latest cascade event (32; 09 Table 9.15; 0) -/
  eventT : Time
  txSeq : Byte
  /-- messages sent and not yet taken by the link (09 R266; none) -/
  out : List TenonMsg
  ackWait : List AckWait
  /-- the neighbours' border deltas of this frame are merged and its tests done (09 R281; false) -/
  merged : Bool
  /-- CASCADE_PLAN mode 0 waits for the end of scanning, and the profile that resumes (09 R294; none) -/
  redo : Bool
  resume : Option Nat
  /-- the master scans its own tile alone (09 R280; 18 Table 18.3; false) -/
  alone : Bool
  /-- T of the latest new ENUM_REPLY while enumeration is open (09 R273; none) -/
  enumT : Option Time
  /-- T at which enumeration closed and the first frame is not yet fixed (09 R275; none) -/
  closedT : Option Time
  /-- nodes of neighbours for this frame and border nodes decoded for them (09 R281 to R283; none) -/
  seam : List SeamNode
  cross : List (Int × Int × Int)
  /-- image bytes received as IMAGE_CHUNK (09 R274; none) -/
  imageRx : List Byte
  /-- SYNC: consecutive mismatched frames with the one in progress where it is mismatched, announced instant, mismatch of this
  frame (09 R270; 0) -/
  syncBad : Nat
  syncNext : Option Time
  syncMiss : Bool
  /-- the frame instant that the schedule has reached, and that of the latest frame pulse (56 each; 09 R270; none) -/
  syncFrameT : Option Time
  syncPulseT : Option Time
  /-- SYNC is lost (09 R270; false) -/
  syncLost : Bool
  /-- the instant that the latest pass pulse announces for the next pass (56; 09 R269; none) -/
  passNext : Option Time
  /-- a member's next frame has a first pulse announced (09 R269; none) -/
  orders : List (Int × Int)
  /-- tile image being received from members: tile and bytes (09 R290; none) -/
  imageIn : List (Nat × List Byte)
  /-- images that the stream has formed (09 R290; 0) -/
  imgFormed : Nat
  /-- the last DIRECT's probe, from the next frame start, and the probe of the present frame (09 R277; none) -/
  probeFrom : Option Nat
  probeNow : Option Nat
  /-- a placed member has had a port go down since it last sent JOIN (09 R293; false) -/
  relink : Bool
  /-- this tile has sent JOIN: its next plan begins with acquisition (09 R293; false) -/
  rejoining : Bool
  /-- ports by which ENUM has come since this tile took its position (09 R271; none) -/
  enumPorts : List Nat
  /-- T at which an image delivered to this tile after its boot was whole; it awaits its verification (09 R274; 15 R451; none) -/
  imageDue : Option Time
  /-- a member's knowledge of the joined tiles, as the master's latest PLAN or DIRECT gives it (16; 09 Table 9.15; 0) -/
  told : Nat
  /-- ports that members have reported down, by tile and port (09 R266, Table 9.12; none) -/
  linksDown : List (Nat × Nat)
  /-- the enumeration that runs is CASCADE_PLAN's (09 R280, R294; false) -/
  replan : Bool
  /-- readings of sources 2 and 3 that the master has still to pass on (06 R174; none) -/
  envTemp : List (Nat × Int)
  envHumid : List (Nat × Int)
  deriving DecidableEq, Repr

/-! ## Level -/

/-- A request of the Level queue (10 R314). -/
structure LvlReq where
  slot : Nat
  eligible : Time
  urgent : Bool
  /-- trigger field of its records (10 Table 10.4) -/
  source : Nat
  /-- count, 0 continuous -/
  count : Nat
  /-- trigger edge instant for R309 -/
  edgeT : Option Time
  /-- requested while refbuf_enable was 0 (10 R305) -/
  bufOff : Bool
  /-- has LEVEL_REQUEST_ELIGIBLE been seen? -/
  ready : Bool
  deriving DecidableEq, Repr

/-- What the comparators saw over a block of modulator samples: overload, missing reference, wrong sign (10
R312, R319). -/
structure SpanBits where
  clip : Bool
  refLow : Bool
  refNeg : Bool
  deriving DecidableEq, Repr

/-- The running conversion (10 R308 to R323). -/
structure LvlRun where
  req : LvlReq
  /-- the slot entry it runs by; a changed one acts at the next round boundary (10 R303) -/
  entry : List Byte
  /-- in the open-wire check (10 R318) -/
  checking : Bool
  startT : Time
  /-- instant from which the fine path's blocks count, and of the fast path's restart (05 R133, R143) -/
  fineT : Time
  fastT : Time
  gain : Nat
  /-- settled fine results delivered -/
  delivered : Nat
  /-- settled samples in a row below the step-up limit -/
  lowRun : Nat
  /-- largest |code| of the coarse values since the fine boundary; overload seen in the interval -/
  coarseMax : Nat
  overload : Bool
  /-- blocks of the fine path and of the fast path, newest first, the head still open -/
  fineBits : List SpanBits
  fastBits : List SpanBits
  rangeChange : Bool
  openWire : Bool
  tooFast : Bool
  /-- the first edge that acted in this conversion (10 R308; none), and the start of the open-wire check (R318) -/
  firstEdge : Option Time
  checkT : Time
  /-- the fine boundary of the latest auto-range step (10 R311; none) -/
  stepT : Option Time
  /-- a LEVEL_CONVERT stop, and a Level restart, act at the next round boundary -/
  stopReq : Bool
  restart : Bool
  /-- integrators and comb delays of the fine path (05 R142) and of the fast path (R143) -/
  fineAcc : List Int
  fineComb : List Int
  fastAcc : List Int
  fastComb : List Int
  /-- the coarse code that the open-wire check reads (10 R318; none yet) -/
  owCode : Option Int
  /-- edges that lie in the span of a coarse value, the edge that restarts the fine path at its round, and the latest round
  (10 R308; none) -/
  edges : List Time
  pendEdge : Option Time
  roundT : Option Time
  deriving DecidableEq, Repr

/-- One value that Plane hands over: code, whether coarse or settling, and what its span saw. -/
structure LvlValue where
  code : Int
  clip : Bool
  coarse : Bool
  settling : Bool
  span : SpanBits
  deriving DecidableEq, Repr

/-- A value held until its hand-over (05 R129): the conversion it belongs to, its completion instant, its stamp and flags,
and whether it becomes a record (10 R322). -/
structure LvlHeld where
  run : LvlRun
  value : LvlValue
  doneT : Time
  stamp : Time
  flags : Nat
  give : Bool
  deriving DecidableEq, Repr

/-- One Level slot's run-time state (10 R315, R320, R323). -/
structure LvlSlot where
  seq : BitVec 16
  missed : Nat
  lost : Bool
  /-- latest valid linearised value, binary32 bits, with its T (10 R320; none) -/
  value : Option (Nat × Time)
  owFault : Bool
  /-- next firing of the slot's timer (10 R313; none) -/
  timerNext : Option Time
  /-- a trigger entry just changed: the old one, its timer's next firing, and the round boundary up to which they act (10 R313;
  none) -/
  trigWas : Option (List Byte × Option Time × Time)
  reversedRun : Bool
  deriving DecidableEq, Repr

/-- A slot at reset. -/
def LvlSlot.initial : LvlSlot := ⟨0, 0, false, none, false, none, none, false⟩

/-- Chapter 10. -/
structure Level where
  /-- PD5 powered (10 R317; off) -/
  pd5 : Bool
  /-- T of PD5's power-up, and since when nothing needs it (10 R317; none) -/
  pd5Since : Time
  idleSince : Option Time
  /-- reference buffer on, since when, settled (10 R305; off) -/
  bufOn : Bool
  bufT : Time
  bufSettled : Bool
  /-- excitation on, reversed, latched off by overcurrent, E_0, next reversal (10 R306, R307, R310; off) -/
  excOn : Bool
  reversed : Bool
  tripped : Bool
  excT : Time
  nextEdge : Option Time
  /-- the half-period that the polarity follows (10 R307; 0) -/
  halfPeriod : Nat
  /-- exc_enable and exc_half_period in force since the latest beat (10 R306, R328; false, 0) -/
  excIn : Bool
  excH : Nat
  /-- the round boundary at which a buffer that is on turns off (10 R305, R328; none) -/
  bufOffT : Option Time
  /-- values of changed parameters that act up to the next round boundary: ID, old value, boundary (10 R328; none) -/
  was : List (Nat × List Byte × Time)
  /-- slots of other tiles with a discarded record: tile · 16 + slot (10 R323; none) -/
  lostFar : List Nat
  queue : List LvlReq
  running : Option LvlRun
  slots : List LvlSlot
  /-- records that wait for space, at most 4: slot and bytes (10 R323; none) -/
  waiting : List (Nat × List Byte)
  /-- EXC_TOO_FAST, REF_MISSING, EXC_OVERCURRENT (10 Table 10.7; 0) -/
  tooFast : Bool
  refMissing : Bool
  overcurrent : Bool
  /-- completion instant of the previous conversion's last output (10 R314; none) -/
  lastEnd : Option Time
  /-- values that Plane holds until 32 ticks after their completion (05 R129; none) -/
  held : List LvlHeld
  /-- instant of the latest change of polarity (10 R307; none) -/
  flipT : Option Time
  /-- last good ratio of Level's converter to its factory value at gains 1 and 128, in 1/1000 (17 R489; DESIGN CHOICE 1000,
  log 85) -/
  levelCal : List Nat
  deriving DecidableEq, Repr

/-! ## Sensor bus -/

/-- Bus states (13 Table 13.6). -/
inductive BusPhase where
  | off
  | starting
  | ready
  | stuck
  deriving DecidableEq, Repr

/-- Stages of a bus start, or of the recovery of R405 (13 R401). -/
inductive BusStage where
  | none
  | settle
  | watch
  | offWait
  | settle2
  | roles
  deriving DecidableEq, Repr

/-- A bus job (13 R413). -/
inductive BusJob where
  | alert (n : Nat)
  | xfer (tag : Nat) (addr : Nat) (form : Nat) (wdata : List Byte) (rlen : Nat)
  | env (humid : Bool)
  | probe (entry : Nat)
  deriving DecidableEq, Repr

/-- One partner (13 Table 13.5). -/
structure Partner where
  state : Nat
  misses : Nat
  lastByte : Nat
  changed : Nat
  seen : Nat
  deriving DecidableEq, Repr

/-- An unused entry. -/
def Partner.unused : Partner := ⟨0, 0, 0, 0, 0⟩

/-- Chapter 13. -/
structure Bus where
  /-- bus_state (2; 13 Table 13.6; off) -/
  phase : BusPhase
  /-- stage of a bus start or of R405; none with `phase` starting: the start is due; roles with `phase`
  ready: the role decision is to be repeated (13 R401, R420) -/
  stage : BusStage
  /-- the instant at which the stage, or the wait before a start, ends at the latest (13 R401) -/
  stageT : Time
  /-- the stages run for a stretch timeout (13 R405; false) -/
  recovering : Bool
  /-- the start follows a wake with VBR kept on: step 5 is skipped (13 R409; false) -/
  keepRoles : Bool
  /-- outcome of a BUS_BRANCH action 2 whose reply is due (13 R408; none) -/
  branchDone : Option Nat
  /-- BUS_BRANCH actions waiting for the job on the bus (13 R408; none) -/
  branchDue : List Nat
  /-- the bus has been stuck since the last start that passed (13 R406; false) -/
  wasStuck : Bool
  /-- roles status 0, 1, 2 and the exchange in force (13 R402, Table 13.6; normal) -/
  roles : Nat
  exchanged : Bool
  /-- bus_speed, bus_glitch and bus_slope in force (13 R422; 1, 1, 0) -/
  speed : Nat
  glitch : Nat
  slope : Nat
  /-- vbr field of Table 13.6, closings, T at which it opened or closed (13 R407; 0) -/
  vbr : Nat
  closings : Nat
  vbrT : Time
  /-- the limit turned VBR off in a sleep state: recorded at the next wake (13 R409; false) -/
  limitSlept : Bool
  /-- BUS_XFER jobs in ring order (13 R413; none) -/
  xfers : List BusJob
  /-- numbers of the alert responses that wait, the first of each fall among them (13 R412; none) -/
  alerts : List Nat
  /-- due environment reads, true humidity (13 R413; none) -/
  envDue : List Bool
  /-- next env read times: temperature, humidity (13 R419; none) -/
  envT : List (Option Time)
  envFailed : List Bool
  /-- entries of the roll call still to probe; T at which the latest one began; another is due; the tags
  that the running one and the next one answer (13 R416; none) -/
  roll : Option (List Nat)
  rollFrom : Option Time
  rollAgain : Bool
  rollTags : List Nat
  rollTagsNext : List Nat
  /-- the job that holds the bus (13 R413; none) -/
  job : Option BusJob
  /-- T of the job's first START, retries of R404 and R410, T from which a retry may start -/
  jobT : Time
  retries : Nat
  arbs : Nat
  retryT : Option Time
  /-- the chip's transaction is on the bus now -/
  active : Bool
  /-- the instant from which the bus is free after the chip's last transaction (13 R399; none) -/
  freeT : Option Time
  /-- another controller holds the bus, and since when (13 R399, R410) -/
  foreign : Bool
  waitT : Time
  /-- the entry of the probe that runs has changed: its result is discarded (13 R420; false) -/
  discard : Bool
  /-- the entry that the environment read or probe on the bus runs by (13 R422; none) -/
  jobEntry : List Byte
  /-- bytes done and bytes read by the job's latest attempt that has ended (13 R403; none) -/
  moved : Nat × List Byte
  /-- vbr_settle of the bus start in progress (13 R401, R422; 16) -/
  settle : Nat
  /-- the role decision is to be repeated at the next free instant (13 R420; false) -/
  rolesDue : Bool
  /-- SB_ALERT_N low (1; 13 R412; 0) -/
  alertLow : Bool
  partners : List Partner
  deriving DecidableEq, Repr

/-! ## Flash, trust -/

/-- One place of the wear ledger, as decoded from Table 14.6. -/
structure Ledger where
  seq : Nat
  tallyErases : Nat
  refErases : Nat
  slotErases : Nat
  /-- start sector, sectors, written, length, first digest bytes of each reference -/
  place : List (Nat × Nat × Bool × Nat × List Byte)
  retired : List Nat
  deriving DecidableEq, Repr

/-- The flash beside the chip, held by structure (14 Table 14.2). -/
structure Flash where
  /-- boot pointer entries of copy 0 and copy 1, 32 bytes each, written in index order (14 R435) -/
  ptr0 : List (List Byte)
  ptr1 : List (List Byte)
  /-- the written bytes of slots A and B (14 R430) -/
  slots : List (List Byte)
  /-- reference images by slot: start sector, and bytes as written (14 R439) -/
  refs : List (Nat × List Byte)
  /-- older images of each reference slot that no erase has touched since (14 R439, R440) -/
  refsOld : List (List (Nat × List Byte))
  /-- ledger snapshots by place, 12, and the places whose snapshot a loss of VDD has torn (14 R440, R444) -/
  ledger : List (Option Ledger)
  torn : List Nat
  /-- sectors of the Tally log in order of use (16 R480) -/
  log : List TallySector
  deriving DecidableEq, Repr

/-- Update session (12 R386). -/
inductive Session where
  | closed
  | opened (slot : Nat) (length : Nat) (received : Nat) (failed : Bool)
  | committing (slot : Nat) (length : Nat) (failed : Bool)
  deriving DecidableEq, Repr

/-- Read instructions (14 R428): by the widths of instruction, address and data, or 0x0B in single width. -/
inductive FlashRead where
  | single
  | r112
  | r122
  | r114
  | r144
  deriving DecidableEq, Repr

/-- The flash instructions that the chip issues (14 R425): those with a fixed code, the 64 KiB erase, the read instruction
and the status write that the BFPT names. -/
inductive FlashInstr where
  | enableReset
  | reset
  | release
  | powerDown
  | readId
  | readSfdp
  | readStatus
  | writeEnable
  | pageProgram
  | erase4k
  | erase64k
  | read
  /-- a read made once more, at 8 MHz in single width (14 R442) -/
  | reRead
  | quadEnable
  deriving DecidableEq, Repr

/-- The classes of work that the memory port serves, first to last (14 R443). -/
inductive PortWork where
  | referenceRead
  | update
  | tallyWrite
  | referenceSave
  | snapshot
  | reverify
  deriving DecidableEq, Repr

/-- Chapter 14. -/
structure Mem where
  /-- the flash (DESIGN CHOICE blank, log 8) -/
  flash : Flash
  /-- discovered density in bytes, 0 none; JEDEC bytes; erase_min; read width (14 R426, 12 Table 12.14; 0) -/
  size : Nat
  jedec : Nat
  eraseMin : Nat
  readWidth : Nat
  /-- the read instruction chosen at discovery, and mem_sck_max then in force in kHz (14 R424, R428, R447; DESIGN CHOICE 0x0B and
  33,000, log 85) -/
  readInstr : FlashRead
  sckMax : Nat
  /-- the read instruction's dummy and mode clocks, the 64 KiB erase instruction, and the DWORDs of the BFPT read (14 R425,
  R426; 0 before the first discovery) -/
  readClocks : FastRead
  erase64 : Nat
  bfptRead : Nat
  failSeen : Bool
  /-- slot states of Table 12.14 and the slots spoiled by an unfinished session, reading invalid from the next boot
  (14 R437; 12 Table 12.14; 0) -/
  slotState : List Nat
  spoiled : List Nat
  /-- slot, key slot and rollback of the image in force (12 R368; none) -/
  bootSlot : Option Nat
  keySlot : Option Nat
  rollback : Nat
  headerDigest : List Byte
  /-- reference slots with a valid digest (12 Table 12.14; 0) -/
  refsValid : List Bool
  session : Session
  /-- ledger in force; snapshots due for retirements and for a ledger not found, and the one due for the Tally log's erases
  (14 R440; none) -/
  led : Ledger
  snapDue : Nat
  snapTally : Bool
  snapPlace : Nat
  /-- the images of running REFERENCE_SAVEs, oldest first: slot and bytes (14 R439; none) -/
  saving : List (Nat × List Byte)
  /-- Tally log erases since the last snapshot -/
  logErases : Nat
  /-- T of the latest re-verification (14 R441; none) -/
  verifyT : Time
  /-- reference images held in memory for acquisition, per slot (06 R160) -/
  refsHeld : List (Option (List Byte))
  /-- the instructions of the port's latest work, in order (14 R425; none) -/
  issued : List FlashInstr
  /-- the work that the port had begun when other work came to wait (14 R443; none) -/
  begun : Option PortWork
  deriving DecidableEq, Repr

/-- One fuse step of an image's fuse work (15 R453 to R456). -/
inductive FuseStep where
  | provision (slot : Nat) (hash : List Byte)
  | revoke (slot : Nat)
  | rollback (step : Nat)
  deriving DecidableEq, Repr

/-- Chapter 15. -/
structure Trust where
  /-- key hashes, revoked bits (15 R448, R449; empty, 0) -/
  keyHash : List (List Byte)
  revoked : List Bool
  /-- the 64 rollback steps of two fuse bits each (15 R448, Table 15.1; unblown, R449) -/
  rollback : List (BitVec 2)
  /-- verdicts for A, B and Tenon, T of the latest (15 Table 15.8; 0xFF, 0) -/
  verdictA : Nat
  verdictB : Nat
  verdictTenon : Nat
  verdictT : Time
  /-- test unlocked now, since PD0 power-up; boundary test mode since boot (15 Table 15.3; 0) -/
  unlocked : Bool
  unlockedEver : Bool
  boundary : Bool
  failures : Nat
  /-- challenge bytes and T at which it was given (15 R461; none) -/
  challenge : Option (List Byte × Time)
  /-- the challenge that each outstanding TEST_UNLOCK answers, oldest first; none: no valid one (15 R461) -/
  answered : List (Option (List Byte))
  /-- a private instruction has been recorded since the reset (15 R460; 0) -/
  privateSeen : Bool
  /-- fuse work left, first try or second of its head, old counter of an advance (15 R453 to R456; none) -/
  work : List FuseStep
  retry : Bool
  advanceFrom : Option Nat
  /-- T of the latest step while stopped (15 R456; none) -/
  stepT : Option Time
  /-- TAP instruction register (8; 15 R458; IDCODE) -/
  ir : Byte
  deriving DecidableEq, Repr

/-- The rollback counter: the steps of which either bit reads blown (15 R449). -/
def Trust.steps (t : Trust) : Nat := (t.rollback.filter (· != 0)).length

/-! ## The machine -/

/-- The whole machine. -/
structure State where
  /-- the part (00 R1; KLT3720: DESIGN CHOICE, log 3) -/
  part : Part
  dieRevision : Byte
  time : TimeBase
  front : Front
  scan : Scan
  plane : Plane
  base : Base
  trk : Tracker
  pwr : Power
  casc : Cascade
  lvl : Level
  link : Link
  attn : Attn
  cmd : Ring
  report : Ring
  image : Ring
  record : Ring
  bench : Bench
  /-- parameter values that differ from their defaults, by id (12 R389; none) -/
  params : List (Nat × List Byte)
  bus : Bus
  mem : Mem
  trust : Trust
  tally : Tally
  tel : Tel
  boot : Boot
  /-- commands waiting, first in first out -/
  pending : List Instr
  /-- how many free values have been drawn: the model's own field (log 2) -/
  freeIdx : Nat
  deriving DecidableEq, Repr

/-! ## Reset -/

def TimeBase.initial : TimeBase :=
  { t := 0, n := 0, place := 0, clk32 := false, stage := .off, inRange := 0, poleFault := false, sourceFault := true
    sourceCause := 1, cascadeLocked := false, calendarSet := false, crystalRunning := false
    declared := false, takeoverDue := false, lastSwitch := none, calOffset := 0, hiLatch := 0
    masterDiff := 0, vcoreMv := 900, margins := [], frameMargin := none }

def Front.initial : Front :=
  { driveRev := false, senseRev := false, driveCount := 192, senseCount := 120, driveSource := 1
    rails := [3300, 5000, 6500, 8000, 12000], vdrvFallback := false, fallbackDue := false
    vdrvGood := 0, pumpSettled := false, lines := [], rollNext := 0, rollExcl := 0
    selfDrive := [], selfSense := [], selfValid := false, integ := [], lineChecked := false, forcedBy := 2, senseCal := List.replicate 128 1000 }

def Scan.initial : Scan :=
  { phase := .stopped, profile := 0, latched := [], frameTicks := 0, frameCount := 0
    wrapped := false, frameT := 0, stopAt := none, profChange := false, slotT := 0, timeValid := false, stage := .none, passesStarted := 0, passTs := [], passes := []
    activeSet := [], slotChange := none, namedSet := none, confirm := none
    metrics := List.replicate 16 none, noiseAlarm := false, quietRun := 0, alarmClearDue := false
    level := 0, nextLevel := none, lowRun := 0, driveRange := false, headNum := 0, headDen := 1
    satSeen := false, probeNext := 0, probed := false, nextProfile := none
    startDetect := false, detectT := none, overRows := [], dropped := false, gapDone := false }

def ImageAcc.initial : ImageAcc := ⟨false, 0, 0, 0, [], [], false, true, 0, 0, 0, 0⟩

def Plane.initial : Plane :=
  { y := [], warm := [], since := 0, reseedAll := false, combined := [], img := .initial
    dets := List.replicate 8 Det.fresh, detCfg := [], detAt := List.replicate 8 Det.fresh, detIn := [], detNew := [], detT := 0 }

def Base.initial : Base :=
  { nodes := [], drive := [], sense := [], delta := [], water := [], inForce := false, acq := .idle
    blockLen := 0, blockAt := 0, latched := [], selfAge := 9, unchecked := false, rests := []
    scars := [], judge := [], noise := [], noiseMax := 0, tComp := 6400, tDie := 6400
    humidity := none, tDew := none, tApplied := 6400, tRetained := 6400, tempSrc := 0, humidSrc := 0, tempChan := 0, humidChan := 0, latchDue := false, sourceInUse := 0
    rebase := true, condRisk := false, tempFallback := false, tempLast := none, humidLast := none
    refInUse := 0xFE, dieRead := none, refFault := [], ownPhase := [], phase1 := false, forcedNow := false, acquiring := false, absorbDue := [], scarDue := []
    releaseDue := [], rebuildDue := 0 }

def Tracker.initial : Tracker :=
  { contacts := [], ended := [], gens := [], keys := [], keyChanges := [], keySkip := [], taps := []
    gests := [], queue := [], lost := 0, withheld := 0, heldFlags := 0, heldValid := true
    refused := 0, tooMany := false, liftDue := [], ownerDue := []
    sillSwipe := none, stamp := 0, heldSources := 0 }

def Power.initial : Power :=
  { st := 3, wakeCause := 6, wakeCheck := false, hostAsleep := false, nodesRetained := false
    hsleep := false, pd1 := false, pd2 := false, pd4 := false, nodesHeld := false, entry := none, entryRan := none
    next := none, ordered := none, idleFrom := 0, sleepFrom := none, entryT := none, waking := none, wakeT := 0, sleepDue := false
    checkFailed := false, checkHead := 0
    checkRecs := 0, checkFrom := none, checkFrames := 0, onVbk := false
    sills := List.replicate 8 Sill.idle, latched := [], periodT := none, window := none, todo := []
    run := [], syncLow := none }

def Link.initial : Link :=
  { busy := true, crcError := false, imageFull := false, mode := 1, width := 0, status := 0x80
    seqHi := 0, out := [] }

def Attn.initial : Attn :=
  { vector := 0, pending := 0, active := 0, inService := 0, acked := 0, claimed := 0, cbs := 0
    setT := 0, setPend := 0, setCbs := 0
    enable := 0, global := false, base := 0x100, stride := 0
    groups := List.replicate 8 Group.initial, wakeGroups := 0, attnN := false, wake := .low
    wakeDue := none, wakeSet := false }

def Bench.initial : Bench :=
  { packetSeq := 0, taken := 0, held := [], outstanding := [], turn := [], resetArmed := none, faultQueue := []
    snapModes := [], snaps := [], parkDue := none, owed := none }

def Cascade.initial : Cascade :=
  { role := .standalone, tile := some 0, cols := 0, rows := 0, members := List.replicate 16 Member.none
    ports := List.replicate 4 Port.initial, planId := 0, planValid := false, codeLog := 0
    driveCounts := [], senseCounts := [], rate := 0, firstFrame := 0, nextPlan := none, syncLocked := false, rerouted := false
    degraded := false, eventT := 0, txSeq := 0, out := [], ackWait := [], merged := false, redo := false, resume := none
    alone := false, enumT := none, closedT := none, seam := [], cross := [], imageRx := [], syncBad := 0, syncNext := none
    syncMiss := false, syncFrameT := none, syncPulseT := none, syncLost := false, passNext := none, orders := [], imageIn := [], imgFormed := 0
    probeFrom := none, probeNow := none, relink := false, rejoining := false, enumPorts := [], imageDue := none, told := 0
    linksDown := [], replan := false, envTemp := [], envHumid := [] }

def Level.initial : Level :=
  { pd5 := false, pd5Since := 0, idleSince := none, bufOn := false, bufT := 0, bufSettled := false
    excOn := false, reversed := false, tripped := false, excT := 0, nextEdge := none, halfPeriod := 0
    excIn := false, excH := 0, bufOffT := none, was := [], lostFar := [], queue := []
    running := none, slots := List.replicate 16 LvlSlot.initial, waiting := [], tooFast := false
    refMissing := false, overcurrent := false, lastEnd := none, held := [], flipT := none, levelCal := [1000, 1000] }

def Bus.initial : Bus :=
  { phase := .off, stage := .none, stageT := 0, recovering := false, keepRoles := false
    branchDone := none, branchDue := [], wasStuck := false, roles := 0, exchanged := false, speed := 1, glitch := 1, slope := 0
    vbr := 0, closings := 0, vbrT := 0, limitSlept := false, xfers := []
    alerts := [], envDue := [], envT := [none, none], envFailed := [false, false], roll := none
    rollFrom := none, rollAgain := false, rollTags := [], rollTagsNext := [], job := none, jobT := 0
    retries := 0, arbs := 0, retryT := none, active := false, freeT := none, foreign := false, waitT := 0
    discard := false, jobEntry := [], moved := (0, []), settle := 16, rolesDue := false, alertLow := false, partners := List.replicate 32 Partner.unused }

def Ledger.blank : Ledger := ⟨0, 0, 0, 0, List.replicate 4 (0, 0, false, 0, []), []⟩

def Flash.blank : Flash :=
  { ptr0 := [], ptr1 := [], slots := [[], []], refs := [(0, []), (0, []), (0, []), (0, [])]
    refsOld := [[], [], [], []], ledger := List.replicate 12 none, torn := [], log := [] }

def Mem.initial : Mem :=
  { flash := .blank, size := 0, jedec := 0, eraseMin := 0, readWidth := 0, readInstr := .single, sckMax := 33000
    readClocks := ⟨0, 0⟩, erase64 := 0, bfptRead := 0, failSeen := false
    slotState := [0, 0], spoiled := [], bootSlot := none, keySlot := none, rollback := 0
    headerDigest := List.replicate 32 0, refsValid := [false, false, false, false]
    session := .closed, led := .blank, snapDue := 0, snapTally := false, snapPlace := 0, saving := []
    logErases := 0, verifyT := 0, refsHeld := [none, none, none, none], issued := [], begun := none }

def Trust.initial : Trust :=
  { keyHash := List.replicate 4 (List.replicate 32 0), revoked := List.replicate 4 false, rollback := List.replicate 64 0
    verdictA := 0xFF, verdictB := 0xFF, verdictTenon := 0xFF, verdictT := 0, unlocked := false
    unlockedEver := false, boundary := false, failures := 0, challenge := none, answered := []
    privateSeen := false, work := [], retry := false, advanceFrom := none, stepT := none, ir := 2 }

def Tally.initial : Tally :=
  { seq := 0, epoch := 0, started := false, kept := [], openT := none, overwrites := 0
    lostRun := none, degraded := false, unavailable := false, invalid := true, lastMarkT := none
    lastMarkCal := none, logReady := false, failedRun := 0, checkedT := none }

def Tel.initial : Tel :=
  { scheduled := 0, lostOverrun := 0, lostEcc := 0, withheld := 0, degraded := 0, fallbackTimed := 0
    marginLow := 0, eccCorrected := 0, tenonCrc := 0, tenonDropped := 0, scrubPasses := 0
    marginMin := 100, clearedAt := 0, days := [], today := (0, 0), dayFrom := 0, periodFrom := 0
    scrubAt := 0, calNext := 0 }

def Boot.initial : Boot :=
  { phase := .held, kind := .powerUp, releaseT := none, heldT := some 0, nodeInit := false
    discovered := false, discoveryFailed := false, recoverLow := false, straps := 0, recovery := 0
    recoveryDue := none, verifySlot := none, vddLow := false, thermalWarn := false
    thermalClamp := false, tj := 6400, coolGaps := 0 }

/-- The machine at PD0 power-up, the reset condition just ended and the internal reset not yet released
(18 R496, R498): every field at the value the spec states, or the one its docstring's log entry names. -/
def State.reset : State :=
  { part := .klt3720, dieRevision := 1, time := .initial, front := .initial, scan := .initial
    plane := .initial, base := .initial, trk := .initial, pwr := .initial, casc := .initial
    lvl := .initial, link := .initial, attn := .initial, cmd := .empty, report := .empty
    image := .empty, record := .empty, bench := .initial, params := [], bus := .initial
    mem := .initial, trust := .initial, tally := .initial, tel := .initial, boot := .initial
    pending := [], freeIdx := 0 }

end Sys2Proof.Machine
end

