-- ==== Sys2Proof/Machine/Params.lean ====
section
/-! DEFINITION. The parameters of every chapter: size, access, default and range of each ID, the profiles
they hold, and the rules that tie one parameter to another (12 R389, R390; 04 R97 to R105, R545). -/

namespace Sys2Proof.Machine

/-- Who may write a parameter. -/
inductive PAccess where
  | rw
  | ro
  /-- set only by an image (15 Table 15.4) -/
  | imageOnly
  /-- tile_scope (09 R301) -/
  | scope
  deriving DecidableEq, Repr

/-- Size, access, presence of its unit, and default value of a parameter; no default bytes: none held. -/
structure PInfo where
  size : Nat
  access : PAccess
  present : Bool
  dflt : List Byte
  deriving DecidableEq, Repr

/-- A writable parameter of `n` bytes with a default number. -/
def pRw (n d : Nat) : Option PInfo := some ⟨n, .rw, true, leBytes n d⟩

/-- A read-only parameter. -/
def pRo (n : Nat) : Option PInfo := some ⟨n, .ro, true, []⟩

/-- Periods of 04 Table 4.7. -/
def candDefaults : List Nat := [14, 16, 18, 20, 23, 26, 30, 34, 39, 45, 52, 60, 70, 82, 100, 124]

/-- 04 Table 4.8. -/
def profileInfo (part : Part) (p off : Nat) : Option PInfo :=
  let one := p == 1
  match off with
  | 0 => pRw 1 (if part = .klt3706 then 2 else 3)
  | 1 => pRw 1 (if one then 1 else 3)
  | 2 => pRw 1 (if one then 1 else 3)
  | 3 => some ⟨4, .rw, true, [0, 1, 2, 3]⟩
  | 4 => pRw 1 0
  | 5 => pRw 1 (if one then 1 else 4)
  | 6 => pRw 1 1
  | 7 => pRw 1 (if one then 0 else 1)
  | 8 => pRw 1 1
  | 9 => pRw 2 (if one then 60 else 240)
  | 10 => pRw 1 (if one then 0 else 1)
  | 11 => pRw 1 64
  | 12 => pRw 1 0
  | 13 => pRw 1 0
  | _ => none

/-- The default Sill group (08 Table 8.4). -/
def sillDefault : List Byte := [16, 0, 12, 0, 0xFF, 0xFF, 0xFF, 0xFF, 0xFF, 0xFF, 0xFF, 0xFF]

/-- 04 Tables 4.6 and 4.8. -/
def info01 (part : Part) (id : Nat) : Option PInfo :=
  if id < 0x110 then pRw 1 (candDefaults.getD (id - 0x100) 14)
  else if 0x180 ≤ id ∧ id < 0x200 then profileInfo part ((id - 0x180) / 16) ((id - 0x180) % 16)
  else match id with
  | 0x110 => pRw 2 0xFFFF
  | 0x111 => pRw 1 0
  | 0x112 => pRw 1 1
  | 0x113 => pRw 2 480
  | 0x114 => pRw 1 192
  | 0x115 => pRw 1 4
  | 0x116 => pRw 1 1
  | 0x117 => pRw 1 75
  | 0x118 => pRw 1 30
  | 0x119 => pRw 1 64
  | 0x120 => pRw 1 0
  | 0x121 => pRw 120 0
  | 0x130 => pRo 4
  | 0x131 => pRo 4
  | 0x132 => pRo 32
  | _ => none

/-- 06 Table 6.6. -/
def info02 (id : Nat) : Option PInfo :=
  match id with
  | 0x200 => pRw 1 6
  | 0x201 => pRw 1 3
  | 0x202 => pRw 2 60
  | 0x203 => pRw 2 100
  | 0x204 => pRw 1 2
  | 0x205 => pRw 1 8
  | 0x206 => pRw 1 0xFF
  | 0x207 => pRw 2 30
  | 0x208 => pRw 1 60
  | 0x209 => pRw 1 60
  | 0x20A => pRw 1 2
  | 0x20B => pRw 1 0
  | 0x20C => pRw 1 0
  | 0x20D => pRw 1 0
  | 0x20E => pRw 1 0
  | 0x20F => some ⟨2, .rw, true, []⟩
  | 0x210 => some ⟨2, .rw, true, []⟩
  | 0x211 => pRw 1 10
  | 0x212 => pRw 2 150
  | 0x213 => pRw 2 0
  | 0x214 => pRw 1 8
  | 0x215 => pRw 1 4
  | 0x216 => pRw 1 1
  | 0x217 => pRw 2 32
  | 0x218 => pRw 1 5
  | 0x230 => pRo 16
  | _ => none

/-- 07 Table 7.10. -/
def info03 (part : Part) (id : Nat) : Option PInfo :=
  match id with
  | 0x300 => pRw 2 120
  | 0x301 => pRw 2 40
  | 0x302 => pRw 1 25
  | 0x303 => pRw 1 part.contacts
  | 0x304 => pRw 2 256
  | 0x305 => pRw 1 16
  | 0x306 => pRw 1 1
  | 0x307 => pRw 2 30
  | 0x308 => pRw 1 2
  | 0x309 => pRw 2 1024
  | 0x310 => pRw 2 0x7FE
  | 0x311 => pRw 2 0x404
  | 0x312 => pRw 2 250
  | 0x313 => pRw 2 96
  | 0x314 => pRw 2 300
  | 0x315 => pRw 2 128
  | 0x316 => pRw 2 800
  | 0x317 => pRw 2 512
  | 0x318 => pRw 2 600
  | 0x319 => pRw 2 100
  | 0x31A => pRw 2 768
  | 0x380 => some ⟨0, .rw, true, []⟩
  | 0x381 => pRw 2 0
  | 0x382 => pRo 32
  | _ => none

/-- 08 Table 8.11. -/
def info04 (part : Part) (id : Nat) : Option PInfo :=
  match id with
  | 0x400 => pRw 2 3277
  | 0x401 => pRw 1 2
  | 0x402 => pRw 1 2
  | 0x403 => pRw 1 6
  | 0x404 => pRw 1 0
  | 0x405 => pRw 1 3
  | 0x406 => pRw 2 8192
  | 0x407 => pRw 2 2000
  | 0x408 => pRw 1 1
  | 0x409 => pRw 2 60
  | 0x40A => pRw 2 300
  | 0x40B => pRw 1 1
  | 0x40C => pRw 1 0
  | 0x40D => pRw 4 0
  | 0x40E => pRw 1 1
  | 0x420 => pRo 16
  | 0x421 => pRo 16
  | _ => if 0x410 ≤ id ∧ id < 0x410 + part.sillGroups then some ⟨12, .rw, true, sillDefault⟩ else none

/-- 09 Table 9.14. -/
def info05 (part : Part) (id : Nat) : Option PInfo :=
  (match id with
  | 0x500 => pRw 1 0
  | 0x501 => some ⟨1, .scope, true, []⟩
  | 0x502 => pRw 2 0
  | 0x503 => pRw 1 4
  | 0x504 => pRw 1 0
  | 0x505 => pRw 2 0xFFFF
  | 0x506 => pRw 2 512
  | 0x510 => pRo 16
  | 0x511 => pRo 4
  | _ => none).map fun (i : PInfo) => { i with present := part.hasCascade }

/-- 10 Table 10.13. -/
def info06 (part : Part) (id : Nat) : Option PInfo :=
  (if id < 0x610 then
    some ⟨16, .rw, true, [0xFF, 0, 10, 2, 0, 0, 0, 7, 0, 0xFF, 0, 0, 0, 0, 0, 0]⟩
  else if 0x620 ≤ id ∧ id < 0x630 then some ⟨8, .rw, true, [0, 0, 1, 0, 0, 0, 0, 0x80]⟩
  else if 0x640 ≤ id ∧ id < 0x650 then some ⟨48, .rw, true, leBytes 48 (0x3F800000 * 2 ^ 32)⟩
  else if 0x680 ≤ id ∧ id < 0x688 then
    some ⟨16, .rw, true, [0xFF, 6, 0, 0, 0xFF, 0xFF, 0xFF, 0x7F, 0, 0, 0, 0x80, 0, 0, 0, 0]⟩
  else match id with
  | 0x610 => pRw 1 0
  | 0x611 => pRw 1 0
  | 0x612 => pRw 2 0
  | 0x613 => pRw 1 0
  | 0x6F0 => pRo 8
  | _ => none).map fun (i : PInfo) => { i with present := part.hasLevel }

/-- The default environment entry (13 Table 13.9). -/
def envDefault : List Byte := [0xFF, 0xFF, 2, 1, 0, 16] ++ leBytes 2 1000 ++ leBytes 4 0x3F800000 ++ leBytes 4 0

/-- 13 Table 13.12. -/
def info07 (part : Part) (id : Nat) : Option PInfo :=
  match id with
  | 0x700 => pRw 1 1
  | 0x701 => pRw 1 1
  | 0x702 => pRw 1 2
  | 0x703 => some ⟨1, .rw, !part.busSlope, [1]⟩
  | 0x704 => some ⟨1, .rw, part.busSlope, [0]⟩
  | 0x705 => pRw 1 25
  | 0x706 => pRw 1 4
  | 0x707 => pRw 1 3
  | 0x708 => pRw 1 1
  | 0x709 => pRw 2 10
  | 0x70A => pRw 1 2
  | 0x70B => pRw 1 0
  | 0x70C => pRw 1 16
  | 0x740 => some ⟨16, .rw, true, envDefault⟩
  | 0x741 => some ⟨16, .rw, true, envDefault⟩
  | 0x750 => pRo 8
  | 0x751 => pRo 392
  | _ => if 0x710 ≤ id ∧ id < 0x730 then some ⟨6, .rw, true, [0xFF, 0, 0, 0, 0, 0]⟩ else none

/-- 11 Table 11.14. -/
def info08 (part : Part) (id : Nat) : Option PInfo :=
  match id with
  | 0x800 => pRw 1 0
  | 0x801 => pRw 2 (256 * part.cmdKib)
  | 0x802 => pRw 1 (16 * part.recordKib)
  | 0x810 => pRw 4 0
  | 0x811 => pRw 1 0
  | 0x812 => pRw 4 0x100
  | 0x813 => pRw 1 0
  | 0x814 => pRw 1 0
  | 0x815 => pRw 4 0
  | _ => if 0x818 ≤ id ∧ id < 0x820 then pRw 4 0 else none

/-- 16 Table 16.7; 14 Table 14.11; 15 Table 15.7; 17 Table 17.5. -/
def info09 (id : Nat) : Option PInfo :=
  match id with
  | 0x900 => pRw 2 60
  | 0x901 => pRw 2 60
  | 0x910 => pRo 16
  | 0xA00 => pRw 1 3
  | 0xA01 => pRw 1 2
  | 0xA02 => pRw 2 24
  | 0xA03 => pRw 1 1
  | 0xA10 => pRo 24
  | 0xA20 => some ⟨1, .imageOnly, true, [0]⟩
  | 0xA21 => some ⟨1, .imageOnly, true, [0]⟩
  | 0xA22 => some ⟨1, .imageOnly, true, [0]⟩
  | 0xA23 => some ⟨36, .imageOnly, true, []⟩
  | 0xA2F => some ⟨64, .imageOnly, true, []⟩
  | 0xA30 => pRo 16
  | 0xB00 => pRw 2 256
  | 0xB01 => pRw 1 1
  | 0xB02 => pRw 1 1
  | 0xB03 => pRw 2 60
  | 0xB04 => pRw 4 10000
  | 0xB10 => pRo 64
  | _ => none

/-- 03 Table 3.11. -/
def info0C (part : Part) (id : Nat) : Option PInfo :=
  match id with
  | 0xC00 => pRw 2 part.driveLines
  | 0xC01 => pRw 2 part.senseLines
  | 0xC02 => pRw 1 2
  | 0xC03 => pRw 1 2
  | 0xC04 => pRw 1 0
  | 0xC05 => pRw 1 0
  | 0xC06 => pRw 1 60
  | 0xC07 => pRw 24 0
  | 0xC08 => pRw 15 0
  | 0xC09 => pRw 1 2
  | 0xC0A => pRw 1 1
  | 0xC0B => pRw 1 0
  | 0xC0C => pRw 1 2
  | 0xC0D => pRw 1 1
  | 0xC0E => pRw 1 2
  | 0xC0F => pRw 1 3
  | 0xC10 => pRw 1 4
  | _ => none

/-- The parameter an ID names; none for a reserved ID (12 R389). -/
def paramInfo (part : Part) (id : Nat) : Option PInfo :=
  match id / 256 with
  | 1 => info01 part id
  | 2 => info02 id
  | 3 => info03 part id
  | 4 => info04 part id
  | 5 => info05 part id
  | 6 => info06 part id
  | 7 => info07 part id
  | 8 => info08 part id
  | 9 => info09 id
  | 10 => info09 id
  | 11 => info09 id
  | 12 => info0C part id
  | _ => none

/-- The value an ID holds while nothing has been written to it. -/
def paramDefault (part : Part) (id : Nat) : List Byte :=
  match paramInfo part id with
  | some i => i.dflt
  | none => []

/-- A table of parameter values (canonical: defaults are not listed). -/
abbrev PTab := List (Nat × List Byte)

/-- The value of an ID in a table. -/
def pIn (part : Part) (t : PTab) (id : Nat) : List Byte := tabGet (paramDefault part) t id

/-- The same as a number. -/
def nIn (part : Part) (t : PTab) (id : Nat) : Nat := leVal (pIn part t id)

/-- Write a value. -/
def pSet (part : Part) (t : PTab) (id : Nat) (v : List Byte) : PTab := tabSet (paramDefault part) t id v

/-- The value an ID holds now (12 R392). -/
def State.param (s : State) (id : Nat) : List Byte := pIn s.part s.params id

/-- The same as a number. -/
def State.pnat (s : State) (id : Nat) : Nat := leVal (s.param id)

/-- The value in force for the frame (04 R126). -/
def State.fnat (s : State) (id : Nat) : Nat := nIn s.part s.scan.latched id

/-- The baseline parameter in force (06 R188). -/
def State.bnat (s : State) (id : Nat) : Nat := nIn s.part s.base.latched id

/-- The signed baseline parameter in force. -/
def State.bint (s : State) (w id : Nat) : Int := signed w (s.bnat id)

/-! ## Ranges (test 5 of 12 R390) -/

/-- Byte `i` of a value. -/
def byteAt (v : List Byte) (i : Nat) : Nat := (v.getD i 0).toNat

/-- A number in a range. -/
def within (lo hi n : Nat) : Bool := decide (lo ≤ n) && decide (n ≤ hi)

/-- 05 Table 5.2: is a response valid at OSR exponent n? -/
def responseOk (r n : Nat) : Bool :=
  if r = 5 then within 14 15 n
  else if r = 6 ∨ r = 7 then within 11 15 n
  else decide (r ≤ 8) && within 5 15 n

/-- 10 Table 10.1: is an input on the part? -/
def inputOk (part : Part) (i : Nat) : Bool :=
  i == 0xFF || decide (i < part.levelPairs) || (within 0x10 0x17 i && decide (i - 0x10 < 2 * part.levelPairs)) ||
    i == 0x20 || i == 0x21

/-- 10 R303 and Table 10.2, but for the chain of lin_tsource. -/
def levelSlotOk (part : Part) (v : List Byte) : Bool :=
  let input := byteAt v 0
  let gain := byteAt v 1
  let opts := byteAt v 5
  inputOk part input && decide (gain ≤ 7) && within 5 15 (byteAt v 2) && decide (byteAt v 3 ≤ 8) &&
  responseOk (byteAt v 3) (byteAt v 2) && decide (byteAt v 4 ≤ 1) && decide (opts < 16) &&
  decide (byteAt v 6 ≤ 7) && decide (byteAt v 7 ≤ 7) && decide (byteAt v 6 ≤ byteAt v 7) &&
  decide (byteAt v 8 ≤ 8) && (decide (byteAt v 9 ≤ 15) || byteAt v 9 == 0xFF) &&
  (v.drop 10).all (· == 0) &&
  (!(input == 0x20 || input == 0x21) || (gain == 0 && !bitAt opts 0 && byteAt v 4 == 0))

/-- 10 Table 10.3. -/
def triggerOk (v : List Byte) : Bool :=
  decide (byteAt v 0 ≤ 3) && decide (byteAt v 1 ≤ 2) && byteAt v 3 == 0 && decide (1 ≤ fieldAt v 6 2)

/-- 05 Table 5.7. -/
def detectorOk (v : List Byte) : Bool :=
  let src := byteAt v 0
  (src == 0xFF || decide (src ≤ 15) || within 0x80 (0x80 + 119) src) && within 2 12 (byteAt v 1) &&
  decide (byteAt v 2 ≤ 7) && decide (byteAt v 3 ≤ 5) && decide (byteAt v 12 ≤ 1) && (v.drop 13).all (· == 0)

/-- 13 Table 13.3. -/
def rollcallOk (v : List Byte) : Bool :=
  (byteAt v 0 == 0xFF || within 8 0x77 (byteAt v 0)) && decide (byteAt v 1 ≤ 2) && byteAt v 5 == 0

/-- 13 Table 13.9 and R423. -/
def envOk (v : List Byte) : Bool :=
  (byteAt v 0 == 0xFF || within 8 0x77 (byteAt v 0)) && within 1 3 (byteAt v 2) && decide (byteAt v 3 ≤ 3) &&
  decide (byteAt v 4 ≤ 23) && within 1 24 (byteAt v 5) && within 100 60000 (fieldAt v 6 2) &&
  f32Finite (fieldAt v 8 4) && f32Finite (fieldAt v 12 4)

/-- 08 Table 8.4, one group alone. -/
def sillOk (v : List Byte) : Bool :=
  within 4 64 (byteAt v 0) && decide (byteAt v 1 ≤ 1) && within 1 4095 (fieldAt v 2 2) &&
  decide (fieldAt v 4 2 ≤ fieldAt v 6 2) && decide (fieldAt v 8 2 ≤ fieldAt v 10 2)

/-- Only the low `n` bits of a bitmap may be set. -/
def lowBits (n : Nat) (v : List Byte) : Bool := decide (leVal v < 2 ^ n)

/-- 04 Table 4.8. -/
def profileFieldOk (off : Nat) (v : List Byte) : Bool :=
  let n := leVal v
  match off with
  | 0 => decide (n ≤ 3)
  | 1 => within 1 8 n
  | 2 => within 1 4 n
  | 3 => v.all fun b => decide (b.toNat ≤ 15)
  | 4 => decide (n ≤ 4)
  | 5 => decide (n ≤ 4)
  | 9 => within 1 480 n
  | 10 => decide (n ≤ 2)
  | 11 => within 64 255 n
  | 12 => decide (n ≤ 3)
  | 13 => decide (n ≤ 8)
  | _ => decide (n ≤ 1)

/-- Does a value lie in its ID's range, taken alone? DESIGN CHOICE (log 88): a 1 in a reserved bit of a holdoff_gN value is
out of its range. -/
def paramRange (part : Part) (id : Nat) (v : List Byte) : Bool :=
  let n := leVal v
  let z := signed (8 * v.length) n
  if 0x100 ≤ id ∧ id < 0x110 then within 14 168 n
  else if 0x180 ≤ id ∧ id < 0x200 then profileFieldOk ((id - 0x180) % 16) v
  else if 0x410 ≤ id ∧ id < 0x418 then sillOk v
  else if 0x600 ≤ id ∧ id < 0x610 then levelSlotOk part v
  else if 0x620 ≤ id ∧ id < 0x630 then triggerOk v
  else if 0x640 ≤ id ∧ id < 0x650 then (List.range 12).all fun i => f32Finite (fieldAt v (4 * i) 4)
  else if 0x680 ≤ id ∧ id < 0x688 then detectorOk v
  else if 0x710 ≤ id ∧ id < 0x730 then rollcallOk v
  else if 0x818 ≤ id ∧ id < 0x820 then n &&& 0x703FF == n
  else match id with
  | 0x110 => true
  | 0x111 => decide (n ≤ 7)
  | 0x113 => within 1 65535 n
  | 0x114 => within 64 255 n
  | 0x115 => within 1 64 n
  | 0x117 => within 50 95 n
  | 0x118 => within 10 50 n
  | 0x119 => within 1 255 n
  | 0x121 => v.all (fun b => decide (b.toNat ≤ 63)) && (v.drop part.senseLines).all (· == 0)
  | 0x200 => within 1 12 n
  | 0x201 => within 1 12 n
  | 0x202 => within 1 32767 n
  | 0x203 => within 20 1000 n
  | 0x204 => decide (n ≤ 4)
  | 0x205 => within 1 64 n
  | 0x206 => decide (n ≤ 3) || n == 0xFE || n == 0xFF
  | 0x207 => within 1 480 n
  | 0x208 => within 30 95 n
  | 0x209 => within 20 95 n
  | 0x20A => within 1 64 n
  | 0x20B => decide (n ≤ 3)
  | 0x20C => decide (n ≤ 15)
  | 0x20D => decide (n ≤ 3)
  | 0x20E => decide (n ≤ 15)
  | 0x20F => decide (-10240 ≤ z) && decide (z ≤ 32000)
  | 0x210 => decide (n ≤ 25600)
  | 0x211 => within 1 255 n
  | 0x212 => decide (-2000 ≤ z) && decide (z ≤ 2000)
  | 0x213 => decide (-2000 ≤ z) && decide (z ≤ 2000)
  | 0x214 => decide (n ≤ 40)
  | 0x215 => within 1 12 n
  | 0x217 => within 4 1024 n
  | 0x218 => decide (n ≤ 15)
  | 0x300 => within 20 32767 n
  | 0x301 => decide (n ≤ 32766)
  | 0x302 => within 5 75 n
  | 0x303 => within 1 part.contacts n
  | 0x304 => within 64 2048 n
  | 0x305 => true
  | 0x306 => within 1 8 n
  | 0x307 => within 9 1024 n
  | 0x308 => decide (n ≤ 8)
  | 0x309 => within 512 4096 n
  | 0x310 => n &&& 0x7FE == n
  | 0x311 => n &&& 0x6FE == n
  | 0x312 => within 50 1000 n
  | 0x313 => within 16 1024 n
  | 0x314 => within 50 1000 n
  | 0x315 => within 32 2048 n
  | 0x316 => within 300 10000 n
  | 0x317 => within 128 16384 n
  | 0x318 => within 100 2000 n
  | 0x319 => within 20 500 n
  | 0x31A => within 96 2048 n
  | 0x380 => true
  | 0x381 => decide (n ≤ 256)
  | 0x400 => within 32 65535 n
  | 0x401 => decide (n ≤ 3)
  | 0x402 => within 1 8 n
  | 0x403 => within 2 12 n
  | 0x405 => within 2 part.sillGroups n
  | 0x406 => within 32 65535 n
  | 0x407 => decide (n ≤ 10000)
  | 0x408 => decide (n ≤ 7)
  | 0x409 => true
  | 0x40A => true
  | 0x40C => decide (n ≤ 3)
  | 0x40D => decide (n ≤ 604800)
  | 0x500 => decide (n ≤ 2)
  | 0x501 => decide (n ≤ 15) || n == 0xFF
  | 0x502 => decide (byteAt v 0 ≤ 4) && decide (byteAt v 1 ≤ 4)
  | 0x503 => within 2 64 n
  | 0x505 => true
  | 0x506 => within 64 4096 n
  | 0x612 => true
  | 0x701 => decide (n ≤ 2)
  | 0x702 => decide (n ≤ 2)
  | 0x703 => within 1 3 n
  | 0x705 => within 1 255 n
  | 0x706 => decide (n ≤ 4)
  | 0x707 => within 1 255 n
  | 0x709 => decide (n ≤ 3600)
  | 0x70A => within 1 16 n
  | 0x70C => within 1 64 n
  | 0x740 => envOk v
  | 0x741 => envOk v
  | 0x800 => decide (n ≤ 2)
  | 0x801 => within 64 (1024 * part.cmdKib) n && n % 4 == 0
  | 0x802 => within 1 (64 * part.recordKib) n
  | 0x810 => lowBits 25 v
  | 0x812 => n % 32 == 0
  | 0x813 => decide (n ≤ 3)
  | 0x814 => true
  | 0x815 => lowBits 25 v
  | 0x900 => decide (n ≤ 1440)
  | 0x901 => within 1 3600 n
  | 0xA00 => decide (n ≤ 3)
  | 0xA01 => decide (n ≤ 2)
  | 0xA02 => decide (n ≤ 8760)
  | 0xA21 => decide (n ≤ 15)
  | 0xA22 => decide (n ≤ 15)
  | 0xA23 => decide (byteAt v 0 ≤ 3) && ((v.drop 1).take 3).all (· == 0)
  | 0xA2F => ecOnCurve (beVal (slice v 0 32)) (beVal (slice v 32 32))
  | 0xB00 => within 64 2048 n
  | 0xB03 => decide (n ≤ 1440)
  | 0xB04 => decide (n ≤ 1000000000)
  | 0xC00 => within 1 part.driveLines n
  | 0xC01 => within 1 part.senseLines n
  | 0xC02 => decide (n ≤ 2)
  | 0xC03 => decide (n ≤ 2)
  | 0xC04 => n == 0 || n == 1 || n == 255
  | 0xC05 => n == 0 || n == 1 || n == 255
  | 0xC06 => within 10 90 n
  | 0xC07 => lowBits part.driveLines v
  | 0xC08 => lowBits part.senseLines v
  | 0xC09 => n == 1 || n == 2 || n == 4
  | 0xC0C => decide (n ≤ 3)
  | 0xC0D => decide (n ≤ 2)
  | 0xC0E => decide (n ≤ 2)
  | 0xC0F => decide (n ≤ 3)
  | 0xC10 => within 1 64 n
  | _ => decide (n ≤ 1)

/-! ## Profiles (04 R98 to R105) -/

/-- A profile's fields (04 Table 4.8). -/
structure Profile where
  codeLog : Nat
  passes : Nat
  active : Nat
  initial : List Nat
  swingMin : Nat
  swingMax : Nat
  ampAuto : Bool
  selfPass : Bool
  guard : Bool
  rate : Nat
  temporal : Nat
  gapBeats : Nat
  imageMode : Nat
  imageRate : Nat
  deriving DecidableEq, Repr

/-- Code length L. -/
def Profile.len (p : Profile) : Nat := 2 ^ p.codeLog

/-- Profile `p` of a table (04 R127). -/
def profileOf (part : Part) (t : PTab) (p : Nat) : Profile :=
  let f := fun off => nIn part t (0x180 + 16 * p + off)
  { codeLog := 5 + f 0, passes := f 1, active := f 2
    initial := (pIn part t (0x180 + 16 * p + 3)).map (·.toNat)
    swingMin := f 4, swingMax := f 5, ampAuto := f 6 == 1, selfPass := f 7 == 1, guard := f 8 == 1
    rate := f 9, temporal := f 10, gapBeats := f 11, imageMode := f 12, imageRate := f 13 }

/-- The candidate table in force: periods and enabled indices. -/
def periodOf (part : Part) (t : PTab) (c : Nat) : Nat := nIn part t (0x100 + c)

/-- Enabled candidates, ascending. -/
def enabledOf (part : Part) (t : PTab) : List Nat := bitsOf 16 (nIn part t 0x110)

/-- Does a candidate meet the legacy limit (04 R119)? -/
def legacyOk (part : Part) (t : PTab) (c : Nat) : Bool :=
  nIn part t 0x120 == 0 ||
    decide (1 + maxNat ((pIn part t 0x121).map (·.toNat)) < periodOf part t c / 2)

/-- Candidates by rising period, then index. -/
def byPeriod (part : Part) (t : PTab) (cs : List Nat) : List Nat :=
  sortBy (fun a b => decide (periodOf part t a < periodOf part t b)) cs

/-- Sum of the periods that the passes of a frame use (04 R102). -/
def passSum (passes : Nat) (ks : List Nat) : Nat :=
  sumNat ((List.range passes).map fun i => ks.getD (i % ks.length) 0)

/-- The gap in beats that R103 and R104 use; in a cascade, which names its tenon_rate in force, not below cascade_gap (09 R278,
R301). -/
def gapOf (cascade : Option Nat) (p : Profile) : Nat :=
  match cascade with
  | some 0 => max p.gapBeats 64
  | some 1 => max p.gapBeats 120
  | some _ => max p.gapBeats 240
  | none => p.gapBeats

/-- Ticks of a frame with the given slot periods (04 R103, R104). -/
def slotTicks (gap : Nat) (p : Profile) (ks : List Nat) : Nat :=
  4096 * (if p.selfPass then 1 else 0) + p.len * passSum p.passes ks + 256 * gap

/-- frame_ticks (04 R103). -/
def frameTicksOf (part : Part) (t : PTab) (cascade : Option Nat) (p : Profile) : Nat :=
  let ks := ((byPeriod part t (enabledOf part t)).take p.active).map (periodOf part t)
  max (8388608 / p.rate) (slotTicks (gapOf cascade p) p ks)

/-- Is an active set admissible in frames of `ticks` (04 R104, R119)? -/
def admissible (part : Part) (t : PTab) (cascade : Option Nat) (ticks : Nat) (p : Profile) (set : List Nat) : Bool :=
  set.length == p.active && decide set.Nodup &&
  set.all (fun c => (enabledOf part t).contains c && legacyOk part t c) &&
  decide (slotTicks (gapOf cascade p) p (set.map (periodOf part t)) ≤ ticks)

/-- Fill the open slots with the smallest enabled candidates that are left (04 R113 step 2). -/
def fillOpen (fill : List Nat) : List (Option Nat) → List Nat
  | [] => []
  | some c :: r => c :: fillOpen fill r
  | none :: r =>
    match fill with
    | [] => fillOpen [] r
    | f :: fs => f :: fillOpen fs r

/-- Can a partial set be completed (04 R113 step 2)? -/
def completable (part : Part) (t : PTab) (cascade : Option Nat) (ticks : Nat) (p : Profile) (slots : List (Option Nat)) : Bool :=
  let used := slots.filterMap id
  let free := (enabledOf part t).filter fun c => !used.contains c && legacyOk part t c
  admissible part t cascade ticks p (fillOpen (byPeriod part t free) slots)

/-- Is there an admissible set (04 R104)? -/
def hasAdmissible (part : Part) (t : PTab) (cascade : Option Nat) (ticks : Nat) (p : Profile) : Bool :=
  completable part t cascade ticks p (List.replicate p.active none)

/-- Open the kept slots with the largest period until the set can be completed (04 R113 step 2). -/
def openSlots (part : Part) (t : PTab) (cascade : Option Nat) (ticks : Nat) (p : Profile) : Nat → List (Option Nat) → List (Option Nat)
  | 0, sl => sl
  | n + 1, sl =>
    if completable part t cascade ticks p sl then sl
    else
      let kept := (List.range sl.length).filter fun i => (sl.getD i none).isSome
      let per : Nat → Nat := fun i => match sl.getD i none with | some c => periodOf part t c | none => 0
      match bestBy (fun i j => decide (per j < per i) || (per i == per j && decide (j < i))) kept with
      | none => sl
      | some i => openSlots part t cascade ticks p n (sl.set i none)

/-- Fill open slots in ascending order by lowest metric (04 R113 step 3). -/
def refillGo (part : Part) (t : PTab) (cascade : Option Nat) (ticks : Nat) (p : Profile) (m : List (Option Nat)) :
    Nat → List (Option Nat) → List (Option Nat)
  | 0, sl => sl
  | n + 1, sl =>
    match findIdx? (fun x => x.isNone) sl with
    | none => sl
    | some i =>
      let used := sl.filterMap id
      let ok := (enabledOf part t).filter fun c =>
        !used.contains c && legacyOk part t c && completable part t cascade ticks p (sl.set i (some c))
      let lt := fun a b =>
        match m.getD a none, m.getD b none with
        | some x, some y => decide (x < y) || (x == y && decide (a < b))
        | some _, none => true
        | none, some _ => false
        | none, none => decide (a < b)
      match bestBy lt ok with
      | none => sl
      | some c => refillGo part t cascade ticks p m n (sl.set i (some c))

/-- Slots whose candidate is disabled, or repeats a lower slot's, are open (04 R113 step 1). -/
def keptSlots (en : List Nat) : List Nat → List Nat → List (Option Nat)
  | _, [] => []
  | seen, c :: r =>
    (if en.contains c && !seen.contains c then some c else none) :: keptSlots en (c :: seen) r

/-- The refill of 04 R113: the set itself when it is admissible. -/
def refill (part : Part) (t : PTab) (cascade : Option Nat) (ticks : Nat) (p : Profile) (m : List (Option Nat)) (set : List Nat) :
    List Nat :=
  let want := (set ++ List.replicate 4 0xFF).take p.active
  if admissible part t cascade ticks p want then want
  else
    let open1 := openSlots part t cascade ticks p 4 (keptSlots (enabledOf part t) [] want)
    (refillGo part t cascade ticks p m 4 open1).filterMap id

/-- The plan of a tile-row leaves enough listen rows (09 R280). -/
def planRowOk (len rows r d : Nat) : Bool :=
  let edges := (if r > 0 then 4 else 0) + (if r + 1 < rows then 4 else 0)
  decide (16 ≤ d) && decide (edges ≤ d) && decide (d - edges + 4 ≤ len - 16 - 1)

/-- R98, R104, R105, R119 and, in a cascade, 09 R278 and R280, on one profile in frames of `ticks` (04 R545). -/
def profileOkIn (part : Part) (t : PTab) (cascade : Option Nat) (driveCounts : List Nat) (ticks : Nat) (p : Profile) : Bool :=
  (if cascade.isSome then
    decide (p.rate ≤ 240) &&
      (List.range driveCounts.length).all fun r => planRowOk p.len driveCounts.length r (driveCounts.getD r 0)
  else decide (nIn part t 0xC00 + 5 ≤ p.len)) &&
  decide (p.active ≤ (enabledOf part t).length) && hasAdmissible part t cascade ticks p

/-- The same on a profile that takes effect now, with its own frame_ticks (04 R103). -/
def profileOk (part : Part) (t : PTab) (cascade : Option Nat) (driveCounts : List Nat) (p : Profile) : Bool :=
  profileOkIn part t cascade driveCounts (frameTicksOf part t cascade p) p

/-! ## Rules that tie parameters together (12 R390) -/

/-- The static rules. -/
inductive Rule where
  /-- 07 R227 -/
  | touch
  /-- swing_min and swing_max of a profile -/
  | swing (p : Nat)
  /-- 08 R237 -/
  | sill
  /-- 11 R341 -/
  | vector
  /-- 13 R400 -/
  | glitch
  /-- 13 R423 -/
  | rollcall
  /-- 10 R303 -/
  | linSource
  deriving DecidableEq, Repr

/-- Every static rule, by the lowest ID it names. -/
def allRules : List Rule :=
  (List.range 8).map Rule.swing ++ [.touch, .sill, .linSource, .glitch, .rollcall, .vector]

/-- The IDs a rule names. -/
def Rule.ids (part : Part) : Rule → List Nat
  | .touch => [0x202, 0x300, 0x301]
  | .swing p => [0x184 + 16 * p, 0x185 + 16 * p]
  | .sill => 0x400 :: (List.range part.sillGroups).map (0x410 + ·) ++ [0xC00, 0xC01]
  | .vector => [0x812, 0x813]
  | .glitch => [0x701, 0x703]
  | .rollcall => (List.range 32).map (0x710 + ·)
  | .linSource => (List.range 16).map (0x600 + ·)

/-- Do two ranges of lines, 0xFFFF for none, share a line? -/
def overlap (a b c d : Nat) : Bool :=
  a != 0xFFFF && c != 0xFFFF && decide (a ≤ d) && decide (c ≤ b)

/-- 08 R237 on the enabled groups. -/
def sillRule (part : Part) (t : PTab) : Bool :=
  let gs := ((List.range part.sillGroups).map fun n => pIn part t (0x410 + n))
  let en := gs.filter fun v => bitAt (byteAt v 1) 0
  let beyond := fun v =>
    (fieldAt v 4 2 != 0xFFFF && decide (min part.driveLines (nIn part t 0xC00) ≤ fieldAt v 6 2)) ||
    (fieldAt v 8 2 != 0xFFFF && decide (min part.senseLines (nIn part t 0xC01) ≤ fieldAt v 10 2))
  let clash := fun v w =>
    overlap (fieldAt v 4 2) (fieldAt v 6 2) (fieldAt w 4 2) (fieldAt w 6 2) ||
    overlap (fieldAt v 8 2) (fieldAt v 10 2) (fieldAt w 8 2) (fieldAt w 10 2)
  (List.range en.length).all (fun i => (List.range i).all fun j => !clash (en.getD i []) (en.getD j [])) &&
  !gs.any beyond && decide (sumNat (en.map fun v => byteAt v 0) ≤ nIn part t 0x400)

/-- May VECTOR_BASE and VECTOR_STRIDE hold these values (11 R341)? -/
def vectorOk (base stride : Nat) : Bool :=
  decide (base ≠ 0) && decide (base + 24 * (4 * 2 ^ stride) ≤ 0xFFFFFFFF)

/-- Does a rule hold on a table? -/
def Rule.holds (part : Part) (t : PTab) : Rule → Bool
  | .touch =>
    decide (nIn part t 0x301 < nIn part t 0x300) &&
    decide (nIn part t 0x202 + nIn part t 0x301 ≤ nIn part t 0x300)
  | .swing p => decide (nIn part t (0x184 + 16 * p) ≤ nIn part t (0x185 + 16 * p))
  | .sill => sillRule part t
  | .vector => vectorOk (nIn part t 0x812) (nIn part t 0x813)
  | .glitch => part.busSlope || !(nIn part t 0x701 == 2 && decide (1 < nIn part t 0x703))
  | .rollcall =>
    decide (((List.range 32).map fun e => byteAt (pIn part t (0x710 + e)) 0).filter (· != 0xFF)).Nodup
  | .linSource => (List.range 16).all fun n =>
      let src := byteAt (pIn part t (0x600 + n)) 9
      src == 0xFF || byteAt (pIn part t (0x600 + src)) 9 == 0xFF

/-! ## Keys (07 R210) -/

/-- The empty entry (07 R210). -/
def keyEmpty : List Byte := [0, 0, 0, 0, 0, 0, 0, 0, 1, 0, 0, 0, 1, 1, 2, 0]

/-- Entry `k` of the key table. -/
def keyEntry (part : Part) (t : PTab) (k : Nat) : List Byte :=
  if k < nIn part t 0x381 ∧ 16 * k + 16 ≤ (pIn part t 0x380).length then slice (pIn part t 0x380) (16 * k) 16
  else keyEmpty

/-- 07 R210 and Table 7.2 for one entry on a surface of `w` by `h` nodes. -/
def keyEntryOk (w h : Nat) (v : List Byte) : Bool :=
  decide (fieldAt v 0 2 ≤ fieldAt v 4 2) && decide (fieldAt v 2 2 ≤ fieldAt v 6 2) &&
  decide (fieldAt v 4 2 < w) && decide (fieldAt v 6 2 < h) && within 1 32767 (fieldAt v 8 2) &&
  decide (fieldAt v 10 2 < fieldAt v 8 2) && decide (1 ≤ byteAt v 12) && decide (1 ≤ byteAt v 13) &&
  decide (byteAt v 14 ≤ 3) && byteAt v 15 == 0

end Sys2Proof.Machine
end

