-- ==== Sys2Proof/Machine/Ops.lean ====
section
/-! DEFINITION. The named operations every command shares: instants, the rings, report records and replies,
Tally records, attention sources, and the wrapper of every meaning, which places the command at its tick and
settles the attention controller afterwards. -/

namespace Sys2Proof.Machine

/-! ## Instants (02 R34, R50 to R52) -/

/-- `d` ticks after `t` (02 R36: T wraps). -/
def tAdd (t : Time) (d : Nat) : Time := t + BitVec.ofNat 56 d

/-- Ticks from `t` to `now`. -/
def since (now t : Time) : Nat := (now - t).toNat

/-- Has the instant `due` come (02 R52: met at t + D and later)? -/
def reached (now due : Time) : Bool := decide (since now due < 2 ^ 55)

/-- T now. -/
def State.now (s : State) : Time := s.time.t

/-- An instant as a record gives it: a locked member stamps in master time (02 R63). -/
def State.stampOf (s : State) (t : Time) : Time := t + s.time.masterDiff

/-- Low 32 bits of the tile's own T, as a table holds an instant that is given later. -/
def State.ownLow (s : State) : Nat := s.time.t.toNat % 2 ^ 32

/-- A held instant as a reply gives it, in master time on a locked member (02 R63). -/
def State.lowOf (s : State) (v : Nat) : Nat := (v + s.time.masterDiff.toNat) % 2 ^ 32

/-- Low 32 bits of T as a record gives them. -/
def State.low32 (s : State) : Nat := (s.stampOf s.time.t).toNat % 2 ^ 32

/-- The instant of a command within the present beat (02 R37, R51): the tick never goes back, and is 0
while ticks are not placed. Tick boundary j stands floor(j · N / 256) units after the beat's edge (02 R30). -/
def State.atTick (s : State) (tk : Tick) : State :=
  if s.time.stage = .placed then
    let low := s.time.t.toNat % 256
    let t := tAdd s.time.t (tk.toNat - low)
    { s with time := { s.time with t := t, place := t.toNat % 256 * s.time.n.toNat / 256 } }
  else s

/-- TIMEBASE_FAULT (02 R27, R32). -/
def State.tbFault (s : State) : Bool := s.time.sourceFault || s.time.poleFault

/-- A value that the spec leaves open: drawn afresh each time (log 2). -/
def State.draw (s : State) : Nat × State := (Config.freeValue s.freeIdx, { s with freeIdx := s.freeIdx + 1 })

/-! ## Roles and numbers -/

/-- The tile field of a record: 0 when standalone or unplaced (03 Table 3.8). -/
def State.tileNo (s : State) : Nat :=
  match s.casc.role with
  | .standalone => 0
  | _ => s.casc.tile.getD 0

/-- Does this tile take part in a cascade as its master? -/
def State.inCascade (s : State) : Bool := s.casc.role != .standalone

/-- The tenon_rate in force, which gives a cascade's least gap (09 R278); none standalone. -/
def State.linkRate (s : State) : Option Nat := if s.inCascade then some s.casc.rate else none

/-! ## Rings (11 R342) -/

/-- Ring sizes in bytes (01 Table 1.6). -/
def State.cmdSize (s : State) : Nat := 1024 * s.part.cmdKib
def State.reportSize (s : State) : Nat := 1024 * s.part.reportKib
def State.imageSize (s : State) : Nat := 1024 * s.part.imageKib
def State.recordSize (s : State) : Nat := 1024 * s.part.recordKib

/-- Used space of a ring. -/
def Ring.used (r : Ring) (size : Nat) : Nat := (r.head + 2 * size - r.tail) % (2 * size)

/-- Free space of a ring. -/
def Ring.free (r : Ring) (size : Nat) : Nat := size - r.used size

/-- Append an item: the head advances. -/
def Ring.put (r : Ring) (size : Nat) (i : Item) : Ring :=
  { r with items := r.items ++ [i], head := (r.head + i.bytes.length) % (2 * size) }

/-- Drop the first `n` items, `len` bytes: the tail advances. -/
def Ring.drop (r : Ring) (size n len : Nat) : Ring :=
  { r with items := r.items.drop n, tail := (r.tail + len) % (2 * size) }

/-- A ring pointer register (11 Table 11.5). -/
def ringReg (size p : Nat) : Nat := p % size + (if size ≤ p then 2 ^ 17 else 0)

/-! ## Attention sources (11 R346 to R350) -/

/-- Set or clear one bit. -/
def setBit {w : Nat} (v : BitVec w) (i : Nat) (b : Bool) : BitVec w :=
  if b then v ||| (1#w <<< i) else v &&& ~~~(1#w <<< i)

/-- Group of a source (11 Table 11.9). -/
def groupOf (src : Nat) : Nat :=
  if src ≤ 1 then 0 else if src ≤ 5 then 1 else if src ≤ 7 then 2 else if src ≤ 10 then 3
  else if src ≤ 13 then 4 else if src ≤ 18 then 5 else if src ≤ 21 then 6 else 7

/-- The level sources, in the order of CLEARED_BEFORE_SERVICE (11 Table 11.4). -/
def levelSources : List Nat := [9, 11, 14, 15, 17, 18]

/-- Hardware sets bits of ATTN_PENDING and CLEARED_BEFORE_SERVICE at an instant (00 R9). -/
def Attn.setBits (a : Attn) (now : Time) (pend : BitVec 25) (cbs : BitVec 6) : Attn :=
  { a with
    pending := a.pending ||| pend, cbs := a.cbs ||| cbs, setT := now
    setPend := (if a.setT = now then a.setPend else 0) ||| pend
    setCbs := (if a.setT = now then a.setCbs else 0) ||| cbs }

/-- The bits that hardware set at this very instant: a host clear of the same instant leaves them set (00 R9, 02
Table 2.6). While ticks are not placed an instant is known to its beat only, and the order of the queue decides. -/
def State.justPend (s : State) : BitVec 25 :=
  if s.time.stage = .placed ∧ s.attn.setT = s.now then s.attn.setPend else 0

def State.justCbs (s : State) : BitVec 6 :=
  if s.time.stage = .placed ∧ s.attn.setT = s.now then s.attn.setCbs else 0

/-- One bit of a word. -/
def oneBit (w i : Nat) : BitVec w := 1#w <<< i

/-- An event of a source: it becomes pending, but for the sources a wake check holds (08 R233, R242). -/
def raise (src : Nat) (s : State) : State :=
  if s.pwr.wakeCheck && (within 2 7 src || src == 23) then
    { s with trk := { s.trk with heldSources := setBit s.trk.heldSources src true } }
  else { s with attn := s.attn.setBits s.now (oneBit 25 src) 0 }

/-- Is a line, by its word, below its count (03 R82)? -/
def State.inUse (s : State) (w : Nat) : Bool :=
  if w < 0x8000 then decide (w < s.front.driveCount) else decide (w - 0x8000 < s.front.senseCount)

/-- Is a physical line excluded for a fault in force (03 R87)? A line beyond its count is never a fault (R82). -/
def State.lineFault (s : State) : Bool := s.front.lines.any fun e => e.2.cause != 0 && s.inUse e.1

/-- Is the condition of a level source met (11 Table 11.9)? -/
def levelCond (s : State) (src : Nat) : Bool :=
  match src with
  | 9 => s.lvl.tooFast || s.lvl.refMissing || s.lvl.overcurrent || s.lvl.slots.any (·.owFault)
  | 11 => s.bus.alertLow
  | 14 => s.lineFault
  | 15 => s.scan.noiseAlarm
  | 17 => s.boot.vddLow || s.boot.thermalWarn || s.boot.thermalClamp
  | 18 => s.tbFault
  | _ => false

/-- One level source follows its condition (11 R347, R348; 08 R231). -/
def syncLevel (s : State) (i src : Nat) (a : Attn) : Attn :=
  let c := levelCond s src
  if c && !a.active.getLsbD src then
    { a.setBits s.now (oneBit 25 src) 0 with active := setBit a.active src true }
  else if !c && a.active.getLsbD src then
    { a.setBits s.now 0 (if a.inService.getLsbD src then oneBit 6 i else 0) with
      active := setBit a.active src false
      pending := setBit a.pending src false
      acked := setBit a.acked src false
      claimed := setBit a.claimed src false }
  else if !c then { a with acked := setBit a.acked src false }
  else a

/-- All level sources follow their conditions. -/
def syncLevels (s : State) : Attn :=
  ((List.range levelSources.length).foldl (fun a i => syncLevel s i (levelSources.getD i 0) a) s.attn)

/-- Is a group's hold-off running (11 R349)? -/
def holdRunning (a : Attn) (now : Time) (g : Nat) : Bool :=
  match (a.groups.getD g .initial).holdEnd with
  | some e => !reached now e
  | none => false

/-- Is a source of the group in service? -/
def groupBusy (a : Attn) (g : Nat) : Bool :=
  (List.range 25).any fun src => groupOf src == g && a.inService.getLsbD src

/-- Is a source deliverable (11 R346)? -/
def deliverable (s : State) (src : Nat) : Bool :=
  s.attn.pending.getLsbD src && s.attn.enable.getLsbD src && s.attn.global &&
  !bitAt (s.pnat 0x815) src && !groupBusy s.attn (groupOf src) && !holdRunning s.attn s.now (groupOf src)

/-- The deliverable sources, ascending. -/
def deliverables (s : State) : List Nat := (List.range 25).filter (deliverable s)

/-- Is a source of a wake-worthy group (11 R350)? -/
def wakeWorthy (s : State) (src : Nat) : Bool := s.attn.wakeGroups.getLsbD (groupOf src)

/-- The deliverable sources of wake-worthy groups (11 R350). -/
def worthies (s : State) : List Nat := (deliverables s).filter (wakeWorthy s)

/-- The host is asleep (08 R243). -/
def State.asleep (s : State) : Bool := s.pwr.hsleep || s.pwr.hostAsleep

/-- Is the attention controller at work: PD1 on and the internal reset released (08 Table 8.1, 18 R498)? -/
def State.attnOn (s : State) : Bool := s.pwr.pd1 && s.boot.phase != .held

/-- A WAKE pulse is called for (11 R350). DESIGN CHOICE (log 99): of several causes of one pulse its Tally record names the
first, or the call of 08 R243, which starts the pulse whatever ATTN_GLOBAL holds (11 R349). -/
def wakeAsk (cause group : Nat) (s : State) : State :=
  if s.casc.role = .member then s
  else match s.attn.wakeDue with
  | some w => if cause = 2 ∧ w.1 ≠ 2 then { s with attn := { s.attn with wakeDue := some (cause, group) } } else s
  | none => { s with attn := { s.attn with wakeDue := some (cause, group) } }

/-- Does this tile drive ATTN_N now (01 R18, 08 R232)? -/
def drivesAttn (s : State) : Bool := s.attnOn && s.casc.role != .member

/-! ## Tally (16 R470 to R475) -/

/-- The 48-bit data field from its parts, from bit 47 downward (16 R470). -/
def d48 (parts : List (Nat × Nat)) : Nat :=
  let w := sumNat (parts.map (·.1))
  parts.foldl (fun acc p => acc * 2 ^ p.1 + p.2 % 2 ^ p.1) 0 * 2 ^ (48 - w)

/-- The 16 bytes of a Tally record (16 Table 16.1). -/
def TallyRec.bytes (r : TallyRec) : List Byte :=
  leBytes 4 r.seq ++ leBytes 2 r.code ++ leBytes 1 r.source ++ leBytes 1 r.flags ++ leBytes 2 r.count ++
    leBytes 6 r.data

/-- Put a new record into the retention memory, overwriting the oldest when all 64 places are taken
(16 R477, R482). -/
def keepRecord (r : TallyRec) (y : Tally) : Tally :=
  if y.kept.length < 64 then { y with kept := y.kept ++ [r] }
  else
    { y with
      kept := y.kept.drop 1 ++ [r]
      overwrites := satAt 65535 (y.overwrites + 1)
      lostRun := match y.lostRun with
        | some (n, f) => some (satAt 65535 (n + 1), f)
        | none => some (1, (y.kept.headD r).seq) }

/-- Copy a record into the record ring when it fits (11 R345); none while node memory is off or not yet initialised
(log 13). -/
def copyRecord (bs : List Byte) (s : State) : State :=
  let size := s.recordSize
  if s.pwr.pd1 && s.pwr.pd4 && s.boot.nodeInit && decide (16 ≤ s.record.free size) then
    let before := s.record.used size / 16
    let s := { s with record := s.record.put size ⟨bs, .plain⟩ }
    let mark := s.pnat 0x802
    if before < mark ∧ mark ≤ before + 1 then raise 22 s else s
  else s

/-- Write one record with the next seq of the present epoch (16 R471, R472). -/
def tallyPut (source code data extra : Nat) (s : State) : State :=
  let y := s.tally
  let seq := if y.started then y.seq + 1 else y.seq
  let flags := bitOf (!s.pwr.pd1 || y.degraded) 2 + bitOf s.tbFault 1 + extra
  let r : TallyRec := ⟨y.epoch, seq, code, source, flags, 0, data⟩
  let y := keepRecord r { y with seq := seq, started := true }
  let closed := code == 1 || code == 2 || code == 7
  copyRecord r.bytes { s with tally := { y with openT := if closed then none else some s.now } }

/-- Write a record, after a generation record when seq would pass 0xFFFFFFFF (16 R475). -/
def tallyNew (source code data extra : Nat) (s : State) : State :=
  if s.tally.started && s.tally.seq == 0xFFFFFFFF then
    let old := s.tally.epoch
    let new := (old + 1) % 65536
    let tile := s.tileNo % 16
    let s := { s with tally := { s.tally with epoch := new, seq := 0, started := false } }
    tallyPut source code data extra (tallyPut tile 2 (d48 [(16, old), (16, new)]) 0 s)
  else tallyPut source code data extra s

/-- Is the newest record open and equal in code, source and data (16 R472)? -/
def tallyRepeats (source code data : Nat) (s : State) : Bool :=
  match s.tally.openT, s.tally.kept.getLast? with
  | some t0, some r =>
    !reached s.now (tAdd t0 (s.pnat 0x901 * 8388608)) && r.code == code && r.source == source && r.data == data
  | _, _ => false

/-- An event of origin `origin` (0 hardware, 1 host command, 2 image, 3 master's order) (16 R470, R472,
R483). -/
def tallyBy (origin code data : Nat) (s : State) : State :=
  if s.tally.unavailable then s
  else
    let source := 16 * origin + s.tileNo % 16
    if tallyRepeats source code data s then
      let kept := modAt s.tally.kept (s.tally.kept.length - 1) fun r => { r with count := r.count + 1 }
      let full := match kept.getLast? with | some r => r.count == 65535 | none => false
      { s with tally := { s.tally with kept := kept, openT := if full then none else s.tally.openT } }
    else tallyNew source code data 0 s

/-- A hardware event. -/
def tally (code data : Nat) (s : State) : State := tallyBy 0 code data s

/-- The calendar in 2^-16 s, by 02 R41, and its two fields as one 48-bit number. DESIGN CHOICE (log 91): after T has wrapped
(R36) a sum below 0 reads 0, and a sum below 2^32 s reads as it stands although an earlier one had reached the limit. -/
def calendar (s : State) : Int :=
  if s.time.calendarSet then
    let v := s.time.calOffset + ((s.now.toNat / 128 : Nat) : Int)
    clampInt 0 (2 ^ 48 - 1) v
  else 0

/-- A time mark: calendar and beats at one instant (16 R473, R474). -/
def timeMark (origin : Nat) (s : State) : State :=
  if s.tally.unavailable then s
  else
    let source := 16 * origin + s.tileNo % 16
    let cal := calendar s
    let back := match s.tally.lastMarkCal with
      | some c => s.time.calendarSet && decide (cal < c)
      | none => false
    let s := tallyNew source 1 cal.toNat (bitOf back 0) s
    let s := tallyNew source 7 (s.now.toNat / 256) 0 s
    { s with tally := { s.tally with
        lastMarkT := some s.now
        lastMarkCal := if s.time.calendarSet then some cal else s.tally.lastMarkCal } }

/-! ## Records of the report ring (11 R343) -/

/-- A wake check ends with success: the held sources become pending (08 R242). -/
def wakeCheckPass (s : State) : State :=
  if s.pwr.wakeCheck && !s.pwr.checkFailed then
    { s with
      pwr := { s.pwr with wakeCheck := false }
      attn := s.attn.setBits s.now s.trk.heldSources 0
      trk := { s.trk with heldSources := 0 } }
  else s

/-- Does the report ring take `n` bytes? Until node memory is initialised there is no ring, and records wait (18
Table 18.1; log 13). -/
def State.reportFits (s : State) (n : Nat) : Bool := s.boot.nodeInit && decide (n ≤ s.report.free s.reportSize)

/-- Write a record that belongs to no frame; it ends a wake check (08 R242). -/
def writeReport (bs : List Byte) (mark : RecMark) (s : State) : State :=
  wakeCheckPass { s with report := s.report.put s.reportSize ⟨bs, mark⟩ }

/-! ## Tenon messages (09 R264 to R267) -/

/-- Is a port in RUN? -/
def State.portRun (s : State) (p : Nat) : Bool := (s.casc.ports.getD p .initial).phase == .run

/-- The port towards a tile, and whether it is the alternative one: along the row first, then along the column;
the column first when the row's port is not in RUN (09 R266). -/
def routeTo (s : State) (dest : Nat) : Option (Nat × Bool) :=
  let own := s.casc.tile.getD 0
  let h := if own % 4 < dest % 4 then some 1 else if dest % 4 < own % 4 then some 3 else none
  let v := if own / 4 < dest / 4 then some 2 else if dest / 4 < own / 4 then some 0 else none
  match h, v with
  | some p, some q => if s.portRun p then some (p, false) else if s.portRun q then some (q, true) else none
  | some p, none => if s.portRun p then some (p, false) else none
  | none, some q => if s.portRun q then some (q, false) else none
  | none, none => none

/-- A message that found no route is dropped and counted (09 R266). -/
def countDropped (s : State) : State :=
  { s with tel := { s.tel with tenonDropped := satAt 0xFFFFFFFF (s.tel.tenonDropped + 1) } }

/-- A unicast message leaves by its route, or is dropped. -/
def sendOne (m : TenonMsg) (s : State) : State :=
  match routeTo s m.dest with
  | some (p, _) => { s with casc := { s.casc with out := s.casc.out ++ [{ m with ports := [p] }] } }
  | none => countDropped s

/-- The message of this tile's next sequence number. -/
def newMsg (type dest : Nat) (payload : TenonBody) (s : State) : TenonMsg × State :=
  (⟨type, dest, s.casc.tile.getD 0xFE, s.casc.txSeq.toNat, [], payload⟩,
   { s with casc := { s.casc with txSeq := s.casc.txSeq + 1 } })

/-- Joined tiles, on the master. -/
def State.joinedTiles (s : State) : List Nat := (List.range 16).filter fun t => (s.casc.members.getD t .none).joined

/-- The payload bytes of a message whose content the spec lays out byte by byte: strip nodes of 3 bytes, with 2 bytes of
increment at a block end, and cross deltas of 3 bytes (09 R281, R282); none where Table 9.4 names the content alone (log
51). -/
def TenonBody.layout : TenonBody → Option (List Byte)
  | .bytes bs => some bs
  | .cross ds => some (ds.flatMap (leSigned 3))
  | .strip ns =>
    let block := ns.any (·.inc.isSome)
    some (ns.flatMap fun n =>
      leSigned 2 n.delta ++ leBytes 1 n.flags ++ if block then leSigned 2 (n.inc.getD 0) else [])
  | _ => none

/-- The bytes of a message as it leaves by a port (09 Table 9.3). -/
def wireBytes (m : TenonMsg) (port : Nat) (payload : List Byte) : List Byte :=
  let body := leBytes 1 m.type ++ leBytes 1 m.dest ++ leBytes 1 m.src ++ leBytes 1 m.seq ++ leBytes 1 port ++ [0] ++
    leBytes 2 payload.length ++ payload
  body ++ crcBytes body

/-- The bytes of a message, where its payload has a layout. -/
def TenonMsg.wire (m : TenonMsg) (port : Nat) : Option (List Byte) := m.payload.layout.map (wireBytes m port)

/-- Is a received message whole, with a CRC that holds (09 R264, Table 9.3)? -/
def wireOk (bs : List Byte) : Bool :=
  let n := bs.length - 2
  decide (10 ≤ bs.length) && fieldAt bs 6 2 + 8 == n && bs.drop n == crcBytes (bs.take n)

/-- Wait for the ACK of a message (09 R267). -/
def awaitAck (m : TenonMsg) (s : State) : State :=
  { s with casc := { s.casc with ackWait := s.casc.ackWait ++ [⟨m, s.now, 0⟩] } }

/-- A unicast message of this tile, whose ACK is waited for where its type has one. -/
def sendTo (acked : Bool) (type dest : Nat) (payload : TenonBody) (s : State) : State :=
  let r := newMsg type dest payload s
  let s := sendOne r.1 r.2
  if acked then awaitAck r.1 s else s

/-- Unicast copies of a message to some tiles, each a message of its own. -/
def sendCopies (acked : Bool) (type : Nat) (payload : TenonBody) (ts : List Nat) (s : State) : State :=
  ts.foldl (fun s t => sendTo acked type t payload s) s

/-- Wait for the ACK of a message from each of some tiles. -/
def awaitAll (m : TenonMsg) (ts : List Nat) (s : State) : State :=
  ts.foldl (fun s t => awaitAck { m with dest := t } s) s

/-- The ports by which a broadcast comes to a tile, as (tile, port): E along tile-row 0, then S down the column (09 R266). -/
def treePath (t : Nat) : List (Nat × Nat) :=
  ((List.range (t % 4)).map fun i => (i, 1)) ++ (List.range (t / 4)).map fun j => (4 * j + t % 4, 2)

/-- Does a port of the tree pass broadcasts on: its tile is there, and neither end of the link is out of RUN, as far as the
master knows? -/
def treeOpen (s : State) (e : Nat × Nat) : Bool :=
  let far := if e.2 = 1 then (e.1 + 1, 3) else (e.1 + 4, 0)
  (if e.1 = 0 then s.portRun e.2 else (s.casc.members.getD e.1 .none).placed && !s.casc.linksDown.contains e) &&
    !s.casc.linksDown.contains far

/-- Joined tiles cut off from the tree; ENUM goes to neighbours only. -/
def cutTiles (type : Nat) (s : State) : List Nat :=
  if type = 1 then [] else s.joinedTiles.filter fun t => !(treePath t).all (treeOpen s)

/-- Hand a message to the Tenon ports (09 Table 9.3, R264, R266, R267). A broadcast leaves by E and S; tiles
that a port out of RUN cuts off from it receive a unicast copy. -/
def sendMsg (type dest : Nat) (payload : TenonBody) (s : State) : State :=
  let acked := type == 3 || type == 5 || type == 12 || type == 13
  if dest = 0xFF then
    let r := newMsg type dest payload s
    let s := { r.2 with casc := { r.2.casc with out := r.2.casc.out ++ [{ r.1 with ports := [1, 2].filter s.portRun }] } }
    let cut := cutTiles type s
    let s := if acked then awaitAll r.1 (s.joinedTiles.filter fun t => !cut.contains t) s else s
    sendCopies acked type payload cut s
  else sendTo acked type dest payload s

/-- A fault, partner-event or cascade-event record: written, or queued, or discarded; a member sends it to
the master instead (11 R343; 09 R296). -/
def faultRecord (bs : List Byte) (s : State) : State :=
  if s.casc.role = .member then sendMsg 0x0E 0 (.bytes bs) s
  else if s.bench.faultQueue.isEmpty && s.reportFits bs.length then writeReport bs .plain s
  else if s.bench.faultQueue.length < 8 then
    { s with bench := { s.bench with faultQueue := s.bench.faultQueue ++ [bs] } }
  else tally 0x802 (d48 [(8, byteAt bs 0)]) s

/-- The panel-line fault record (03 Table 3.8). -/
def lineRecord (cause line partner selfValue logical : Nat) (s : State) : State :=
  faultRecord ([8, 3] ++ leBytes 1 cause ++ leBytes 1 s.tileNo ++ leBytes 2 line ++ leBytes 2 partner ++
    leBytes 2 selfValue ++ leBytes 2 logical ++ leBytes 4 s.low32) s

/-- The baseline and environment fault record (06 Table 6.3). -/
def envRecord (cause id x y area : Nat) (s : State) : State :=
  faultRecord ([8, 2] ++ leBytes 1 cause ++ leBytes 1 s.tileNo ++ leBytes 1 id ++ [0] ++ leBytes 2 x ++
    leBytes 2 y ++ leBytes 2 area ++ leBytes 4 s.low32) s

/-- The supply and thermal fault record (19 Table 19.6). -/
def supplyRecord (cause : Nat) (set : Bool) (s : State) : State :=
  faultRecord ([8, 4] ++ leBytes 1 cause ++ leBytes 1 s.tileNo ++ leBytes 1 (bitOf set 0) ++
    leBytes 1 s.scan.level ++ leSigned 2 s.base.tDie ++ leBytes 4 0 ++ leBytes 4 s.low32) s

/-- The Level fault record (10 Table 10.8). -/
def levelRecord (cause channel input detail : Nat) (code : Int) (s : State) : State :=
  faultRecord ([8, 6] ++ leBytes 1 cause ++ leBytes 1 s.tileNo ++ leBytes 1 channel ++ leBytes 1 input ++
    leBytes 1 detail ++ [0] ++ leSigned 4 code ++ leBytes 4 s.low32) s

/-- The memory fault record (14 Table 14.8), with source 20 pending (14 R442). -/
def memRecord (cause region sector address : Nat) (s : State) : State :=
  faultRecord ([8, 0x0A] ++ leBytes 1 cause ++ leBytes 1 s.tileNo ++ leBytes 1 region ++ [0] ++
    leBytes 2 sector ++ leBytes 4 address ++ leBytes 4 s.low32)
    { (raise 20 s) with mem := { s.mem with failSeen := true } }

/-- A partner event record (13 Table 13.7), with source 12 pending. -/
def partnerRecord (cause address entry state detail value : Nat) (s : State) : State :=
  faultRecord ([7] ++ leBytes 1 cause ++ leBytes 1 s.tileNo ++ leBytes 1 address ++ leBytes 1 entry ++
    leBytes 1 state ++ leBytes 1 detail ++ leBytes 1 value ++ leBytes 4 0 ++ leBytes 4 s.low32) (raise 12 s)

/-- Bitmaps of joined tiles, and of grid positions not joined (09 Table 9.12); a member has them from its master. -/
def State.presentMap (s : State) : Nat :=
  if s.casc.role = .standalone then 0
  else if s.casc.role = .member then s.casc.told
  else sumNat ((List.range 16).map fun i =>
    bitOf (i == 0 || (s.casc.members.getD i .none).joined) i)

def State.absentMap (s : State) : Nat :=
  sumNat ((List.range 16).map fun i =>
    bitOf (decide (i % 4 < s.casc.cols) && decide (i / 4 < s.casc.rows) && !bitAt s.presentMap i) i)

/-- A cascade event record (09 Table 9.12), with source 13 pending. -/
def cascadeRecord (cause tile port detail : Nat) (s : State) : State :=
  let s := { s with casc := { s.casc with eventT := s.now } }
  faultRecord ([9] ++ leBytes 1 cause ++ leBytes 1 tile ++ leBytes 1 port ++ leBytes 2 s.presentMap ++
    leBytes 2 s.absentMap ++ leBytes 1 detail ++ leBytes 1 (s.casc.planId.toNat % 256) ++ leBytes 2 0 ++
    leBytes 4 s.low32) (raise 13 s)

/-! ## The start sequence (04 R120; 18 R501; 08 R235, R236) -/

/-- The detection self pass is run: a start by SCAN_START or at boot, with an automatic axis (03 R83). -/
def detectWanted (s : State) : Bool := s.scan.startDetect && (s.pnat 0xC02 == 2 || s.pnat 0xC03 == 2)

/-- Has the pump come up, or been given up (03 R66; 18 Table 18.3)? -/
def pumpReady (s : State) : Bool := s.front.driveSource != 1 || s.front.pumpSettled || s.front.vdrvFallback

/-- The start sequence goes on as far as it can. -/
def advanceStart (s : State) : State :=
  let s := if s.scan.phase = .waitCheck ∧ s.front.lineChecked then { s with scan := { s.scan with phase := .waitPump } } else s
  if s.scan.phase = .waitPump ∧ pumpReady s then
    if detectWanted s then
      { s with scan := { s.scan with phase := .waitDetect, detectT := some s.now } }
    else { s with scan := { s.scan with phase := .waitFrame } }
  else s

/-- Scanning starts with a profile, at a phase of the start sequence. A fresh start takes the line counts and
orders (03 R82, R83); any start takes the active set from a set named while stopped or from initial_slots
(04 R113), with no metric valid (R110). DESIGN CHOICE (log 78): NOISE_ALARM and its run of quiet decisions stand over a
stop and a new start (R114). Boundary-scan test mode refuses every start (15 R459). -/
def startScan (profile : Nat) (fresh : Bool) (phase : ScanPhase) (s : State) : State :=
  if s.trust.boundary then s
  else
  let p := profileOf s.part s.params profile
  let noMetric := List.replicate 16 none
  let want := match s.scan.namedSet with | some l => l | none => p.initial
  let order := fun (id : Nat) (now : Bool) => if s.pnat id = 2 then now else s.pnat id == 1
  let src := if fresh then s.pnat 0xC0D else s.front.driveSource
  advanceStart { s with
    scan := { s.scan with
      phase := phase, profile := if fresh then profile else s.scan.profile, stage := .none, startDetect := fresh
      latched := if fresh then s.params else s.scan.latched
      frameTicks := frameTicksOf s.part s.params s.linkRate p
      activeSet := refill s.part s.params s.linkRate (frameTicksOf s.part s.params s.linkRate p) p noMetric want
      namedSet := none, slotChange := none, confirm := none, metrics := noMetric, lowRun := 0
      nextLevel := none, nextProfile := if fresh then none else some profile, probeNext := 0, probed := false
      passes := [], passesStarted := 0, passTs := [], overRows := [] }
    front := { s.front with
      driveCount := if fresh then s.pnat 0xC00 else s.front.driveCount
      senseCount := if fresh then s.pnat 0xC01 else s.front.senseCount
      driveRev := if fresh then order 0xC02 s.front.driveRev else s.front.driveRev
      senseRev := if fresh then order 0xC03 s.front.senseRev else s.front.senseRev
      driveSource := src
      pumpSettled := s.front.pumpSettled && s.pwr.pd2
      vdrvFallback := s.front.vdrvFallback && src == 2 }
    pwr := { s.pwr with pd2 := true } }

/-! ## Power requests that replies set off (08 R231, R244, R544) -/

/-- Would any Sill group be enabled at an entry to WATCH? -/
def State.anySill (s : State) : Bool :=
  (List.range s.part.sillGroups).any fun n => bitAt (byteAt (s.param (0x410 + n)) 1) 0

/-- Has doze_profile an admissible set (04 R545)? -/
def State.dozeOk (s : State) : Bool :=
  profileOk s.part s.params s.linkRate s.casc.driveCounts (profileOf s.part s.params (s.pnat 0x408))

/-- Scanning runs in the sense of 12 Table 12.4. -/
def State.scanning (s : State) : Bool := s.scan.phase != .stopped

/-- Scanning is to end as SCAN_STOP mode 0: the frame in progress completes; a start in progress ends at its
next step (04 R122, Table 4.5). -/
def askStop (s : State) : State :=
  match s.scan.phase with
  | .frames => { s with scan := { s.scan with phase := .stopping } }
  | _ => s

/-- The value of a Level parameter in force: a changed one acts at the next round boundary (10 R328). -/
def State.lvlParam (s : State) (id : Nat) : List Byte :=
  match s.lvl.was.find? fun w => w.1 == id with
  | some (_, v, t) => if reached s.now t then s.param id else v
  | none => s.param id

/-- Does anything but refbuf_enable need PD5 (10 R317)? -/
def levelBusy (s : State) : Bool := s.lvl.queue.any (·.ready) || s.lvl.running.isSome || s.lvl.excIn

/-- Does anything need PD5, now or from the next round boundary? -/
def levelNeed (s : State) : Bool := levelBusy s || s.pnat 0x610 == 1

/-- The instant from which refbuf_enable has its value: the next round boundary after a change (10 R328). -/
def State.bufFrom (s : State) : Time :=
  match s.lvl.was.find? fun w => w.1 == 0x610 with
  | some (_, _, t) => if reached s.now t then s.now else t
  | none => s.now

/-- The buffer turns on at an instant. -/
def bufferOn (t : Time) (s : State) : State :=
  { s with lvl := { s.lvl with bufOn := true, bufT := t, bufOffT := none, bufSettled := false } }

/-- Is the buffer on (10 R305), and PD5 (R317)? -/
def State.bufOnNow (s : State) : Bool :=
  s.lvl.bufOn && reached s.now s.lvl.bufT && (match s.lvl.bufOffT with | some t => !reached s.now t | none => true)
def State.pd5Now (s : State) : Bool := s.lvl.pd5 && reached s.now s.lvl.pd5Since

/-- PD5 is off: excitation and buffer are off with it (08 Table 8.1). -/
def Level.off (l : Level) : Level :=
  { l with
    pd5 := false, idleSince := none, bufOn := false, bufOffT := none, bufSettled := false, excOn := false, reversed := false
    nextEdge := none, halfPeriod := 0 }
def pd5Off (s : State) : State := { s with lvl := s.lvl.off }

/-- PD5 follows its conditions: it powers up at once, for refbuf_enable at its round boundary, and powers down 256 beats after
the last one ends. -/
def pd5Check (s : State) : State :=
  if !s.part.hasLevel || !s.pwr.pd1 then s
  else if levelNeed s then
    if s.lvl.pd5 then
      { s with lvl := { s.lvl with
          idleSince := none, pd5Since := if levelBusy s && !s.pd5Now then s.now else s.lvl.pd5Since } }
    else
      let s := { s with lvl := { s.lvl with
        pd5 := true, pd5Since := if levelBusy s then s.now else s.bufFrom, idleSince := none } }
      if s.pnat 0x610 = 1 then bufferOn s.bufFrom s else s
  else if s.lvl.pd5 ∧ !s.pd5Now then pd5Off s
  else if s.lvl.pd5 ∧ s.lvl.idleSince = none then { s with lvl := { s.lvl with idleSince := some s.bufFrom } }
  else s

/-- The profile that goes on running, or starts. -/
def presentProfile (s : State) : Nat := s.scan.nextProfile.getD s.scan.profile

/-- The profile whose scanning an entry ends; a second request keeps that of the first. -/
def ranBefore (s : State) : Option Nat :=
  if s.scan.phase = .stopped ∨ s.scan.phase = .stopping then s.pwr.entry.bind fun _ => s.pwr.entryRan
  else some (presentProfile s)

/-- Request DORMANT (0) or WATCH (1) (08 R231): scanning, Level conversions and the image stream end, PD5 goes off 256 beats
later (10 R317); boundary-scan test mode holds the chip in ACTIVE (15 R459). -/
def askEntry (target cause : Nat) (tag : Option Nat) (s : State) : State :=
  if s.trust.boundary then s
  else pd5Check (askStop { s with
    pwr := { s.pwr with entry := some ⟨target, cause, tag⟩, entryRan := ranBefore s, next := none, ordered := none }
    lvl := { s.lvl with queue := [], running := none, tooFast := false }
    plane := { s.plane with img := .initial } })

/-- The idle time restarts from zero (08 R544); it also does when scanning starts its frames (log 17). -/
def restartIdle (s : State) : State := { s with pwr := { s.pwr with idleFrom := s.now } }

/-- The transition between DOZE and ACTIVE that the next frame start makes: on the master of a cascade whose frames run, the
one that its latest DIRECT ordered, so that every tile makes it at one frame boundary (08 R247). -/
def State.dueNext (s : State) : Option (Nat × Nat × Nat) :=
  if s.casc.role == .master && s.casc.planValid && !s.casc.alone && s.scan.phase == .frames then s.pwr.ordered
  else s.pwr.next

/-- The origin of a transition's event: the host's SET_POWER, the master's order, or the hardware (16 R470; 08 R253). -/
def powerOrigin (cause : Nat) : Nat := if cause = 0 then 1 else if cause = 5 then 3 else 0

/-- A transition to DOZE by sleep or idle is tested again when it would be made (08 R544). -/
def dozeBarred (s : State) : State :=
  match s.dueNext with
  | some (2, cause, _) =>
    if (cause = 7 ∨ cause = 8) ∧ !s.dozeOk then restartIdle { s with pwr := { s.pwr with next := none, ordered := none } } else s
  | _ => s

/-- The transition to DOZE that no SET_POWER requests; 08 R544 tests it at the instant at which it would be made (dozeBarred).
Scanning that a SCAN_STOP is ending starts again with the profile of DOZE. -/
def askDoze (cause : Nat) (s : State) : State :=
  if s.pwr.st ≠ 3 ∨ s.pwr.entry.isSome ∨ s.trust.boundary then s
  else { s with pwr := { s.pwr with next := some (2, cause, s.pnat 0x408) } }

/-- The transition to WATCH by sleep or idle, tested at the entry (08 R544). -/
def askWatch (cause : Nat) (s : State) : State := askEntry 1 cause none s

/-- sleep_state is requested unless a deferred SET_POWER waits (08 R244). -/
def requestSleep (s : State) : State :=
  let waiting := match s.pwr.entry with | some e => e.tag.isSome || e.cause == 0 | none => false
  if waiting || s.pwr.st.toNat < 2 then s
  else match s.pnat 0x40C with
  | 1 => askDoze 7 s
  | 2 => askWatch 7 s
  | 3 => askEntry 0 7 none s
  | _ => s

/-- The host becomes asleep by HSLEEP or HOST_SLEEP: sleep_state is requested (08 R244), after a wake check when
one runs (Table 8.7); WAKE pulses when the wake-worthy set is already non-empty (11 R350). -/
def fallAsleep (s : State) : State :=
  let s := if !(worthies s).isEmpty && drivesAttn s then
      let s := wakeAsk 3 (groupOf ((worthies s).headD 0)) s
      { s with attn := { s.attn with wakeSet := true } }
    else s
  let s := { s with pwr := { s.pwr with sleepFrom := some s.now } }
  if s.pwr.wakeCheck then { s with pwr := { s.pwr with sleepDue := true } } else requestSleep s

/-! ## Replies (12 R358 to R364) -/

/-- Status codes that the shared operations write (12 Table 12.3). -/
def stOk : Nat := 0
def stWrongState : Nat := 6


/-- The bytes of a reply record with `n` deferred commands outstanding (12 Table 12.2). -/
def Reply.bytes (r : Reply) (n : Nat) : List Byte :=
  let len := (14 + r.data.length + 15) / 16 * 16
  let body := [6] ++ leBytes 1 r.tag ++ leBytes 2 len ++ leBytes 1 r.status ++ leBytes 1 r.opcode ++
    leBytes 2 r.data.length ++ leBytes 1 r.kind ++ leBytes 1 n ++ leBytes 2 r.seq ++ r.data
  padTo 16 (body ++ crcBytes body)

/-- A final reply ends its command. -/
def dropOutstanding (r : Reply) (s : State) : State :=
  if r.kind = 2 then
    { s with bench := { s.bench with outstanding := s.bench.outstanding.filter fun d => d.tag != r.tag } }
  else s

/-- What the writing of a reply sets off: HOST_SLEEP (08 R244), RESET (12 R370). -/
def replyWritten (r : Reply) (s : State) : State :=
  if r.opcode = 0x06 ∧ r.status = 0 ∧ !s.asleep then
    fallAsleep { s with pwr := { s.pwr with hostAsleep := true } }
  else if r.opcode = 0x06 ∧ r.status = 0 then { s with pwr := { s.pwr with hostAsleep := true } }
  else match r.mark, s.bench.resetArmed with
  | .resetReply _, some (k, none) => { s with bench := { s.bench with resetArmed := some (k, some s.now) } }
  | _, _ => s

/-- Write a reply into the report ring; CMD_DONE becomes pending (11 R343). -/
def writeReply (r : Reply) (s : State) : State :=
  let s := dropOutstanding r s
  replyWritten r (raise 0 (writeReport (r.bytes s.bench.outstanding.length) r.mark s))

/-- The size of a reply record. -/
def Reply.size (r : Reply) : Nat := (14 + r.data.length + 15) / 16 * 16

/-- A reply is ready: written, or held until it fits with later ones behind it (11 R343, 12 R395). A member
sends it to the master, but for an acceptance (12 R385). -/
def postReply (r : Reply) (s : State) : State :=
  if s.casc.role = .member then
    let s := dropOutstanding r s
    if r.kind = 1 then s else replyWritten r (sendMsg 0x0D 0 (.bytes (r.bytes s.bench.outstanding.length)) s)
  else if s.bench.held.isEmpty && s.reportFits r.size then writeReply r s
  else { s with bench := { s.bench with held := s.bench.held ++ [r] } }

/-- The units whose commands are deferred, by opcode: 1 TRUST, 2 SENSOR_BUS, 3 CASCADE, 4 MEMORY_PORT, 5 TALLY (12 Tables 12.5
to 12.15). -/
def unitsOf (op : Nat) : List Nat :=
  if op = 0x02 ∨ op = 0x71 then [1]
  else if 0x40 ≤ op ∧ op ≤ 0x43 then [2]
  else if 0x48 ≤ op ∧ op ≤ 0x4A then [3]
  else if op = 0x52 ∨ op = 0x53 then [4]
  else if op = 0x54 then [4, 1]
  else if op = 0x58 then [5]
  else []

/-- Outstanding commands whose final reply is neither written nor held for room, in ring order. -/
def State.unposted (s : State) : List Deferred :=
  s.bench.outstanding.filter fun d => !s.bench.held.any fun r => r.kind == 2 && r.tag == d.tag

/-- Deferred commands whose final reply is not yet ready, oldest first. -/
def State.running (s : State) : List Deferred := s.unposted.filter fun d => !s.bench.turn.any fun r => r.tag == d.tag

/-- Does an earlier command of the same unit stand before a command (12 R364)? -/
def State.ahead (s : State) (d : Deferred) : Bool :=
  (s.unposted.takeWhile fun e => e.tag != d.tag).any fun e => (unitsOf e.opcode).any (unitsOf d.opcode).contains

/-- The running command of an opcode, the oldest first. -/
def State.outstanding (s : State) (opcode : Nat) : Option Deferred := s.running.find? fun d => d.opcode == opcode

/-- The command in ring order whose ready reply has its turn. -/
def nextTurn (s : State) : Option (Deferred × Reply) :=
  (s.unposted.filter fun d => !s.ahead d).findSome? fun d =>
    (s.bench.turn.find? fun r => r.tag == d.tag).map fun r => (d, r)

/-- Replies whose turn has come are written. -/
def postTurn : Nat → State → State
  | 0, s => s
  | n + 1, s =>
    match nextTurn s with
    | some (_, r) => postTurn n (postReply r { s with bench := { s.bench with turn := s.bench.turn.erase r } })
    | none => s

/-- The final reply of a command is ready. It waits while that of an earlier command of the same unit is not (12 R364). -/
def finish (d : Option Deferred) (status : Nat) (data : List Byte) (s : State) : State :=
  match d with
  | some d =>
    let r : Reply := ⟨d.tag, d.opcode, status, 2, d.seq, data, .plain⟩
    if s.ahead d then { s with bench := { s.bench with turn := s.bench.turn ++ [r] } }
    else postTurn s.bench.turn.length (postReply r s)
  | none => s

/-- The final reply of the running command of an opcode, the oldest first (12 R364). -/
def finishOp (opcode status : Nat) (data : List Byte) (s : State) : State :=
  finish (s.outstanding opcode) status data s

/-- The final replies of some running commands, in ring order (12 R364). -/
def finishSome (which : Deferred → Bool) (status : Nat) (data : List Byte) (s : State) : State :=
  (s.running.filter which).foldl (fun s d => finish (some d) status data s) s

/-- The final reply of every running command of an opcode, in order. -/
def finishAll (opcode status : Nat) (data : List Byte) (s : State) : State :=
  finishSome (fun d => d.opcode == opcode) status data s

/-- The same by tag. -/
def finishTag (tag status : Nat) (data : List Byte) (s : State) : State :=
  finish (s.running.find? fun d => d.tag == tag) status data s

/-- The entry that waits ends, with WRONG_STATE where its reply is still due: at a second SET_POWER (08 R234), and in
boundary-scan test mode (15 R459). -/
def dropEntry (s : State) : State :=
  match s.pwr.entry with
  | some e =>
    let s := { s with pwr := { s.pwr with entry := none } }
    match e.tag with
    | some tag => finishTag tag stWrongState [] s
    | none => s
  | none => s

/-! ## The profile in force -/

/-- The profile in force, by the parameters latched at the frame start (04 R126). -/
def State.prof (s : State) : Profile := profileOf s.part s.scan.latched s.scan.profile

/-- The code length in force, as a power of two: the plan's in a cascade (04 R95; 09 R279). -/
def State.lenLog (s : State) : Nat := if s.inCascade && s.casc.planValid then s.casc.codeLog else s.prof.codeLog

/-- The code length in force (04 R95; 09 R279). -/
def State.len (s : State) : Nat :=
  if s.inCascade && s.casc.planValid then 2 ^ s.casc.codeLog else s.prof.len

/-- The chip period of mutual pass `i` (04 R102). -/
def State.passK (s : State) (i : Nat) : Nat :=
  periodOf s.part s.scan.latched (s.scan.activeSet.getD (i % s.prof.active) 0)

/-- Ticks of the self pass (04 R102). -/
def State.selfTicks (s : State) : Nat := if s.prof.selfPass then 4096 else 0

/-- Ticks from the frame start to the start of mutual pass `i` (04 R102). -/
def State.passStart (s : State) (i : Nat) : Nat :=
  s.selfTicks + s.len * sumNat ((List.range i).map s.passK)

/-- Ticks from the frame start to the housekeeping gap. -/
def State.gapStart (s : State) : Nat := s.passStart s.prof.passes

/-- Ticks from the frame start to the instant at which mutual pass `i` began: the one that SYNC carried, else the scheduled
one (02 R62; 04 R102). -/
def State.passBegan (s : State) (i : Nat) : Nat :=
  match s.scan.passTs[i]? with
  | some t => since t s.scan.frameT
  | none => s.passStart i

/-- Ticks from the frame start to the end of mutual pass `i`. -/
def State.passEnded (s : State) (i : Nat) : Nat := s.passBegan i + s.len * s.passK i

/-- Ticks from the frame start to the housekeeping gap, as the frame has run: it begins where the last mutual pass ends. -/
def State.gapBegan (s : State) : Nat :=
  if s.prof.passes = 0 then s.gapStart else s.passEnded (s.prof.passes - 1)

/-- Are PD2 and PD3 powered now (08 R228)? Where scanning has them on, in DOZE only for the passes: from 8 beats before a
frame's first pass to the end of its last, and again while the work of the housekeeping gap is to be done. -/
def State.panelOn (s : State) : Bool :=
  s.pwr.pd2 &&
    (s.pwr.st != 2 || (s.scan.phase != .frames && s.scan.phase != .stopping) ||
      decide (since s.now s.scan.frameT < s.gapBegan) || (s.scan.stage == .written && !s.scan.gapDone) ||
      (s.scan.phase == .frames && reached s.now (tAdd s.scan.slotT (s.scan.frameTicks - 2048))))

/-- The end of the pass in progress, none between passes (02 R61; 09 R270). -/
def passEnd (s : State) : Option Time :=
  let off := since s.now s.scan.frameT
  if s.scan.stage ≠ .started ∨ !s.scanning then none
  else if off < s.selfTicks then some (tAdd s.scan.frameT s.selfTicks)
  else if 0 < s.scan.passesStarted ∧ off < s.passEnded (s.scan.passesStarted - 1) then
    some (tAdd s.scan.frameT (s.passEnded (s.scan.passesStarted - 1)))
  else none

/-- The tile no longer drives its lines; its frame is not completed (02 R61, 09 R270). -/
def driveNone (s : State) : State := { s with scan := { s.scan with phase := .stopped, stage := .none, stopAt := none } }

/-- The tile has lost its lock: it stops driving at the end of the current pass (02 R61, 09 R270). -/
def stopDriving (s : State) : State :=
  let s := { s with casc := { s.casc with syncLocked := false } }
  match passEnd s with
  | some t => { s with scan := { s.scan with stopAt := some t } }
  | none => driveNone s

/-- Driving ends once the pass in which the lock was lost has ended (02 R61, 09 R270). -/
def settleDrive (s : State) : State :=
  match s.scan.stopAt with
  | some t => if reached s.now t then driveNone s else s
  | none => s

/-! ## The end of scanning, and the wrapper of every meaning -/

/-- A key when scanning ends: OFF; what KEY_READ gives of its latest frame and record stays (07 R208, R213). -/
def Key.stopped (k : Key) : Key :=
  { Key.idle with
    value := k.value, wet := k.wet, suspect := k.suspect, interp := k.interp, wroteT := k.wroteT, wroteOn := k.wroteOn }

/-- The tracker when scanning ends: nothing is live, every key is OFF, every pending gesture is discarded, generations stay
(07 R208). A key that was written since the latest frame start is changed at the next one (R210). -/
def Tracker.stopped (t : Tracker) : Tracker :=
  { Tracker.initial with
    gens := t.gens, stamp := t.stamp, heldSources := t.heldSources, keyChanges := t.keyChanges, keySkip := t.keySkip
    keys := (t.keys.map fun e => (e.1, e.2.stopped)).filter fun e => e.2 != Key.idle }

/-- The end of scanning is the work of SCAN_STOP, and of the SET_POWER whose entry it begins: their final replies, in ring order
(04 R122; 08 R231, R234; 12 R364). -/
def endReplies (s : State) : State :=
  let waits := fun (d : Deferred) => match s.pwr.entry with | some e => d.opcode == 0x05 && e.tag == some d.tag | none => false
  finishSome (fun d => d.opcode == 0x11 || waits d) stOk []
    { s with pwr := { s.pwr with entry := s.pwr.entry.map fun e => if s.running.any waits then { e with tag := none } else e } }

/-- Scanning has ended: PD2 and PD3 off, no contact live, and the final replies that it makes ready (04 R122; 07 R208; 08
Table 8.1). -/
def endScan (s : State) : State :=
  endReplies { s with
    scan := { s.scan with
      phase := .stopped, stage := .none, passes := [], passesStarted := 0, nextProfile := none
      nextLevel := none, slotChange := none, namedSet := none, overRows := [], stopAt := none, profChange := false }
    front := { s.front with pumpSettled := false }
    pwr := { s.pwr with pd2 := false, ordered := none }
    plane := { s.plane with img := .initial }
    trk := s.trk.stopped }

/-- Once nothing scans, the wait for an entry has begun: SET_POWER's final reply is written (08 R231, R234). -/
def entryReply (s : State) : State :=
  match s.scan.phase, s.pwr.entry with
  | .stopped, some ⟨target, cause, some tag⟩ =>
    finishTag tag stOk [] { s with pwr := { s.pwr with entry := some ⟨target, cause, none⟩ } }
  | _, _ => s

/-- The sole reply that waited for the end of scanning (04 R122; 12 R370). -/
def payOwed (s : State) : State :=
  match s.bench.owed with
  | some r => postReply r { s with bench := { s.bench with owed := none } }
  | none => s

/-- An entry that the idle time asked for begins once the tracker is done with the frame, in which a seeded contact ends it
(08 Table 8.7). -/
def idleStop (s : State) : State :=
  if s.pwr.entry = some ⟨1, 8, none⟩ ∧ s.scan.phase = .frames ∧ s.scan.stage ≠ .started ∧ s.scan.stage ≠ .decoded ∧
      s.scan.stage ≠ .combined then askEntry 1 8 none s
  else s

/-- Scanning that is to stop has stopped once the frame's records are written (04 R122). -/
def settleScan (s : State) : State :=
  let s := idleStop s
  entryReply (if s.scan.phase = .stopping ∧ (s.scan.stage = .none ∨ s.scan.stage = .written) then payOwed (endScan s) else s)

/-- A failed wake check ends once its scanning has: WATCH is re-entered, or DORMANT when no group is enabled (08 Table
8.6, R544). -/
def settleCheck (s : State) : State :=
  if s.pwr.checkFailed && s.scan.phase == .stopped then
    askEntry (if s.anySill then 1 else 0) 12 none { s with
      trk := { s.trk with heldSources := 0 }
      pwr := { s.pwr with checkFailed := false, wakeCheck := false, sleepDue := false } }
  else s

/-- The request of sleep_state that a wake check put off (08 Table 8.7). -/
def settleSleep (s : State) : State :=
  if s.pwr.sleepDue && !s.pwr.wakeCheck then
    let s := { s with pwr := { s.pwr with sleepDue := false } }
    if s.asleep then requestSleep s else s
  else s

/-- DOZE, or ACTIVE with a profile, asked for while scanning is stopped: its profile starts (08 Table 8.2, R235). In a
cascade an enumeration that runs comes first (09 R294). -/
def settleDoze (s : State) : State :=
  if s.pwr.next = none ∨ s.scan.phase ≠ .stopped ∨ !s.pwr.pd1 ∨ s.casc.redo ∨ s.casc.enumT.isSome ∨ s.casc.closedT.isSome then s
  else
    let s := dozeBarred s
    match s.pwr.next with
    | some (_, _, p) => startScan p false .waitPump s
    | none => s

/-- What is left of the attention registers while PD1 is off: only the end of an acknowledged activation is kept
(08 R231). -/
def acksEnded (s : State) : Attn :=
  levelSources.foldl (fun (a : Attn) src =>
    if levelCond s src then a else { a with acked := setBit a.acked src false }) s.attn

/-- The state whose level sources follow their conditions (11 R347, R348). -/
def synced (s : State) : State := { s with attn := if s.attnOn then syncLevels s else acksEnded s }

/-- Is the wake-worthy set of a sleeping host non-empty (11 R350)? -/
def worthyNow (s : State) : Bool := s.asleep && !(worthies s).isEmpty && drivesAttn s

/-- ATTN_N follows the deliverable set, and a WAKE pulse is called for when the wake-worthy set of a sleeping host
becomes non-empty (11 R346, R350). -/
def followAttn (s : State) : State :=
  let u := if worthyNow s && !s.attn.wakeSet then wakeAsk 1 (groupOf ((worthies s).headD 0)) s else s
  { u with attn := { u.attn with attnN := drivesAttn s && !(deliverables s).isEmpty, wakeSet := worthyNow s } }

/-- The attention controller settles after every command: level sources follow their conditions, then ATTN_N and
the WAKE pin follow the deliverable set (11 R348, R350). -/
def settleAttn (s : State) : State := followAttn (synced s)

/-- Rank of a message type in the order of transmission (09 Table 9.4). -/
def msgRank (type : Nat) : Nat :=
  match [7, 8, 9, 0x0A, 0x0B, 6, 5, 1, 2, 0x10, 0x0E, 0x0C, 0x0D, 3, 4, 0x0F].findIdx? (· == type) with
  | some i => i
  | none => 16

/-- Messages leave in the order of Table 9.4 (09 R266). -/
def settleOut (s : State) : State :=
  { s with casc := { s.casc with out := sortBy (fun a b => decide (msgRank a.type < msgRank b.type)) s.casc.out } }

/-- Enumeration starts: ENUM with the master's position leaves by E and S (09 R271). -/
def startEnum (s : State) : State :=
  sendMsg 1 0xFF (.enum 0 0) { s with casc := { s.casc with
    enumT := some s.now, closedT := none, redo := false, alone := false, linksDown := []
    members := s.casc.members.map fun m => { m with placed := false, joined := false, refused := false, reason := 0, ready := false } } }

/-- CASCADE_PLAN mode 0: enumeration runs again once scanning has ended (09 R294). -/
def settleRedo (s : State) : State := if s.casc.redo && s.scan.phase == .stopped then startEnum s else s

/-- What follows every command: the end of scanning and what it sets off, then the attention controller. -/
def settle (s : State) : State :=
  settleOut (settleAttn (settleRedo (settleDoze (settleSleep (settleCheck (settleScan (settleDrive s)))))))

/-- The state in which a command acts: the messages of an earlier command have left, and T is at its instant. -/
def State.entered (s : State) (tk : Tick) : State := { s with casc := { s.casc with out := [] } }.atTick tk

/-- No command changes which part this is, nor the queue of waiting commands. -/
def sealed (s t : State) : State := { t with part := s.part, dieRevision := s.dieRevision, pending := s.pending }

/-- The wrapper of every meaning: the command's instant, its effect, and the attention controller. -/
def runAt (tk : Tick) (s : State) (f : State → State) : Host.Outcome State Fault Refusal :=
  .next (settle (sealed s (f (s.entered tk))))

end Sys2Proof.Machine
end

