-- ==== Sys2Proof/Machine/Flags.lean ====
section
/-! DEFINITION. Every status byte, register and read-only parameter the spec gives, computed from the state:
the capability record, the register window, the leader's status byte and the status parameters. -/

namespace Sys2Proof.Machine

/-- The capability record (01 Table 1.6). -/
def capability (s : State) : List Byte :=
  let p := s.part
  let body := [1] ++ leBytes 1 p.code ++ [s.dieRevision, 0] ++ leBytes 2 p.driveLines ++
    leBytes 2 p.senseLines ++ leBytes 2 p.nodeKib ++ leBytes 1 p.contacts ++ leBytes 1 p.sillGroups ++
    leBytes 1 p.levelPairs ++ leBytes 1 p.maxTiles ++ leBytes 1 s.boot.straps.toNat ++ [0] ++
    leBytes 4 p.unitPresent ++ leBytes 1 p.cmdKib ++ leBytes 1 p.reportKib ++ leBytes 1 p.imageKib ++
    leBytes 1 p.recordKib ++ List.replicate 6 0
  body ++ crcBytes body

/-- Is the crystal that has not started one whose frequency lies outside 12.5 % of the fallback's? No command says so, and
no rule gives the instant at which it is known: the value is free but at PD0 power-up, where Table 2.1 gives it (log 82). -/
def State.crystalOff (s : State) : Bool :=
  s.time.sourceCause == 1 && s.casc.role != .member && !s.time.declared && s.now != 0 && Config.crystalOff s.now.toNat

/-- FAULT_CAUSE (02 Table 2.1). -/
def faultCause (s : State) : Nat :=
  if s.time.poleFault then 5
  else if s.time.sourceFault then (if s.crystalOff then 3 else s.time.sourceCause.toNat) else 0

/-- The time status byte (02 Table 2.1). -/
def timeStatus (s : State) : Nat :=
  16 * faultCause s + bitOf s.time.cascadeLocked 3 + bitOf s.time.calendarSet 2 + bitOf s.tbFault 1 +
    bitOf s.time.crystalRunning 0

/-- crystal_since (02 Table 2.3). -/
def crystalSince (s : State) : Nat :=
  if s.tbFault then 2 ^ 64 - 1 else match s.time.lastSwitch with | some t => (s.stampOf t).toNat | none => 0

/-- The time snapshot (02 Table 2.3). -/
def timeSnapshot (s : State) : List Byte :=
  let c := (calendar s).toNat
  leBytes 8 (s.stampOf s.now).toNat ++ leBytes 8 (crystalSince s) ++ leBytes 4 (c / 65536) ++ leBytes 2 c ++
    leBytes 1 (timeStatus s) ++ [0]

/-- POWER_STATE bits 7:0 (08 Table 8.10). -/
def powerByte (s : State) : Nat :=
  bitOf s.pwr.hostAsleep 7 + bitOf s.pwr.wakeCheck 6 + 8 * s.pwr.wakeCause.toNat +
    bitOf s.pwr.nodesRetained 2 + s.pwr.st.toNat

/-- The status byte of a leader (11 Table 11.2). -/
def statusByte (s : State) (refused : Bool) : Nat :=
  let held := (List.range 25).any fun src =>
    s.attn.pending.getLsbD src && s.attn.enable.getLsbD src && !deliverable s src
  bitOf s.link.busy 7 + bitOf s.link.crcError 6 + bitOf refused 5 +
    bitOf (decide (s.record.free s.recordSize < 16)) 4 + bitOf s.link.imageFull 3 +
    bitOf (decide (0 < s.trk.withheld) || !s.bench.held.isEmpty ||
      (s.boot.nodeInit && !s.bench.faultQueue.isEmpty) ||
      !s.lvl.waiting.isEmpty) 2 +
    bitOf (decide (s.cmd.free s.cmdSize < s.pnat 0x801)) 1 + bitOf held 0

/-- Units left of a running hold-off, rounded up (11 Table 11.4). -/
def holdRemaining (s : State) (g : Nat) : Nat :=
  match (s.attn.groups.getD g .initial).holdEnd with
  | some e =>
    if reached s.now e then 0
    else satAt 255 (ceilDiv (since e s.now) (256 * 2 ^ (s.attn.groups.getD g .initial).holdScale.toNat))
  | none => 0

/-- HOLDOFF_Gn (11 Table 11.4). -/
def holdoffReg (s : State) (g : Nat) : Nat :=
  let h := s.attn.groups.getD g .initial
  holdRemaining s g * 2 ^ 24 + h.priority.toNat * 2 ^ 16 + h.scale.toNat * 256 + h.count.toNat

/-- A register of the window; a reserved address reads as 0 (11 Table 11.3). -/
def regRead (s : State) (addr : Nat) : Nat :=
  let a := addr / 4 * 4
  if 0x60 ≤ a ∧ a < 0x80 then holdoffReg s ((a - 0x60) / 4)
  else match a with
  | 0x00 => 0x4B4C0000 + s.part.code * 256 + s.dieRevision.toNat
  | 0x04 => s.link.width.toNat * 2 ^ 18 + s.link.mode.toNat * 2 ^ 16 + s.attn.cbs.toNat * 256 + s.link.status.toNat
  | 0x08 => s.attn.vector.toNat
  | 0x0C => s.attn.pending.toNat
  | 0x10 => s.attn.enable.toNat
  | 0x14 => bitOf (match s.attn.wake with | .high _ => true | _ => false) 2 + bitOf s.attn.attnN 1 +
      bitOf s.attn.global 0
  | 0x18 => s.attn.base.toNat
  | 0x1C => s.attn.stride.toNat
  | 0x20 => ringReg s.cmdSize s.cmd.head
  | 0x24 => ringReg s.cmdSize s.cmd.tail
  | 0x28 => ringReg s.reportSize s.report.head
  | 0x2C => ringReg s.reportSize s.report.tail
  | 0x30 => ringReg s.imageSize s.image.head
  | 0x34 => ringReg s.imageSize s.image.tail
  | 0x38 => ringReg s.recordSize s.record.head
  | 0x3C => ringReg s.recordSize s.record.tail
  | 0x40 => s.now.toNat % 2 ^ 32
  | 0x44 => s.time.hiLatch.toNat
  | 0x48 => s.scan.frameCount.toNat
  | 0x4C => s.tally.seq
  | 0x50 => s.link.seqHi.toNat
  | 0x54 => powerByte s
  | 0x80 => s.attn.active.toNat
  | 0x84 => s.attn.inService.toNat
  | 0x88 => s.attn.wakeGroups.toNat
  | _ => 0

/-! ## Place in the grid (09 R279, R280) -/

/-- Tile-row of this tile, and the border rows of the tile-rows above and below that it decodes. -/
def State.tileRow (s : State) : Nat := s.casc.tile.getD 0 / 4
def State.topRows (s : State) : Nat :=
  if s.inCascade && s.casc.planValid && decide (0 < s.tileRow) then 4 else 0
def State.botRows (s : State) : Nat :=
  if s.inCascade && s.casc.planValid && decide (s.tileRow + 1 < s.casc.rows) then 4 else 0

/-! ## Lines -/

/-- One physical line's state, by the word of Table 3.8. -/
def State.line (s : State) (w : Nat) : LineSt := tabGet (fun _ => LineSt.healthy) s.front.lines w

/-- Change a line's state. -/
def State.setLine (s : State) (w : Nat) (l : LineSt) : State :=
  { s with front := { s.front with lines := tabSet (fun _ => LineSt.healthy) s.front.lines w l } }

/-- Is a line out of service (03 R90)? -/
def LineSt.out (l : LineSt) : Bool := l.cause != 0 || l.forced

/-- Words of the lines in use: drive lines below drive_count, then sense lines below sense_count. -/
def State.usedLines (s : State) : List Nat :=
  List.range s.front.driveCount ++ (List.range s.front.senseCount).map (0x8000 + ·)

/-- Physical word of a logical row or column, and back (03 R81). -/
def State.driveWord (s : State) (y : Nat) : Nat := if s.front.driveRev then s.front.driveCount - 1 - y else y
def State.senseWord (s : State) (x : Nat) : Nat :=
  0x8000 + (if s.front.senseRev then s.front.senseCount - 1 - x else x)

/-- Logical index of a line's word; 0xFFFF if unmapped (03 Table 3.8). -/
def State.logicalOf (s : State) (w : Nat) : Nat :=
  if w < 0x8000 then
    if w < s.front.driveCount then (if s.front.driveRev then s.front.driveCount - 1 - w else w) else 0xFFFF
  else
    let p := w - 0x8000
    if p < s.front.senseCount then (if s.front.senseRev then s.front.senseCount - 1 - p else p) else 0xFFFF

/-- Lines out of service (12 Table 12.7). -/
def State.linesOut (s : State) : Nat := (s.usedLines.filter fun w => (s.line w).out).length

/-! ## Status parameters -/

/-- env_status (06 Table 6.7). -/
def envStatus (s : State) : List Byte :=
  let st := fun (k : NodeSt) => sumNat (s.base.nodes.map fun c => (c.filter fun n => n.st == k).length)
  let acq := match s.base.acq with | .phase2 .. => true | _ => false
  leSigned 2 s.base.tComp ++ leSigned 2 s.base.tDie ++
    leBytes 2 (s.base.humidity.getD 0xFFFF) ++
    (match s.base.tDew with | some d => leSigned 2 d | none => leBytes 2 0x8000) ++
    leBytes 1 s.base.sourceInUse ++
    leBytes 1 (bitOf s.base.condRisk 0 + bitOf s.base.tempFallback 1 + bitOf s.base.unchecked 2 + bitOf acq 3) ++
    leBytes 1 s.base.refInUse ++ [0] ++ leBytes 2 (st .suspect) ++ leBytes 2 (st .held)

/-- Byte 0 of level_status (10 Table 10.7). -/
def levelFaults (s : State) : Nat :=
  bitOf s.lvl.tooFast 0 + bitOf (s.lvl.slots.any (·.owFault)) 1 + bitOf s.lvl.refMissing 2 +
    bitOf s.lvl.overcurrent 3 + bitOf (s.lvl.slots.any (·.reversedRun)) 4

/-- level_status (10 Table 10.7). -/
def levelStatus (s : State) : List Byte :=
  let ow := sumNat ((List.range 16).map fun i => bitOf (s.lvl.slots.getD i .initial).owFault i)
  leBytes 1 (levelFaults s) ++
    leBytes 1 (match s.lvl.running with | some r => r.req.slot | none => 0xFF) ++
    leBytes 1 s.lvl.queue.length ++
    leBytes 1 (bitOf s.lvl.excOn 0 + bitOf s.lvl.reversed 1 + bitOf s.bufOnNow 2 + bitOf (s.bufOnNow && s.lvl.bufSettled) 3 +
      bitOf s.pd5Now 4) ++ leBytes 2 ow ++ leBytes 2 0

/-- Encoding of a role (09 Table 9.15). -/
def Role.num : Role → Nat
  | .standalone => 0
  | .master => 1
  | .member => 2

/-- Flags of cascade_status (09 Table 9.15). -/
def cascadeFlags (s : State) : Nat :=
  bitOf s.casc.degraded 0 + bitOf s.casc.syncLocked 1 + bitOf s.casc.planValid 2 + bitOf s.casc.rerouted 3

/-- cascade_status (09 Table 9.15). -/
def cascadeStatus (s : State) : List Byte :=
  leBytes 1 s.casc.role.num ++ leBytes 1 (s.casc.tile.getD 0xFF) ++
    leBytes 1 (s.casc.cols + 16 * s.casc.rows) ++ leBytes 1 (cascadeFlags s) ++ leBytes 2 s.presentMap ++
    leBytes 2 s.absentMap ++ leBytes 2 s.casc.planId.toNat ++ leBytes 1 (s.lenLog - 5) ++ [0] ++
    leBytes 4 (if s.casc.eventT = 0 then 0 else (s.stampOf s.casc.eventT).toNat)

/-- Encoding of a port state (09 Table 9.16). -/
def PortPhase.num : PortPhase → Nat
  | .down => 0
  | .bringup => 1
  | .run => 2
  | .fault => 3

/-- A port status byte (09 Table 9.16). -/
def portByte (p : Port) : Nat :=
  p.rate.toNat * 64 + bitOf p.diInv 5 + bitOf p.siInv 4 + p.phase.num

/-- Encoding of a bus state (13 Table 13.6). -/
def BusPhase.num : BusPhase → Nat
  | .off => 0
  | .starting => 1
  | .ready => 2
  | .stuck => 3

/-- Is a roll-call entry in use? -/
def State.entryUsed (s : State) (e : Nat) : Bool := byteAt (s.param (0x710 + e)) 0 != 0xFF

/-- bus_status (13 Table 13.6). -/
def busStatus (s : State) : List Byte :=
  leBytes 1 s.bus.phase.num ++ leBytes 1 s.bus.roles ++ leBytes 1 s.bus.speed ++ leBytes 1 s.bus.vbr ++
    leBytes 1 ((List.range 32).filter s.entryUsed).length ++ leBytes 1 (bitOf s.bus.alertLow 0) ++
    leBytes 1 s.bus.closings ++ [0]

/-- The partner table (13 Table 13.5), its times in master time on a member (02 R63). -/
def partnerTable (s : State) : List Byte :=
  busStatus s ++ (List.range 32).flatMap fun e =>
    let p := s.bus.partners.getD e .unused
    (s.param (0x710 + e)).take 1 ++ leBytes 1 (if s.entryUsed e then p.state else 0) ++ leBytes 1 p.misses ++
      leBytes 1 p.lastByte ++ leBytes 4 (if p.state = 0 then 0 else s.lowOf p.changed) ++
      leBytes 4 (if p.seen = 0 then 0 else s.lowOf p.seen)

/-- The oldest record held, in the log or the retention memory. -/
def oldestRecord (s : State) : Option TallyRec :=
  match (s.mem.flash.log.flatMap fun sec => sec.places.filterMap id) ++ s.tally.kept with
  | r :: _ => some r
  | [] => none

/-- tally_status (16 Table 16.8). -/
def tallyStatus (s : State) : List Byte :=
  let old := oldestRecord s
  leBytes 1 (bitOf s.tally.degraded 0 + bitOf s.tally.unavailable 1 + bitOf s.tally.openT.isSome 2) ++
    leBytes 1 s.tally.kept.length ++ leBytes 2 s.tally.overwrites ++ leBytes 4 s.tally.seq ++
    leBytes 2 s.tally.epoch ++ leBytes 2 (match old with | some r => r.epoch | none => s.tally.epoch) ++
    leBytes 4 (match old with | some r => r.seq | none => s.tally.seq)

/-- Sectors of the Tally log that remain (14 R429, R442). -/
def State.tallySectors (s : State) : Nat :=
  let total := s.mem.size / 4096 - 196
  total - (s.mem.led.retired.filter fun n => decide (0xC4 ≤ n)).length

/-- MEMORY_INFO data (12 Table 12.14). -/
def memoryInfo (s : State) : List Byte :=
  let upd := match s.mem.session with | .closed => 0 | .opened .. => 1 | .committing .. => 2
  let refs := sumNat ((List.range 4).map fun i => bitOf (s.mem.refsValid.getD i false) i)
  leBytes 3 s.mem.jedec ++ [3] ++ leBytes 4 s.mem.size ++ leBytes 4 s.mem.eraseMin ++
    leBytes 1 s.mem.readWidth ++ leBytes 1 (s.mem.bootSlot.getD 0xFF) ++
    leBytes 1 (s.mem.slotState.getD 0 0) ++ leBytes 1 (s.mem.slotState.getD 1 0) ++ leBytes 1 upd ++
    leBytes 1 refs ++ leBytes 2 s.tallySectors ++ leBytes 1 (bitOf s.mem.failSeen 0) ++ leBytes 3 0

/-- Is a key slot programmed (15 R449)? -/
def Trust.programmed (t : Trust) (n : Nat) : Bool := (t.keyHash.getD n []).any (· != 0)

/-- Programmed and revoked bits (15 Table 15.8). -/
def slotBits (t : Trust) : Nat :=
  sumNat ((List.range 4).map fun i => bitOf (t.programmed i) i + bitOf (t.revoked.getD i false) (4 + i))

/-- test_state (15 Table 15.3). -/
def testState (t : Trust) : Nat := bitOf t.unlocked 0 + bitOf t.unlockedEver 1 + bitOf t.boundary 2

/-- trust_status (15 Table 15.8). -/
def trustStatus (s : State) : List Byte :=
  let t := s.trust
  leBytes 1 t.verdictA ++ leBytes 1 t.verdictB ++ leBytes 1 t.verdictTenon ++ leBytes 1 (slotBits t) ++
    leBytes 1 t.steps ++ leBytes 1 (testState t) ++ leBytes 1 (satAt 255 t.failures) ++
    leBytes 1 (if s.link.mode = 2 then s.boot.recovery else 0) ++ leBytes 4 (if t.verdictT = 0 then 0 else (s.stampOf t.verdictT).toNat) ++ leBytes 4 0

/-- loss_ppb over the complete days held (17 R493). -/
def lossPpb (t : Tel) : Nat :=
  let sch := sumNat (t.days.map (·.1))
  if sch = 0 then 0 else sumNat (t.days.map (·.2)) * 1000000000 / sch

/-- A counter that saturates (17 R494). -/
def sat32 (n : Nat) : Nat := satAt 0xFFFFFFFF n

/-- The telemetry block (17 Table 17.4). -/
def telemetryBlock (s : State) : List Byte :=
  let t := s.tel
  [1] ++ leBytes 1 (bitOf (decide (t.days.length < 30)) 0) ++ leBytes 2 s.time.vcoreMv ++
    leBytes 1 t.marginMin ++ leBytes 3 0 ++ leBytes 8 (s.stampOf t.clearedAt).toNat ++
    leBytes 4 t.scheduled ++ leBytes 4 t.lostOverrun ++ leBytes 4 t.lostEcc ++ leBytes 4 t.withheld ++
    leBytes 4 t.degraded ++ leBytes 4 t.fallbackTimed ++ leBytes 4 t.marginLow ++ leBytes 4 t.eccCorrected ++
    leBytes 4 t.tenonCrc ++ leBytes 4 t.tenonDropped ++ leBytes 4 (sat32 (lossPpb t)) ++ leBytes 4 t.scrubPasses

/-- An active set in four bytes (07 Table 7.7). -/
def activeBytes (set : List Nat) : List Byte :=
  (List.range 4).map fun i => BitVec.ofNat 8 (set.getD i 0xFF)

/-- A key's state by index. -/
def State.key (s : State) (k : Nat) : Key := tabGet (fun _ => Key.idle) s.trk.keys k

/-- Is a key reported ON (07 R213)? -/
def Key.isOn (k : Key) : Bool := k.phase == .on || k.phase == .releasing

/-- Present value of a read-only parameter (12 R392). -/
def roValue (s : State) (id : Nat) : List Byte :=
  match id with
  | 0x130 => leBytes 4 s.scan.frameTicks
  | 0x131 => activeBytes s.scan.activeSet
  | 0x132 => s.scan.metrics.flatMap fun m => leBytes 2 (m.getD 0xFFFF)
  | 0x230 => envStatus s
  | 0x382 => leBytes 32 (sumNat ((s.trk.keys.filter fun e => e.2.isOn).map fun e => 2 ^ e.1))
  | 0x420 => (List.range 8).flatMap fun n =>
      let g := s.pwr.sills.getD n .idle
      leBytes 2 (if g.enabled && !g.faulty then g.last else 0xFFFF)
  | 0x421 => (List.range 8).flatMap fun n =>
      let g := s.pwr.sills.getD n .idle
      leBytes 2 (if g.enabled && !g.faulty then unsigned 16 (g.b / 256) else 0xFFFF)
  | 0x510 => cascadeStatus s
  | 0x511 => s.casc.ports.flatMap fun p => leBytes 1 (portByte p)
  | 0x6F0 => levelStatus s
  | 0x750 => busStatus s
  | 0x751 => partnerTable s
  | 0x910 => tallyStatus s
  | 0xA10 => memoryInfo s
  | 0xA30 => trustStatus s
  | 0xB10 => telemetryBlock s
  | _ => []

/-- The scan byte of GET_STATUS (12 Table 12.7). -/
def scanByte (s : State) : Nat :=
  match s.scan.phase with
  | .stopped => 0
  | .frames => 2
  | .stopping => 3
  | _ => 1

/-- GET_STATUS data (12 Table 12.7). -/
def statusData (s : State) : List Byte :=
  let out := s.bench.outstanding
  leBytes 1 (timeStatus s) ++ leBytes 1 (powerByte s) ++ leBytes 1 (scanByte s) ++
    leBytes 1 (if s.scan.phase = .stopped then 0xFF else s.scan.profile) ++ leBytes 1 out.length ++
    leBytes 1 (if s.part.hasLevel then levelFaults s else 0) ++
    leBytes 1 (if s.casc.role = .standalone then 0 else cascadeFlags s) ++
    leBytes 1 (bitOf s.tally.degraded 0 + bitOf s.tally.unavailable 1) ++
    leBytes 4 s.scan.frameCount.toNat ++
    (List.range 8).map (fun i => BitVec.ofNat 8 (match out[i]? with | some d => d.tag | none => 0)) ++
    leBytes 2 s.linesOut ++ leBytes 2 0 ++ leBytes 8 (s.stampOf s.now).toNat

/-- IDENTIFY data (12 Table 12.6). -/
def identifyData (s : State) : List Byte :=
  capability s ++ leBytes 8 Config.deviceId ++ leBytes 1 (s.mem.bootSlot.getD 0xFF) ++
    leBytes 1 (s.mem.keySlot.getD 0xFF) ++ leBytes 1 s.link.mode.toNat ++ leBytes 1 s.casc.role.num ++
    leBytes 4 s.mem.rollback

end Sys2Proof.Machine
end

