-- ==== Sys2Proof/Machine/Operands.lean ====
section
/-! DEFINITION. The operand forms of Bench: command packets, parameter records and their tests (12 R354 to
R357, R389 to R392), and what a table of parameters must satisfy as a whole. -/

namespace Sys2Proof.Machine

/-! ## Packets (12 R354) -/

/-- Bytes a packet with `p` parameter bytes occupies. -/
def packetSize (p : Nat) : Nat := 4 * ((p + 6 + 3) / 4)

/-- A packet Bench has taken: opcode byte, tag, parameters. -/
structure Packet where
  opcode : Nat
  tag : Nat
  par : List Byte
  deriving DecidableEq, Repr

/-- What stands at the front of the rest of a push (12 R356). -/
inductive Taken where
  | packet (p : Packet) (size : Nat)
  /-- fewer than 8 bytes, or a size beyond the push -/
  | badLength (tag opcode : Nat)
  | crcError (tag opcode : Nat)
  deriving DecidableEq, Repr

/-- Take the first packet of the bytes that remain in a push (12 R354, R356). -/
def takePacket (bs : List Byte) : Taken :=
  let op := byteAt bs 0
  let tag := byteAt bs 1
  let p := fieldAt bs 2 2
  if bs.length < 8 then .badLength tag op
  else if bs.length < packetSize p then .badLength tag op
  else if crcBytes (bs.take (4 + p)) != slice bs (4 + p) 2 then .crcError tag op
  else .packet ⟨op, tag, slice bs 4 p⟩ (packetSize p)

/-! ## Statuses (12 Table 12.3) -/

def stAccepted : Nat := 1
def stBadOpcode : Nat := 2
def stBadLength : Nat := 3
def stBadParam : Nat := 4
def stAbsentUnit : Nat := 5
def stAuthFail : Nat := 7
def stCrcError : Nat := 8
def stTimeout : Nat := 9
def stBusNack : Nat := 10
def stBusArbLost : Nat := 11
def stBusStuck : Nat := 12
def stMemoryFault : Nat := 13
def stPartial : Nat := 14
def stOverflow : Nat := 15
def stMemberAbsent : Nat := 16

/-! ## Parameter records (12 R389) -/

/-- Split bytes into records id, length, value; none when they do not end exactly. -/
def parseRecords : Nat → List Byte → Option (List (Nat × List Byte))
  | _, [] => some []
  | 0, _ => none
  | n + 1, bs =>
    let len := fieldAt bs 2 2
    if bs.length < 4 + len then none
    else (parseRecords n (bs.drop (4 + len))).map fun r => (fieldAt bs 0 2, slice bs 4 len) :: r

/-- The records of a byte list. -/
def recordsOf (bs : List Byte) : Option (List (Nat × List Byte)) := parseRecords bs.length bs

/-- A record in bytes. -/
def recordBytes (id : Nat) (v : List Byte) : List Byte := leBytes 2 id ++ leBytes 2 v.length ++ v

/-- Columns and rows of the surface (07 R195, 09 R259). -/
def State.surfaceCols (s : State) : Nat :=
  if s.inCascade && s.casc.planValid then
    sumNat s.casc.senseCounts
  else s.front.senseCount

def State.surfaceRows (s : State) : Nat :=
  if s.inCascade && s.casc.planValid then sumNat s.casc.driveCounts else s.front.driveCount

/-- X_c and Y_r of 09 R259 for a tile number; 0 when standalone. -/
def State.originOf (s : State) (tile : Nat) : Nat × Nat :=
  if s.inCascade && s.casc.planValid then
    (sumNat (s.casc.senseCounts.take (tile % 4)), sumNat (s.casc.driveCounts.take (tile / 4)))
  else (0, 0)

/-- Own origin. -/
def State.origin (s : State) : Nat × Nat := s.originOf (s.casc.tile.getD 0)

/-- Key-and-tile intersections (09 R288): with every tile of the grid, joined now or not. -/
def keyCrossings (s : State) (es : List (List Byte)) : Nat :=
  let tile := fun (t : Nat) => let m := s.casc.members.getD t .none
    t == 0 || bitAt s.presentMap t || (m.placed && !m.refused && decide (t % 4 < s.casc.cols) && decide (t / 4 < s.casc.rows))
  let tiles := (List.range 16).filter tile
  sumNat (es.map fun e => (tiles.filter fun t =>
    let o := s.originOf t
    decide (fieldAt e 0 2 < o.1 + s.casc.senseCounts.getD (t % 4) 0) && decide (o.1 ≤ fieldAt e 4 2) &&
    decide (fieldAt e 2 2 < o.2 + s.casc.driveCounts.getD (t / 4) 0) && decide (o.2 ≤ fieldAt e 6 2)).length)

/-- The entries of a key table in bytes. -/
def entriesOf : Nat → List Byte → List (List Byte)
  | 0, _ => []
  | n + 1, bs => if bs.length < 16 then [] else bs.take 16 :: entriesOf n (bs.drop 16)

/-- The key table of a parameter table as entries. -/
def keyEntries (part : Part) (t : PTab) : List (List Byte) := entriesOf 256 (pIn part t 0x380)

/-- A key table is allowed (07 R210, 09 R288): the surface is that of the line counts of table `t`, or of
the plan in a cascade. -/
def keyTableOk (s : State) (t : PTab) (v : List Byte) : Bool :=
  let es := entriesOf 256 v
  let grid := s.inCascade && s.casc.planValid
  let w := if grid then s.surfaceCols else nIn s.part t 0xC01
  let h := if grid then s.surfaceRows else nIn s.part t 0xC00
  es.all (keyEntryOk w h) &&
    (!s.inCascade || decide (keyCrossings s es ≤ 512))

/-- Set key_count: the table grows by empty entries or loses its last ones (07 R210). -/
def setKeyCount (part : Part) (t : PTab) (n : Nat) : PTab :=
  let es := (keyEntries part t ++ List.replicate n keyEmpty).take n
  pSet part (pSet part t 0x381 (leBytes 2 n)) 0x380 es.flatten

/-- Write one record into a table. -/
def applyRecord (part : Part) (t : PTab) (r : Nat × List Byte) : PTab :=
  if r.1 = 0x381 then setKeyCount part t (leVal r.2) else pSet part t r.1 r.2

/-- Write records in order: a later record for the same ID wins (12 R391). -/
def applyRecords (part : Part) (t : PTab) (rs : List (Nat × List Byte)) : PTab := rs.foldl (applyRecord part) t

/-- key_count and the line counts as a packet leaves them (12 R389, 07 R210). -/
def countsAfter (part : Part) (t : PTab) (rs : List (Nat × List Byte)) : PTab :=
  applyRecords part t (rs.filter fun r => (r.1 == 0x381 || r.1 == 0xC00 || r.1 == 0xC01) && r.2.length == 2)

/-- Does a record's length fit (12 R389)? -/
def lengthOk (part : Part) (keyCount : Nat) (r : Nat × List Byte) : Bool :=
  if r.1 = 0x380 then r.2.length == 16 * keyCount
  else match paramInfo part r.1 with
  | some i => r.2.length == i.size
  | none => false

/-- Is the parameter one that R82 fixes while scanning runs? -/
def scanFixed (id : Nat) : Bool := id == 0xC00 || id == 0xC01 || id == 0xC02 || id == 0xC03 || id == 0xC0D

/-- A ref-0 slot is converting or queued (10 R305). -/
def State.refZeroBusy (s : State) : Bool :=
  let ref := fun n => byteAt (s.param (0x600 + n)) 4
  (match s.lvl.running with | some r => ref r.req.slot == 0 | none => false) ||
    s.lvl.queue.any fun q => ref q.slot == 0

/-- The state rule of an ID's chapter (test 6 of 12 R390): 03 R82, 10 R305. -/
def stateRule (s : State) (id : Nat) (v : List Byte) : Bool :=
  !(scanFixed id && s.scanning) && !(id == 0x610 && leVal v == 0 && s.refZeroBusy)

/-- Tests 1 to 5 of 12 R390 on one record; 0 when all pass. -/
def recordStatus (s : State) (image : Bool) (t : PTab) (r : Nat × List Byte) : Nat :=
  match paramInfo s.part r.1 with
  | none => stBadParam
  | some i =>
    if !i.present then stAbsentUnit
    else if !lengthOk s.part (nIn s.part t 0x381) r then stBadLength
    else if !(i.access == .rw || (image && i.access != .ro)) then stBadParam
    else if (r.1 == 0x20B || r.1 == 0x20D) && leVal r.2 == 1 && !s.part.hasLevel then stAbsentUnit
    else if !paramRange s.part r.1 r.2 then stBadParam
    else if r.1 == 0x380 && !keyTableOk s t r.2 then stBadParam
    else 0

/-- All six tests. -/
def recordTests (s : State) (t : PTab) (r : Nat × List Byte) : Nat :=
  let st := recordStatus s false t r
  if st ≠ 0 then st else if stateRule s r.1 r.2 then 0 else stWrongState

/-- The first record that fails, with its status and index. -/
def firstBad (test : Nat × List Byte → Nat) : Nat → List (Nat × List Byte) → Option (Nat × Nat × Nat)
  | _, [] => none
  | i, r :: rs => if test r ≠ 0 then some (test r, i, r.1) else firstBad test (i + 1) rs

/-- Index of the last record that names one of some IDs. -/
def lastNaming (ids : Nat → Bool) (rs : List (Nat × List Byte)) : Option (Nat × Nat) :=
  (((List.range rs.length).zip rs).filter fun e => ids e.2.1).getLast?.map fun e => (e.1, e.2.1)

/-- Is the ID one that bears on every profile's admissibility (04 R98 to R119)? -/
def profileGlobal (id : Nat) : Bool :=
  within 0x100 0x110 id || id == 0x120 || id == 0x121 || id == 0xC00 || id == 0x500

/-- Have frames of the profile in force begun, with no other frame_ticks to come? -/
def State.inFrames (s : State) : Bool := s.scan.phase == .frames || s.scan.phase == .stopping

/-- The running profile, and those that run from the next frame start (04 R545): of a start in progress, the one
that it starts. -/
def State.runProfiles (s : State) : List Nat :=
  if !s.scanning then []
  else if s.inFrames then s.scan.profile :: (s.scan.nextProfile.toList ++ (s.pwr.next.map (·.2.2)).toList)
  else [s.scan.nextProfile.getD s.scan.profile]

/-- Is an ID a field of profile `p`? -/
def profileField (p id : Nat) : Bool := within (0x180 + 16 * p) (0x18D + 16 * p) id

/-- Does doze_profile run, or the transition to DOZE wait (08 R229; 04 R545)? -/
def State.dozes (s : State) : Bool :=
  s.scanning && (match s.pwr.next with | some (st, _, _) => st == 2 | none => s.pwr.st == 2)

/-- frame_ticks that profile `p` is tested with on the table a write leaves: those in force while it runs and none of its
own fields changes, else those it takes effect with (04 R103, R104, R121). -/
def testTicks (s : State) (t : PTab) (p : Nat) : Nat :=
  if s.inFrames && s.scan.profile == p && s.scan.nextProfile.isNone && !s.scan.profChange &&
      profileOf s.part t p == profileOf s.part s.params p then s.scan.frameTicks
  else frameTicksOf s.part t s.linkRate (profileOf s.part t p)

/-- Does a profile hold on the table that a write leaves (04 R545)? -/
def profileHolds (s : State) (t : PTab) (p : Nat) : Bool :=
  profileOkIn s.part t s.linkRate s.casc.driveCounts (testTicks s t p) (profileOf s.part t p)

/-- Profiles that a write names or that run, on the table that it leaves: doze_profile itself where a write of it changes
the running profile (04 R545; 08 R252). A profile that fails already is one that no test has named: the transition to it is
refused when it would be made (08 R544). -/
def testedProfiles (s : State) (t : PTab) (ids : List Nat) : List Nat :=
  (List.range 8).filter fun p =>
    ids.any (profileField p) || (ids.any profileGlobal && s.runProfiles.contains p && profileHolds s s.params p) ||
      (ids.contains 0x408 && s.dozes && nIn s.part t 0x408 == p)

/-- Does an ID concern the first of the rules that profile `p` breaks on a table (04 R98, R104, R105, R119; 09 R278, R280)? A
write of doze_profile names the profile, and so concerns every rule. -/
def profileConcern (s : State) (t : PTab) (p id : Nat) : Bool :=
  let q := profileOf s.part t p
  let isField := fun (offs : List Nat) => offs.any fun o => id == 0x180 + 16 * p + o
  let counts := s.casc.driveCounts
  let lenOk := if s.linkRate.isSome then
      (List.range counts.length).all fun r => planRowOk q.len counts.length r (counts.getD r 0)
    else decide (nIn s.part t 0xC00 + 5 ≤ q.len)
  id == 0x408 ||
    (if s.linkRate.isSome && decide (240 < q.rate) then isField [9]
    else if !lenOk then id == 0xC00 || isField [0]
    else if (enabledOf s.part t).length < q.active then id == 0x110 || isField [2]
    else within 0x100 0x110 id || id == 0x120 || id == 0x121 || isField [0, 1, 2, 7, 9, 11])

/-- The tie rules of 12 R390: status, index and ID of a failure. A packet none of whose records concerns the rule is
refused at the last one that names the profile. -/
def tieStatus (s : State) (t : PTab) (rs : List (Nat × List Byte)) : Option (Nat × Nat × Nat) :=
  let bad := allRules.findSome? fun r =>
    match lastNaming (fun id => (r.ids s.part).contains id) rs with
    | some (i, id) => if r.holds s.part t then none else some (stBadParam, i, id)
    | none => none
  match bad with
  | some b => some b
  | none =>
    (testedProfiles s t (rs.map (·.1))).findSome? fun p =>
      if profileHolds s t p then none
      else
        let named := lastNaming (fun id => profileGlobal id || profileField p id || id == 0x408) rs
        match lastNaming (profileConcern s t p) rs, named with
        | some (i, id), _ => some (stBadParam, i, id)
        | none, some (i, id) => some (stBadParam, i, id)
        | none, none => none

/-- Judge a whole packet of records (12 R390, R391): the new table, or the first failure. -/
def judgeRecords (s : State) (rs : List (Nat × List Byte)) : Except (Nat × Nat × Nat) PTab :=
  match firstBad (recordTests s (countsAfter s.part s.params rs)) 0 rs with
  | some b => .error b
  | none =>
    let t := applyRecords s.part s.params rs
    match tieStatus s t rs with
    | some b => .error b
    | none => .ok t

/-! ## Images (14 R430 to R433) -/

/-- The records of an image in one tile's scope (09 R274). -/
def scopedRecords (tile : Nat) : Nat → List (Nat × List Byte) → List (Nat × List Byte)
  | _, [] => []
  | scope, (id, v) :: rs =>
    if id = 0x501 ∧ v.length = 1 ∧ (leVal v ≤ 15 ∨ leVal v = 0xFF) then scopedRecords tile (leVal v) rs
    else
      let surface := within 0x100 0x1FF id || within 0x300 0x3FF id || within 0x500 0x5FF id ||
        id == 0xC0C || id == 0xC09 || id == 0xC0A || id == 0xC0B
      if surface || scope == 0xFF || scope == tile then (id, v) :: scopedRecords tile scope rs
      else scopedRecords tile scope rs

/-- key_count and the line counts as an image leaves them: its records are judged as those of one packet (14 R433;
12 R389; log 14). -/
def imageCounts (s : State) (rs : List (Nat × List Byte)) : PTab :=
  countsAfter s.part [] (rs.filter fun r => r.1 != 0x380 && recordStatus s true [] r == 0)

/-- What applying an image's records gives: table, skipped for an absent unit, skipped otherwise. `c` holds the
counts that key_table is judged by. -/
def imageRecords (s : State) (c : PTab) :
    PTab → List (Nat × List Byte) → List Nat → List Nat → PTab × List Nat × List Nat
  | t, [], a, b => (t, a.reverse, b.reverse)
  | t, r :: rs, a, b =>
    let st := recordStatus s true c r
    if st = stAbsentUnit then imageRecords s c t rs (r.1 :: a) b
    else if st ≠ 0 then imageRecords s c t rs a (r.1 :: b)
    else imageRecords s c (applyRecord s.part t r) rs a b

/-- Rules that fail return every parameter they name to its default (14 R433): the table and their first IDs. -/
def imageRules (part : Part) (t : PTab) : PTab × List Nat :=
  allRules.foldl (fun acc r =>
    if r.holds part acc.1 then acc
    else ((r.ids part).foldl (fun u id => pSet part u id (paramDefault part id)) acc.1,
      acc.2 ++ [(r.ids part).headD 0])) (t, [])

end Sys2Proof.Machine
end

