-- ==== Sys2Proof/Machine/Time.lean ====
section
/-! DEFINITION. Chapter 02: beat edges and the Story Pole, the crystal and CLK32, their losses. -/

namespace Sys2Proof.Machine

/-- A frame is in progress: its slot has begun and not ended (02 R25, R26). -/
def State.midFrame (s : State) : Bool :=
  (s.scan.phase == .frames || s.scan.phase == .stopping) && s.scan.stage != .none &&
    !reached s.now (tAdd s.scan.slotT s.scan.frameTicks)

/-- The Story Pole takes a count (02 R30, R32). -/
def measureN (count : Nat) (s : State) : State :=
  if count < 262144 ∨ 2 ^ 20 ≤ count then
    let s := { s with time := { s.time with poleFault := true, inRange := 0 } }
    tally 6 (d48 [(24, if 2 ^ 20 ≤ count then 0xFFFFFF else count)]) s
  else
    { s with time := { s.time with
        n := BitVec.ofNat 20 count
        inRange := if s.time.poleFault then s.time.inRange + 1 else 0 } }

/-- One beat edge (02 R30, R34, R36, R37). From a declared loss to the end of the frame the Story Pole holds its last
calibration (R26). -/
def beatEdge (count : Nat) (s : State) : State :=
  let low := s.time.t.toNat % 256
  let s := { s with time := { s.time with t := tAdd s.time.t (256 - low), place := 0 } }
  match s.time.stage with
  | .off => s
  | .waitEdge => { s with time := { s.time with stage := .measuring } }
  | .measuring => measureN count { s with time := { s.time with stage := .placed } }
  | .placed => if s.time.takeoverDue && s.midFrame then s else measureN count s

/-- STORY_POLE_FAULT_CLEAR (02 R32): after 16 consecutive beats in range. -/
def execStoryPoleFaultClear (tk : Tick) (s : State) : Host.Outcome State Fault Refusal :=
  runAt tk s fun s =>
    if s.time.poleFault ∧ 16 ≤ s.time.inRange then
      { s with time := { s.time with poleFault := false, inRange := 0 } }
    else s

/-- Beats come from the source that the role asks for: the crystal, or CLK32 on a member (02 R25, R61). -/
def State.ownSource (s : State) : Bool :=
  s.time.crystalRunning && (s.time.cascadeLocked == (s.casc.role == .member))

/-- CRYSTAL_DECLARED_RUNNING (02 R25). From then on a master drives CLK32_IO with its own beat, in every power state
(R60). -/
def execCrystalDeclaredRunning (tk : Tick) (s : State) : Host.Outcome State Fault Refusal :=
  runAt tk s fun s =>
    if s.casc.role ≠ .member ∧ !s.ownSource then
      { s with time := { s.time with declared := true, clk32 := s.time.clk32 || s.casc.role == .master } }
    else s

/-- CRYSTAL_SWITCH (02 R25; CLK32 on a member, R61): at the next frame boundary, or at once. -/
def execCrystalSwitch (tk : Tick) (s : State) : Host.Outcome State Fault Refusal :=
  runAt tk s fun s =>
    if s.time.declared ∧ !s.midFrame then
      { s with time := { s.time with
          declared := false, takeoverDue := false, crystalRunning := true, sourceFault := false
          sourceCause := 0, lastSwitch := some s.now
          cascadeLocked := s.casc.role == .member } }
    else s

/-- A conversion that runs when the crystal is lost ends without a result, and its request goes back to the
head of the queue (10 R317). -/
def abandonConversion (s : State) : State :=
  match s.lvl.running with
  | none => s
  | some r =>
    tally 0x608 (d48 [(8, r.req.slot)])
      { s with lvl := { s.lvl with running := none, tooFast := false, queue := { r.req with ready := true, urgent := true } :: s.lvl.queue } }

/-- The time source is lost: TIMEBASE_FAULT at once, the takeover at the next frame boundary (02 R26, R27). -/
def sourceLost (cause : BitVec 3) (s : State) : State :=
  abandonConversion { s with time := { s.time with
    declared := false, takeoverDue := s.time.crystalRunning, crystalRunning := false
    cascadeLocked := false, sourceFault := true, sourceCause := cause } }

/-- CRYSTAL_LOST (02 R26). -/
def execCrystalLost (tk : Tick) (s : State) : Host.Outcome State Fault Refusal :=
  runAt tk s fun s =>
    if s.casc.role ≠ .member ∧ (s.ownSource ∨ s.time.declared) then sourceLost 2 s else s

/-- FALLBACK_TAKEOVER (02 R26): beats come from the fallback oscillator from the frame boundary on. -/
def execFallbackTakeover (tk : Tick) (s : State) : Host.Outcome State Fault Refusal :=
  runAt tk s fun s =>
    if s.time.takeoverDue ∧ !s.midFrame then { s with time := { s.time with takeoverDue := false } } else s

/-- CLK32_DECLARED_RUNNING (02 R61). -/
def execClk32DeclaredRunning (tk : Tick) (s : State) : Host.Outcome State Fault Refusal :=
  runAt tk s fun s =>
    if s.casc.role = .member ∧ !s.ownSource then
      { s with time := { s.time with declared := true } }
    else s

/-- CLK32_LOST (02 R61): it governs over a loss of SYNC (09 Table 9.11). -/
def execClk32Lost (tk : Tick) (s : State) : Host.Outcome State Fault Refusal :=
  runAt tk s fun s =>
    if s.casc.role = .member ∧ (s.ownSource ∨ s.time.declared) then
      let s := stopDriving (sourceLost 4 s)
      { s with casc := { s.casc with syncLost := false } }
    else s

end Sys2Proof.Machine
end

