-- ==== Sys2Proof/Machine/Front.lean ====
section
/-! DEFINITION. Chapter 03: the line map and its detection, self values, interpolation, line faults, the drive
rail, the pump. -/

namespace Sys2Proof.Machine

/-! ## Interpolation (03 R88) -/

/-- The nearest present value before index `i`, with its distance. -/
def nearestBefore (l : List (Option Int)) : Nat → Option (Nat × Int)
  | 0 => none
  | i + 1 =>
    match l.getD i none with
    | some v => some (1, v)
    | none => (nearestBefore l i).map fun r => (r.1 + 1, r.2)

/-- The nearest present value in a list, with its distance from one before the list. -/
def nearestAfter : List (Option Int) → Option (Nat × Int)
  | [] => none
  | some v :: _ => some (1, v)
  | none :: r => (nearestAfter r).map fun q => (q.1 + 1, q.2)

/-- One missing value along an axis; `rnd` rounds a quotient. -/
def interpAt (rnd : Int → Nat → Int) (l : List (Option Int)) (i : Nat) : Option Int :=
  match nearestBefore l i, nearestAfter (l.drop (i + 1)) with
  | some (da, a), some (db, b) =>
    if da + db ≤ 3 then some (rnd (a * ((da + db : Nat) : Int) + (b - a) * (da : Int)) (da + db))
    else if da = 2 ∧ db = 2 then some (rnd (a + b) 2)
    else if da ≤ 2 ∧ da < db then some a
    else if db ≤ 2 then some b
    else none
  | some (da, a), none => if da ≤ 2 then some a else none
  | none, some (db, b) => if db ≤ 2 then some b else none
  | none, none => none

/-- Fill the missing values of a line of values. -/
def interpLine (rnd : Int → Nat → Int) (l : List (Option Int)) : List (Option Int) :=
  (List.range l.length).map fun i => match l.getD i none with | some v => some v | none => interpAt rnd l i

/-- Rows of a grid with `h` rows. -/
def transposeGrid {α : Type} (d : α) (h : Nat) (g : Grid α) : Grid α :=
  (List.range h).map fun y => g.map fun c => c.getD y d

/-- Both steps of 03 R88 on a grid of columns with `h` rows. -/
def interpGrid (h : Nat) (g : Grid (Option Int)) : Grid (Option Int) :=
  let g1 := g.map (interpLine roundAway)
  transposeGrid none g1.length ((transposeGrid none h g1).map (interpLine roundAway))

/-! ## Lines in service -/

/-- Is a logical drive row usable in this frame (03 R71, R90)? -/
def State.rowOk (s : State) (y : Nat) : Bool := !(s.line (s.driveWord y)).out && !s.scan.overRows.contains y

/-- Is a logical sense column usable? -/
def State.colOk (s : State) (x : Nat) : Bool := !(s.line (s.senseWord x)).out

/-- The Tally code of a line fault (03 R91). -/
def lineCode (cause : Nat) : Nat :=
  match cause with | 1 => 0x301 | 2 => 0x302 | 3 => 0x303 | 4 => 0x304 | 5 => 0x309 | _ => 0x308

/-- The latest self value of a line by its word; 0xFFFF when not measured. -/
def State.selfOf (s : State) (w : Nat) : Nat :=
  let i := s.logicalOf w
  ((if w < 0x8000 then s.front.selfDrive else s.front.selfSense)[i]?.map (·.value)).getD 0xFFFF

/-- The fault record and Tally event of a line (03 R91). -/
def lineEvent (cause w partner : Nat) (s : State) : State :=
  lineRecord cause w partner (s.selfOf w) (s.logicalOf w) s

/-- A confirmed fault excludes its line, and the partner of a short, from the next frame boundary; at once
while no frame runs (03 R87, R91). -/
def excludeLine (cause w partner : Nat) (s : State) : State :=
  let mark := fun (q : Nat) (s : State) =>
    let l := s.line q
    let l := if s.midFrame then { l with nextCause := cause } else { l with cause := cause, nextCause := 0 }
    s.setLine q { l with
      passes := 0, partner := if q = w then partner else w
      shorts := if q = w then l.shorts.filter (· != partner) else l.shorts.filter (· != w) }
  let s := mark w s
  let s := if cause = 3 ∧ partner ≠ 0xFFFF then mark partner s else s
  tally (lineCode cause) (d48 [(16, w), (16, partner), (8, s.tileNo)]) (lineEvent cause w partner s)

/-- Is a line free of a confirmed fault, in force or from the next frame boundary (03 R87)? The fault of R71 is one that a
check may still find to be another. -/
def LineSt.unjudged (l : LineSt) : Bool := (l.cause == 0 || l.cause == 6) && (l.nextCause == 0 || l.nextCause == 6)

/-- The partner of a confirmed short that is still to be excluded: the line's first one while the line is free, else one that
is free itself (03 R87). -/
def shortDue (s : State) (w : Nat) : Option Nat :=
  let l := s.line w
  l.shorts.find? fun q => l.unjudged || (s.line q).unjudged

/-- The fault that a line's counters confirm, with its partner (03 Table 3.7). A line that a fault excludes already can
still be confirmed as shorted to a further line. -/
def faultDue (s : State) (w : Nat) : Option (Nat × Nat) :=
  let l := s.line w
  if !l.unjudged then (shortDue s w).map fun q => (3, q)
  else if 2 ≤ l.aRun then some (1, 0xFFFF)
  else if 2 ≤ l.bRun then some (2, 0xFFFF)
  else if (shortDue s w).isSome then (shortDue s w).map fun q => (3, q)
  else if l.cause = 6 ∨ l.nextCause = 6 then none
  else if s.fnat 0xC10 ≤ l.openRun ∧ 0 < l.openRun then some (4, 0xFFFF)
  else if 64 ≤ l.satRun then some (5, 0xFFFF)
  else none

/-- Confirm what is due of a line: its fault, then the further lines that it is shorted to. -/
def flushLine : Nat → Nat → State → State
  | 0, _, s => s
  | n + 1, w, s =>
    match faultDue s w with
    | some (c, p) => flushLine n w (excludeLine c w p s)
    | none => s

/-- Confirm every fault that is due. -/
def flushFaults (s : State) : State :=
  (s.front.lines.map (·.1)).foldl (fun s w => flushLine (1 + (s.line w).shorts.length) w s) s

/-- LINE_FAULT_CONFIRMED (03 R87). -/
def execLineFaultConfirmed (tk : Tick) (line cause partner : Nat) (s : State) : Host.Outcome State Fault Refusal :=
  runAt tk s fun s =>
    match faultDue s line with
    | some (c, p) => if c = cause ∧ p = partner then excludeLine c line p s else s
    | none => s

/-- Has an excluded line earned its return (03 R89)? -/
def returnDue (s : State) (w : Nat) : Bool :=
  let l := s.line w
  l.cause != 0 && decide (3 ≤ l.passes) && (!(profileOf s.part s.scan.latched s.scan.profile).selfPass || !l.openNow)

/-- A line returns to service; its FREE nodes collect a new baseline (03 R89, 06 Table 6.4). -/
def returnLine (w : Nat) (s : State) : State :=
  let i := s.logicalOf w
  let own := fun (n : BNode) => { n with own := true, p2 := 0, p2n := 0 }
  let nodes := if w < 0x8000 then s.base.nodes.map fun c => modAt c (i + s.topRows) own else modAt s.base.nodes i fun c => c.map own
  let s := s.setLine w { LineSt.healthy with forced := (s.line w).forced }
  let s := { s with base := { s.base with nodes := nodes } }
  tally 0x305 (d48 [(16, w), (8, s.tileNo)]) (lineEvent 7 w 0xFFFF s)

/-- Every return that is due. -/
def flushReturns (s : State) : State :=
  (s.front.lines.map (·.1)).foldl (fun s w => if returnDue s w then returnLine w s else s) s

/-- LINE_RETURN (03 R89): at the frame boundary. -/
def execLineReturn (tk : Tick) (line : Nat) (s : State) : Host.Outcome State Fault Refusal :=
  runAt tk s fun s => if returnDue s line ∧ !s.midFrame then returnLine line s else s

/-- Lines are forced out and in by the bitmaps, at a frame boundary (03 R90). -/
def applyForced (origin : Nat) (s : State) : State :=
  let want := fun (w : Nat) =>
    if w < 0x8000 then bitAt (s.pnat 0xC07) w else bitAt (s.pnat 0xC08) (w - 0x8000)
  let all := List.range s.part.driveLines ++ (List.range s.part.senseLines).map (0x8000 + ·)
  (all.filter fun w => want w != (s.line w).forced).foldl (fun s w =>
    let out := want w
    let cause := if out then 8 else 9
    tallyBy origin 0x30A (d48 [(16, w), (8, cause)])
      (lineEvent cause w 0xFFFF (s.setLine w { s.line w with forced := out }))) s

/-! ## The line check (03 R85, R86) -/

/-- Test A of 03 R85: the line, pulled toward VREGA, reads below 0.45 V at the end. -/
def testAFails (t : LineTest) : Bool := decide (t.aMv < 450)

/-- Test B: the line, pulled toward GND, reads above 1.35 V. -/
def testBFails (t : LineTest) : Bool := decide (1350 < t.bMv)

/-- The other lines that test C pulls toward VREGA while it drives the line to GND: every usable one. -/
def State.pulledBy (s : State) (p q : Nat) : Bool := q != p && s.inUse q && !(s.line q).out

/-- The partners that test C shows: the pulled lines that read below 0.45 V. -/
def testCPartners (t : LineTest) (s : State) : List Nat :=
  (t.cMv.filter fun r => s.pulledBy t.line r.1 && decide (r.2 < 450)).map (·.1)

/-- Do the three tests of 03 R85 find the line good? -/
def testGood (t : LineTest) (s : State) : Bool := !(testAFails t) && !(testBFails t) && (testCPartners t s).isEmpty

/-- A line's counters after one check; `full` confirms at once. -/
def testLine (full : Bool) (t : LineTest) (s : State) : State :=
  let l := s.line t.line
  let partners := testCPartners t s
  let bump := fun (b : Bool) (n : Nat) => if b then (if full then 2 else n + 1) else 0
  let twice := partners.filter fun q => full || l.cSeen.contains q
  s.setLine t.line { l with
    aRun := bump (testAFails t) l.aRun
    bRun := bump (testBFails t) l.bRun
    cSeen := partners
    shorts := twice
    passes := if testGood t s then l.passes + 1 else 0
    underTest := false }

/-- Only lines in use are tested (03 R82). -/
def testLines (full : Bool) (ts : List LineTest) (s : State) : State :=
  (ts.filter fun t => s.usedLines.contains t.line).foldl (fun s t => testLine full t s) s

/-- The full line check (03 R86): faulty lines are excluded (R87). -/
def fullCheck (tests : List LineTest) (s : State) : State :=
  let s := flushFaults (testLines true tests s)
  { s with front := { s.front with lineChecked := true } }

/-- SELFTEST's line check leaves the lines' health as it finds it (12 R388; 03 R87): a line that a fault of this check had
excluded, and that it now finds good, returns to service, within a frame at the next boundary. -/
def selfCheck (tests : List LineTest) (s : State) : State :=
  let good := tests.filter fun t => s.usedLines.contains t.line && testGood t s && [1, 2, 3, 6].contains (s.line t.line).cause
  good.foldl (fun s t =>
    if s.midFrame then s.setLine t.line { s.line t.line with passes := 3 } else returnLine t.line s) (fullCheck tests s)

/-! ## Self values (03 R80, R83) -/

/-- A self chip saturates beyond 12 · 128 · Qref, 3,072 pC (03 R76), and its raw value is clamped there. -/
def selfChipMax : Nat := 3072 * 128

/-- Did a chip of the line's phase saturate (03 R76, R80)? -/
def selfSat (m : SelfMeas) : Bool := (m.line.take 8).any fun q => decide (selfChipMax < q.natAbs)

/-- The sum of a phase's 8 raw chip values, 8 times their mean (03 R80). -/
def selfSum (qs : List Int) : Int := sumInt ((qs.take 8).map (clampInt (-(selfChipMax : Int)) selfChipMax))

/-- One self value in 1/64 pF; the reference reading 0 leaves it open. -/
def selfValue (open0 : Nat) (m : SelfMeas) : Nat :=
  if selfSat m then 0xFFFF
  else if selfSum m.ref ≤ 0 then open0 % 65536
  else (clampInt 0 0xFFFF (roundUpHalf (640 * selfSum m.line) (selfSum m.ref).natAbs)).toNat

/-- Physical measurements to logical order. -/
def toLogical {α : Type} (rev : Bool) (l : List α) : List α := if rev then l.reverse else l

/-- Self values of an axis by logical line, excluded lines interpolated with halves up (03 R88). DESIGN CHOICE (log 78):
the rule holds a node that cannot be filled at its baseline and says nothing of a self value; an excluded line that
interpolation does not reach keeps its measured value. -/
def selfAxis (ok : Nat → Bool) (vals : List Nat) : List SelfVal :=
  let opt := (List.range vals.length).map fun i => if ok i then some ((vals.getD i 0 : Nat) : Int) else none
  let filled := interpLine roundUpHalf opt
  (List.range vals.length).map fun i =>
    if ok i then ⟨vals.getD i 0, false⟩
    else ⟨match filled.getD i none with | some v => v.toNat | none => vals.getD i 0, true⟩

/-- Is a line's self value below open_ratio percent of the median of its 8 nearest usable lines (03 Table 3.7)? -/
def isOpen (ratio : Nat) (ok : Nat → Bool) (vals : List Nat) (i : Nat) : Bool :=
  let idx := (List.range vals.length).filter fun j => ok j && j != i
  let below := ((idx.filter (· < i)).reverse).take 4
  let above := (idx.filter (i < ·)).take 4
  let vs := sortBy (fun a b => decide (a < b)) ((below ++ above).map fun j => vals.getD j 0)
  let n := vs.length
  let med2 := vs.getD ((n - 1) / 2) 0 + vs.getD (n / 2) 0
  decide (n ≠ 0) && decide (200 * vals.getD i 0 < ratio * med2)

/-- GUARD's amplitude differs from the measured lines' by more than 5 % (03 R73), in 1/1000. -/
def guardBad (guardDev : Nat) : Bool := decide (50 < guardDev)

/-- Event 0x030B and the fault record with cause 10 (03 R73). -/
def guardEvent (guardDev : Nat) (s : State) : State :=
  tally 0x30B (d48 [(16, guardDev)]) (lineRecord 10 0xFFFF 0xFFFF 0xFFFF 0xFFFF s)

/-- SELF_PASS_COMPLETE (03 R80, R73): self values, the open criterion, the GUARD check. The criterion's count runs with bit
0 of self_check; the return of a line asks it of the latest self value in any case (R89). -/
def selfPass (drive sense : List SelfMeas) (guardDev : Nat) (s : State) : State :=
  let (f, s) := s.draw
  let dv := toLogical s.front.driveRev ((drive.take s.front.driveCount).map (selfValue f))
  let sv := toLogical s.front.senseRev ((sense.take s.front.senseCount).map (selfValue f))
  let okD := s.rowOk
  let okS := s.colOk
  let prof := profileOf s.part s.scan.latched s.scan.profile
  let bad := guardBad guardDev
  let ratio := s.fnat 0xC06
  let openTest := fun (word : Nat → Nat) (ok : Nat → Bool) (vals : List Nat) (s : State) =>
    (List.range vals.length).foldl (fun s i =>
      let w := word i
      let l := s.line w
      let o := isOpen ratio ok vals i
      s.setLine w { l with openNow := o, openRun := if !bitAt (s.fnat 0xC0F) 0 then l.openRun else if o then l.openRun + 1 else 0 }) s
  let s := if !bad then
      openTest s.senseWord okS sv (openTest s.driveWord okD dv s)
    else s
  let s := if bad then { s with front := { s.front with selfValid := false } }
    else { s with front := { s.front with
      selfDrive := selfAxis okD dv
      selfSense := selfAxis okS sv
      selfValid := prof.guard } }
  if bad then guardEvent guardDev s else s

/-- SELF_PASS_COMPLETE. -/
def execSelfPassComplete (tk : Tick) (drive sense : List SelfMeas) (guardDev : Nat) (s : State) :
    Host.Outcome State Fault Refusal :=
  runAt tk s fun s =>
    if s.scan.stage = .started ∧ (profileOf s.part s.scan.latched s.scan.profile).selfPass then
      selfPass drive sense guardDev s
    else s

/-! ## Orientation (03 R83) -/

/-- The Pearson correlation of pairs, in units of 10⁻¹², 0 when it is not defined. -/
def pearson (ps : List (Int × Int)) : Int :=
  let n : Int := ps.length
  let sx := sumInt (ps.map (·.1))
  let sy := sumInt (ps.map (·.2))
  let cov := n * sumInt (ps.map fun p => p.1 * p.2) - sx * sy
  let vx := n * sumInt (ps.map fun p => p.1 * p.1) - sx * sx
  let vy := n * sumInt (ps.map fun p => p.2 * p.2) - sy * sy
  let d := isqrt ((vx * vy).natAbs * 10 ^ 24)
  if d = 0 then 0 else Int.tdiv (cov * 10 ^ 24) (d : Int)

/-- Self baselines of a reference image: drive lines, then sense lines (06 Table 6.2). -/
def refSelf (img : List Byte) : List Int × List Int :=
  let d := fieldAt img 8 2
  let n := fieldAt img 10 2
  let at0 := 64 + 2 * (d * n)
  ((List.range d).map fun i => (fieldAt img (at0 + 2 * i) 2 : Int),
   (List.range n).map fun i => (fieldAt img (at0 + 2 * d + 2 * i) 2 : Int))

/-- One axis: expected profile, measured values in physical order, usable lines (03 Table 3.6). -/
def orient (e m : List Int) (ok : Nat → Bool) (rev : Bool) : Bool × Option (Bool × Int × Int) :=
  let n := m.length
  let use := (List.range n).filter ok
  if use.length < 16 then (rev, none)
  else
    let rn := pearson (use.map fun p => (e.getD p 0, m.getD p 0))
    let rr := pearson (use.map fun p => (e.getD (n - 1 - p) 0, m.getD p 0))
    let hi := 800000000000
    let gap := 200000000000
    if hi ≤ rn ∧ gap ≤ rn - rr then (false, none)
    else if hi ≤ rr ∧ gap ≤ rr - rn then (true, if rev then none else some (true, rn, rr))
    else (rev, some (false, rn, rr))

/-- The event of an axis: 0x0306 when the order becomes reversed, 0x0307 when undetermined. DESIGN CHOICE (log 78): the
correlations times 10,000 are truncated toward zero, no rounding being given. -/
def orientEvent (axis : Nat) (rev : Bool) (r : Option (Bool × Int × Int)) (s : State) : State :=
  match r with
  | none => s
  | some (changed, rn, rr) =>
    let w := fun (z : Int) => unsigned 16 (Int.tdiv z 100000000)
    tally (if changed then 0x306 else 0x307)
      (d48 [(8, axis), (8, bitOf rev 0), (16, w rn), (16, w rr)]) s

/-- The expected profile of an axis: the selected reference's row, or a ramp, or none (03 R83). -/
def expected (ref : Option (List Int)) (sig n : Nat) : Option (List Int) :=
  match ref with
  | some r => some r
  | none =>
    if sig = 1 then some ((List.range n).map fun (i : Nat) => (i : Int))
    else if sig = 0 then none
    else some ((List.range n).map fun (i : Nat) => -(i : Int))

/-- The detection self pass (03 R83): the orders, from physical measurements. -/
def detectOrders (ref : Option (List Byte)) (drive sense : List SelfMeas) (s : State) : State :=
  let (f, s) := s.draw
  let row := fun (l : List SelfMeas) (n : Nat) => (l.take n).map fun m => ((selfValue f m : Nat) : Int)
  let decide1 := fun (axis order sig : Nat) (e : Option (List Int)) (m : List Int) (base : Nat) (rev : Bool) (s : State) =>
    if s.pnat order ≠ 2 then (s.pnat order == 1, s)
    else match expected e (s.pnat sig) m.length with
    | none => (rev, s)
    | some e =>
      let r := orient e m (fun p => !(s.line (base + p)).out) rev
      (r.1, orientEvent axis r.1 r.2 s)
  let (d, s) := decide1 0 0xC02 0xC04 (ref.map fun i => (refSelf i).1) (row drive s.front.driveCount) 0 s.front.driveRev s
  let (n, s) := decide1 1 0xC03 0xC05 (ref.map fun i => (refSelf i).2) (row sense s.front.senseCount) 0x8000 s.front.senseRev s
  { s with front := { s.front with driveRev := d, senseRev := n } }

/-! ## Swing levels and the rail (04 Table 4.3, R115; 03 R67) -/

/-- Levels available on this tile (04 Table 4.3; 03 R67; 19 R518; 18 Table 18.3). -/
def State.levels (s : State) : List Nat :=
  if s.boot.thermalClamp || s.front.vdrvFallback then [0]
  else match s.front.driveSource with
  | 1 => if s.front.pumpSettled then List.range (s.pnat 0xC0E + 2) else [0]
  | 2 => [0, 4]
  | _ => [0]

/-- In a cascade, levels available on every joined tile (09 R277). -/
def State.commonLevels (s : State) : List Nat :=
  if s.casc.role = .master then
    s.levels.filter fun l => s.casc.members.all fun m => !m.joined || m.levels.isEmpty || m.levels.contains l
  else s.levels

/-- The highest level of a profile (04 R115). -/
def topLevel (s : State) (p : Profile) : Nat := maxNat (s.commonLevels.filter (· ≤ p.swingMax))

/-- The lowest level of a profile, not above the highest. -/
def bottomLevel (s : State) (p : Profile) : Nat :=
  match s.commonLevels.filter fun l => decide (p.swingMin ≤ l) && decide (l ≤ topLevel s p) with
  | [] => topLevel s p
  | l :: _ => l

/-- The measured rail of a level in mV. -/
def State.rail (s : State) (l : Nat) : Nat := s.front.rails.getD l 1

/-- The level whose rail a gap reads: a step within the pump begins at the gap's start, so that the new level's rail
stands when it is measured (03 R67; 04 R116, R117). -/
def gapLevel (s : State) : Nat :=
  match s.scan.nextLevel with
  | some l => if within 1 3 s.scan.level && within 1 3 l then l else s.scan.level
  | none => s.scan.level

/-- Measure the rail of a gap; VDRV out of range falls back at the next frame boundary (03 R67). A step from VDD to the
pump finds the level that it goes to on VDRV. -/
def measureRail (railMv vdrvMv : Nat) (s : State) : State :=
  let up : Option Nat := match s.scan.nextLevel with
    | some l => if s.scan.level == 0 && within 1 3 l then some l else none
    | none => none
  let rails := s.front.rails.set (gapLevel s) railMv
  let rails := match up with | some l => rails.set l vdrvMv | none => rails
  let s := { s with front := { s.front with rails := rails } }
  if s.front.driveSource ≠ 2 then s
  else
    let s := if s.scan.level ≠ 4 then { s with front := { s.front with rails := s.front.rails.set 4 vdrvMv } } else s
    let inRange := within 5000 13200 vdrvMv
    let s := { s with front := { s.front with vdrvGood := if inRange then s.front.vdrvGood + 1 else 0 } }
    if (vdrvMv < 4750 ∨ 13900 < vdrvMv) ∧ !s.front.vdrvFallback ∧ !s.front.fallbackDue then
      tally 0x402 (d48 [(16, vdrvMv)]) { s with front := { s.front with fallbackDue := true } }
    else s

/-- VDRV_RESTORE (03 R67): after 64 consecutive gaps in range. -/
def execVdrvRestore (tk : Tick) (s : State) : Host.Outcome State Fault Refusal :=
  runAt tk s fun s =>
    if (s.front.vdrvFallback ∨ s.front.fallbackDue) ∧ 64 ≤ s.front.vdrvGood then
      let top := topLevel { s with front := { s.front with vdrvFallback := false } }
        (profileOf s.part s.scan.latched s.scan.profile)
      { s with
        front := { s.front with vdrvFallback := false, fallbackDue := false, vdrvGood := 0 }
        scan := { s.scan with nextLevel := some top } }
    else s

/-- A decoded pass with one more own row left undriven: the row is interpolated from those that the pass still has (03 R71,
R88; 04 Table 4.5). -/
def dropRow (y : Nat) (s : State) (p : PassData) : PassData :=
  let d := s.front.driveCount
  let top := s.topRows
  let kept : Grid (Option Int) := (List.range p.value.length).map fun x => (List.range d).map fun r =>
    if r = y ∨ (p.interp.getD x []).getD (top + r) true then none else (p.value.getD x []).getD (top + r) none
  let filled := interpGrid d kept
  { p with
    value := (List.range p.value.length).map fun x =>
      (p.value.getD x []).take top ++ filled.getD x [] ++ (p.value.getD x []).drop (top + d)
    interp := p.interp.map fun c => c.set (top + y) true }

/-- DRIVE_OVERCURRENT (03 R71): the row is undriven for the rest of the frame, and its line is excluded; the
frame is delivered with that row interpolated, in the passes already decoded too (04 Table 4.5). -/
def execDriveOvercurrent (tk : Tick) (line : Nat) (s : State) : Host.Outcome State Fault Refusal :=
  runAt tk s fun s =>
    if line < s.front.driveCount ∧ s.midFrame ∧ !(s.line line).out then
      let s := excludeLine 6 line 0xFFFF s
      let s := s.setLine line { s.line line with underTest := true, cause := 6, nextCause := 0 }
      let y := s.logicalOf line
      { s with scan := { s.scan with overRows := y :: s.scan.overRows, passes := s.scan.passes.map (dropRow y s) } }
    else s

/-- One health byte (03 Table 3.9). -/
def healthByte (s : State) (w : Nat) : Nat :=
  let l := s.line w
  let rev := if w < 0x8000 then s.front.driveRev else s.front.senseRev
  let used := s.logicalOf w != 0xFFFF
  let st :=
    if !used then 1
    else if l.cause = 6 then 8
    else if l.cause ≠ 0 then l.cause + 1
    else if l.forced then 7 else 0
  bitOf rev 7 + bitOf (used && l.out) 6 + st

/-- HEALTH_MAP data (12 Table 12.8, R377). -/
def healthMap (s : State) : List Byte :=
  let ws := List.range s.part.driveLines ++ (List.range s.part.senseLines).map (0x8000 + ·)
  leBytes 1 (bitOf s.front.driveRev 0) ++ leBytes 1 (bitOf s.front.senseRev 0) ++
    leBytes 2 s.front.driveCount ++ leBytes 2 s.front.senseCount ++ ws.flatMap fun w => leBytes 1 (healthByte s w)

end Sys2Proof.Machine
end

