-- ==== Sys2Proof/Machine/Scan.lean ====
section
/-! DEFINITION. Chapter 04: the code plan, the frame's passes, Dovetail, the scheduler's decisions on frequency
and amplitude, probes, and the start and the stop of scanning. -/

namespace Sys2Proof.Machine

/-! ## The code plan (04 R95 to R100; 09 R279, R280) -/

/-- The code bit h_r(n) (04 R95). -/
def codeBit (r n : Nat) : Int := if popcount 8 (r &&& n) % 2 = 0 then 1 else -1

/-- Listen rows r_j of a plan of `m` codes with `n` listen rows. -/
def listenRows (m n : Nat) : List Nat := (List.range n).map fun j => (j + 1) * m / (n + 1)

/-- Interior rows of a plan of `m` codes with `d` lines, ascending (04 R97; 09 R279). -/
def interiorRows (m d : Nat) : List Nat :=
  ((List.range m).drop 1).filter fun r => !(listenRows m (m - 1 - d)).contains r

/-- The codes of the tile's rows, in order (04 R97; 09 R279). -/
def ownCodes (s : State) : List Nat :=
  let d := s.front.driveCount
  if s.inCascade && s.casc.planValid then
    let m := s.len - 16
    let r := s.tileRow
    let north := (List.range s.topRows).map fun i => m + 8 * ((r - 1) % 2) + 4 + i
    let south := (List.range s.botRows).map fun i => m + 8 * (r % 2) + i
    north ++ (interiorRows m (d - s.topRows - s.botRows)).take (d - s.topRows - s.botRows) ++ south
  else (interiorRows s.len d).take d

/-- Codes of the neighbours' border rows that the tile decodes: above, then below (09 R280). -/
def crossCodes (s : State) : List Nat × List Nat :=
  let m := s.len - 16
  let r := s.tileRow
  ((List.range s.topRows).map fun i => m + 8 * ((r - 1) % 2) + i,
   (List.range s.botRows).map fun i => m + 8 * (r % 2) + 4 + i)

/-- Noise-listen rows: every row from 1 that carries no line the tile decodes (04 R96; 09 R280). -/
def listenSet (s : State) : List Nat :=
  let used := ownCodes s ++ (crossCodes s).1 ++ (crossCodes s).2
  ((List.range s.len).drop 1).filter fun r => !used.contains r

/-! ## Dovetail (04 R106 to R109) -/

/-- A chip clamped at the saturation limit (03 R76), in 1/256 Qref. -/
def clampChip (k : Nat) (q : Int) : Int := clampInt (-(3072 * k : Nat)) (3072 * k : Nat) q

/-- Does a chip saturate (03 R76)? -/
def chipSat (k : Nat) (q : Int) : Bool := decide (3072 * k < q.natAbs)

/-- One row of the transform, as a node value (04 R106). -/
def dovetailRow (len r : Nat) (xs : List Int) : Int :=
  let sum := sumInt ((List.range len).map fun n => codeBit r n * xs.getD n 0)
  clampInt (-(2 ^ 23 : Nat)) ((2 ^ 23 : Nat) - 1) (Int.fdiv (sum + (len / 2 : Nat)) (len : Int))

/-- The listen variance of a sense line (04 R108). -/
def listenVar (len : Nat) (rows : List Nat) (xs : List Int) : Nat :=
  let sq := sumNat (rows.map fun r => (dovetailRow len r xs).natAbs ^ 2)
  if rows.isEmpty then 0 else satAt 0xFFFFFFFF (sq / rows.length)

/-- The root of the mean of some variances, as 1/16 count (04 R109), scaled by `num / den` under the root. -/
def rootMean (vs : List Nat) (num den : Nat) : Nat :=
  satAt 0xFFFF (sqrt16 (sumNat vs * num) (vs.length * den))

/-- The charge that the capture integrator of a chip holds: connected with positive sign over the first half-window and
with negative sign over the second (03 R74). -/
def captured (c : ChipCharge) : Int := c.plus - c.minus

/-- The balancing of a charge in 1/256 Qref: the signed number of Qref packets, fired until less than one Qref remains,
and the remainder in 1/256 Qref, always added to the count (03 R75, Table 3.4). -/
def balance (q : Int) : Int × Nat := (Int.fdiv q 256, (q % 256).toNat)

/-- The raw chip value of Table 3.4, COUNT in bits 23:8 and FRACTION in bits 7:0, read as a number in 1/256 Qref (04
R106). -/
def rawValue (r : Int × Nat) : Int := 256 * r.1 + r.2

/-- The raw chip value of a captured charge, clamped at saturation (03 R75, R76). -/
def rawChip (k : Nat) (q : Int) : Int := rawValue (balance (clampChip k q))

/-- The captured charges of logical column `x` from the half-window charges by physical sense line. -/
def State.chipsOf (s : State) (charge : List (List ChipCharge)) (x : Nat) : List Int :=
  (charge.getD (s.senseWord x - 0x8000) []).map captured

/-- The six capture integrators of a sense input after a pass, used in rotation, one per chip: integrator `i` holds the
latest chip `n` with n = i modulo 6 (03 R74, R75). -/
def integrators (k : Nat) (qs : List Int) : List Int :=
  (List.range 6).map fun i =>
    let last := (List.range qs.length).filter fun n => n % 6 == i
    match last.getLast? with | some n => rawChip k (qs.getD n 0) | none => 0

/-- One decoded pass: own rows interpolated by 03 R88, with the neighbours' border rows above and below; on an excluded
sense column these too take the value interpolated along the sense axis (R107). -/
def decodePass (i : Nat) (charge : List (List ChipCharge)) (s : State) : PassData :=
  let k := s.passK i
  let len := s.len
  let d := s.front.driveCount
  let codes := ownCodes s
  let cross := crossCodes s
  let listen := listenSet s
  let cols := List.range s.front.senseCount
  let okRow := (List.range d).map s.rowOk
  let raw : List (Option (List Int)) := cols.map fun x =>
    if s.colOk x then some ((s.chipsOf charge x).map (rawChip k)) else none
  let own : Grid (Option Int) := raw.map fun c =>
    match c with
    | none => List.replicate d none
    | some xs => (List.range d).map fun y =>
        if okRow.getD y false then some (dovetailRow len (codes.getD y 0) xs) else none
  let filled := interpGrid d own
  let edge := fun (rows : List Nat) =>
    let g : Grid (Option Int) := raw.map fun c => rows.map fun r => c.map fun xs => dovetailRow len r xs
    transposeGrid none g.length ((transposeGrid none rows.length g).map (interpLine roundAway))
  let above := edge cross.1
  let below := edge cross.2
  { index := i
    k := k
    value := (cols.map fun x => above.getD x [] ++ filled.getD x [] ++ below.getD x [])
    interp := (cols.map fun x =>
      cross.1.map (fun _ => !s.colOk x) ++
        (List.range d).map (fun y => !(okRow.getD y false && s.colOk x)) ++ cross.2.map (fun _ => !s.colOk x))
    sat := cols.map fun x => s.colOk x && (s.chipsOf charge x).any (chipSat k)
    v := raw.map fun c => c.map fun xs => listenVar len listen xs }

/-- The largest |x_0| of the usable lines of a pass against its limit 12 · k · Qref, with any SAT chip as
100 % (04 R115). -/
def passHeadroom (p : PassData) (charge : List (List ChipCharge)) (s : State) : Nat × Nat :=
  let lim := 3072 * p.k
  let big := maxNat (((List.range s.front.senseCount).filter s.colOk).map fun x =>
    (rawChip p.k ((s.chipsOf charge x).getD 0 0)).natAbs)
  (if p.sat.any id then lim else big, lim)

/-- One measurement of a candidate's noise metric (04 R110). -/
def updateMetric (m : Option Nat) (sigma : Nat) : Option Nat :=
  match m with
  | none => some sigma
  | some v => some ((v : Int) + Int.tdiv ((sigma : Int) - v) 8).toNat

/-- The metrics after a frame: each candidate used takes the mean of its passes (04 R110). DESIGN CHOICE (log 93): a frame
or a probe without any usable sense line measures nothing, and the metrics stay. -/
def frameMetrics (s : State) : List (Option Nat) :=
  let sig : List (Nat × Nat) := s.scan.passes.filterMap fun p =>
    let vs := p.v.filterMap id
    if vs.isEmpty then none
    else some (s.scan.activeSet.getD (p.index % s.prof.active) 0, rootMean vs 1 1)
  (List.range 16).map fun c =>
    let mine := (sig.filter fun e => e.1 == c).map (·.2)
    let m := s.scan.metrics.getD c none
    if mine.isEmpty then m else updateMetric m ((2 * sumNat mine + mine.length) / (2 * mine.length))

/-- Lines that saturated in every pass of the frame at the lowest level (03 R77). DESIGN CHOICE (log 92): a frame in which
only some of its passes saturate on a line does not count toward the 64. -/
def countSaturation (s : State) : State :=
  let lowest := s.scan.level == bottomLevel s s.prof
  (List.range s.front.senseCount).foldl (fun s x =>
    let w := s.senseWord x
    let l := s.line w
    let all := !s.scan.passes.isEmpty && s.scan.passes.all fun p => p.sat.getD x false
    s.setLine w { l with satRun := if all && lowest then l.satRun + 1 else 0 }) s

/-! ## Decisions (04 R112 to R115) -/

/-- Can `c` take slot `w` (04 R112)? -/
def canTake (s : State) (w c : Nat) : Bool :=
  admissible s.part s.scan.latched s.linkRate s.scan.frameTicks s.prof (s.scan.activeSet.set w c)

/-- The worst slot: the highest valid metric, the higher slot on a tie (04 R112). -/
def worstSlot (s : State) (m : List (Option Nat)) : Option (Nat × Nat) :=
  let valid := (List.range s.scan.activeSet.length).filterMap fun i =>
    (m.getD (s.scan.activeSet.getD i 16) none).map fun v => (i, v)
  bestBy (fun a b => decide (b.2 < a.2) || (a.2 == b.2 && decide (b.1 < a.1))) valid

/-- The challenger for a slot: the lowest valid metric, the lower candidate on a tie. -/
def challenger (s : State) (m : List (Option Nat)) (w : Nat) : Option (Nat × Nat) :=
  let out := (enabledOf s.part s.scan.latched).filter fun c => !s.scan.activeSet.contains c && canTake s w c
  bestBy (fun a b => decide (a.2 < b.2) || (a.2 == b.2 && decide (a.1 < b.1)))
    (out.filterMap fun c => (m.getD c none).map fun v => (c, v))

/-- The frequency decision, with the confirmation and hysteresis that R114 sets (04 R112). -/
def freqDecision (m : List (Option Nat)) (s : State) : State :=
  let need := if s.scan.noiseAlarm then 1 else s.fnat 0x115
  let hyst := if s.scan.noiseAlarm then 256 else s.fnat 0x114
  match worstSlot s m with
  | none => { s with scan := { s.scan with confirm := none } }
  | some (w, mw) =>
    match challenger s m w with
    | none => { s with scan := { s.scan with confirm := none } }
    | some (b, mb) =>
      if mb * 256 < mw * hyst then
        let n := match s.scan.confirm with
          | some (w', b', n) => if w' = w ∧ b' = b then n + 1 else 1
          | none => 1
        if need ≤ n then { s with scan := { s.scan with slotChange := some (w, b), confirm := none } }
        else { s with scan := { s.scan with confirm := some (w, b, n) } }
      else { s with scan := { s.scan with confirm := none } }

/-- The lowest valid metric of the enabled candidates. -/
def lowestMetric (s : State) (m : List (Option Nat)) : Nat :=
  let vs := (enabledOf s.part s.scan.latched).filterMap fun c => m.getD c none
  match bestBy (fun a b => decide (a < b)) vs with | some v => v | none => 0xFFFF

/-- The noise decision (04 R114): the alarm is raised now; its clearing is due. -/
def noiseDecision (m : List (Option Nat)) (s : State) : State :=
  let en := enabledOf s.part s.scan.latched
  let lim := s.fnat 0x113
  let loud := en.all fun c => match m.getD c none with | some v => decide (lim < v) | none => false
  let quiet := en.any fun c => match m.getD c none with | some v => decide (8 * v ≤ 7 * lim) | none => false
  if s.scan.noiseAlarm then
    let run := if quiet then s.scan.quietRun + 1 else 0
    { s with scan := { s.scan with quietRun := run, alarmClearDue := decide (8 ≤ run) } }
  else if loud then
    tally 0x101 (d48 [(16, s.fnat 0x110), (16, lowestMetric s m)])
      { s with scan := { s.scan with noiseAlarm := true, quietRun := 0 } }
  else s

/-- The alarm clears by the decision that completed the run (04 R114). -/
def clearAlarm (m : List (Option Nat)) (s : State) : State :=
  if s.scan.noiseAlarm && s.scan.alarmClearDue then
    tally 0x102 (d48 [(16, lowestMetric s m)])
      { s with scan := { s.scan with noiseAlarm := false, quietRun := 0, alarmClearDue := false } }
  else s

/-- The level below, and above, the present one among those of the profile (04 R115). -/
def stepDown (s : State) : Option Nat :=
  ((s.commonLevels.filter fun l => decide (l < s.scan.level) && decide (bottomLevel s s.prof ≤ l)).getLast?)

def stepUp (s : State) : Option Nat :=
  (s.commonLevels.filter fun l => decide (s.scan.level < l) && decide (l ≤ topLevel s s.prof)).head?

/-- The amplitude decision (04 R115). DESIGN CHOICE (log 78): a frame with amp_auto = 0 neither counts toward
amp_up_frames nor restarts the count. -/
def ampDecision (num den : Nat) (sat : Bool) (s : State) : State :=
  if !s.prof.ampAuto then s
  else
    let high := s.fnat 0x117
    let low := s.fnat 0x118
    let run := if 100 * num < low * den then s.scan.lowRun + 1 else 0
    let s := { s with scan := { s.scan with lowRun := run } }
    if sat || decide (high * den ≤ 100 * num) then
      match stepDown s with
      | some l => { s with scan := { s.scan with nextLevel := some l } }
      | none => s
    else if s.fnat 0x119 ≤ run then
      match stepUp s with
      | some l =>
        if 100 * num * s.rail l < high * den * s.rail s.scan.level then
          { s with scan := { s.scan with nextLevel := some l } }
        else s
      | none => s
    else s

/-- The frame decision on given metrics and headroom: NOISE_ALARM, then the slot, then the level. DESIGN CHOICE (log 78):
the decision that completes the 8 quiet ones (04 R114) is itself still made with the alarm's confirmation and hysteresis;
the alarm clears after it. -/
def frameDecision (m : List (Option Nat)) (num den : Nat) (sat : Bool) (s : State) : State :=
  let s := noiseDecision m s
  let s := if s.fnat 0x112 = 1 then freqDecision m s else s
  ampDecision num den sat s

/-- The larger of two headrooms. -/
def maxRatio (a b : Nat × Nat) : Nat × Nat := if a.1 * b.2 < b.1 * a.2 then b else a

/-- The frame's last Dovetail output is complete: metrics, then the decisions; in a cascade the master decides
once the reports are in, and a member not at all (04 R110, R112; 09 R277). -/
def lastOutput (s : State) : State :=
  let s := { s with scan := { s.scan with stage := .decoded, metrics := frameMetrics s } }
  let s := countSaturation s
  if s.inCascade then s else frameDecision s.scan.metrics s.scan.headNum s.scan.headDen s.scan.satSeen s

/-- DOVETAIL_OUTPUT (04 R106). -/
def dovetailOutput (index : Nat) (charge : List (List ChipCharge)) (s : State) : State :=
  if s.scan.stage = .started ∧ index = s.scan.passes.length ∧ index < s.scan.passesStarted then
    let p := decodePass index charge s
    let h := maxRatio (s.scan.headNum, s.scan.headDen) (passHeadroom p charge s)
    let s := { s with
      scan := { s.scan with
        passes := s.scan.passes ++ [p], headNum := h.1, headDen := h.2
        satSeen := s.scan.satSeen || p.sat.any id }
      front := { s.front with
        integ := (List.range s.front.senseCount).map fun n => integrators p.k ((charge.getD n []).map captured) } }
    if s.scan.passes.length = s.prof.passes then lastOutput s else s
  else s

/-- DOVETAIL_OUTPUT. -/
def execDovetailOutput (tk : Tick) (index : Nat) (charge : List (List ChipCharge)) (s : State) :
    Host.Outcome State Fault Refusal :=
  runAt tk s (dovetailOutput index charge)

/-- Is this the instant at which mutual pass `i` starts (04 R102)? In a cascade a pass after the frame's first one
starts at the instant that its pulse carries (02 R62; 09 R269): the master's only once it has announced it; a member
whose pulse has not come keeps to the schedule (log 77). -/
def passNow (s : State) (i : Nat) : Bool :=
  let t := tAdd s.scan.frameT (s.passStart i)
  if !s.inCascade || s.casc.alone || t == s.scan.frameT then s.now == t
  else match s.casc.passNext with
  | some p => s.now == p && (s.casc.role == .member || p == t)
  | none => s.casc.role == .member && s.now == t

/-- MUTUAL_PASS_START (04 R102): pass `index` begins with its chip period. -/
def execMutualPassStart (tk : Tick) (index : Nat) (s : State) : Host.Outcome State Fault Refusal :=
  runAt tk s fun s =>
    if s.scan.stage = .started ∧ index = s.scan.passesStarted ∧ index < s.prof.passes ∧ s.bench.parkDue = none ∧
        s.scan.stopAt = none ∧ passNow s index then
      { s with scan := { s.scan with passesStarted := index + 1, passTs := s.scan.passTs ++ [s.now] }, casc := { s.casc with passNext := none } }
    else s

/-- The metrics that the decisions take: in a cascade the largest valid one among the joined tiles (09 R277). -/
def decisionMetrics (s : State) : List (Option Nat) :=
  (List.range 16).map fun c =>
    let far := (s.casc.members.filter (·.joined)).filterMap fun m =>
      match m.metrics[c]? with | some v => if v = 0xFFFF then none else some v | none => none
    let all := (match s.scan.metrics.getD c none with | some v => [v] | none => []) ++ (if s.casc.role = .master then far else [])
    if all.isEmpty then none else some (maxNat all)

/-- NOISE_ALARM_CLEAR (04 R114). -/
def execNoiseAlarmClear (tk : Tick) (s : State) : Host.Outcome State Fault Refusal :=
  runAt tk s fun s => clearAlarm (decisionMetrics s) s

/-- The pending slot change takes its slot (04 R112). -/
def applySlotChange (s : State) : State :=
  match s.scan.slotChange with
  | some (w, b) => { s with scan := { s.scan with activeSet := s.scan.activeSet.set w b, slotChange := none } }
  | none => s

/-- ACTIVE_SLOT_CHANGE (04 R112): at the frame boundary. -/
def execActiveSlotChange (tk : Tick) (s : State) : Host.Outcome State Fault Refusal :=
  runAt tk s fun s =>
    if !s.midFrame ∧ (s.scan.stage = .none ∨ s.scan.stage = .written) then applySlotChange s else s

/-! ## What the next frame runs (04 R103, R112, R113, R121) -/

/-- The profile of the next frame. -/
def nextProf (s : State) : Nat :=
  match s.dueNext with
  | some (_, _, p) => p
  | none => s.scan.nextProfile.getD s.scan.profile

/-- frame_ticks of the next frame: those of its profile where that is new or a PARAM_SET has changed it, else the present
ones (04 R103, R121). -/
def nextTicks (first : Bool) (s : State) : Nat :=
  let p := nextProf s
  if first || p != s.scan.profile || s.scan.nextProfile.isSome || s.scan.profChange then
    frameTicksOf s.part s.params s.linkRate (profileOf s.part s.params p)
  else s.scan.frameTicks

/-- The active set from the pending slot change or the named set, refilled where it is not admissible (04 R112,
R113). -/
def resolveSet (t : PTab) (ticks : Nat) (p : Profile) (s : State) : List Nat :=
  let want := s.scan.namedSet.getD (applySlotChange s).scan.activeSet
  refill s.part t s.linkRate ticks p s.scan.metrics want

/-- The active set of the next frame. -/
def nextSet (s : State) : List Nat :=
  resolveSet s.params (nextTicks (!s.inFrames) s) (profileOf s.part s.params (nextProf s)) s

/-! ## Probes (04 R111) -/

/-- The candidate outside the active set that comes at or after an index in rising order, else the first. -/
def probeAfter (from_ : Nat) (s : State) : Option Nat :=
  let out := (enabledOf s.part s.scan.latched).filter fun c => !s.scan.activeSet.contains c
  match out.find? fun c => decide (from_ ≤ c) with
  | some c => some c
  | none => out.head?

/-- The candidate to probe in this frame: in a cascade the one that the master's latest DIRECT before the frame start named
(09 R277), else the next in rising order. -/
def probeCandidate (s : State) : Option Nat :=
  if s.inCascade && !s.casc.alone then s.casc.probeNow else probeAfter s.scan.probeNext s

/-- The candidate that the master names for the next frame: the one after this frame's, probed by now or not. -/
def nextProbe (s : State) : Option Nat :=
  probeAfter (match s.scan.probed, s.casc.probeNow with | false, some c => (c + 1) % 16 | _, _ => s.scan.probeNext) s

/-- A probe of a candidate: 32 chips, rows 1 to 31 as listen rows (04 R111). -/
def probeNoise (k len : Nat) (cols : List (List Int)) : Nat :=
  let rows := (List.range 32).drop 1
  rootMean (cols.map fun xs => listenVar 32 rows (xs.map (rawChip k))) 32 len

/-- The instant at which the probe of the frame's gap starts, 2,048 ticks into it (04 R111). -/
def State.probeT (s : State) : Time := tAdd s.scan.frameT (s.gapBegan + 2048)

/-- The candidate whose probe runs in this gap, done or not, with its chip period (04 R111). -/
def probePlan (s : State) : Option (Nat × Nat) :=
  if s.scan.stage = .none ∨ s.scan.stage = .started ∨ s.scan.probed ∨ s.scan.gapDone ∨ s.fnat 0x116 = 0 then none
  else (probeCandidate s).map fun c => (c, periodOf s.part s.scan.latched c)

/-- PROBE (04 R111): the first task of the gap (17 R488). The command stands for the end of the probe's 32 chips, which
start 2,048 ticks into the gap; before that instant it does nothing. -/
def execProbe (tk : Tick) (charge : List (List ChipCharge)) (s : State) : Host.Outcome State Fault Refusal :=
  runAt tk s fun s =>
    match probePlan s with
    | none => s
    | some (c, k) =>
      if !reached s.now (tAdd s.probeT (32 * k)) then s
      else
      let cols := ((List.range s.front.senseCount).filter s.colOk).map (s.chipsOf charge)
      let sigma := probeNoise k s.len cols
      let m := if cols.isEmpty then s.scan.metrics
        else s.scan.metrics.set c (updateMetric (s.scan.metrics.getD c none) sigma)
      { s with scan := { s.scan with metrics := m, probed := true, probeNext := (c + 1) % 16 } }

/-! ## Restarts (05 R145, R141; 06 Table 6.4) -/

/-- The open tracking block is discarded (06 R182, R186). -/
def discardBlock (s : State) : State :=
  { s with base := { s.base with
      blockAt := 0
      nodes := s.base.nodes.map fun c => c.map fun (n : BNode) => { n with acc := 0, used := 0 }
      drive := s.base.drive.map fun (l : BLine) => { l with acc := 0, used := 0 }
      sense := s.base.sense.map fun (l : BLine) => { l with acc := 0, used := 0 } } }

/-- The partly accumulated image is discarded and its count restarts (05 R141). -/
def restartImage (s : State) : State :=
  { s with plane := { s.plane with img := { s.plane.img with
      count := 0, sums := [], interp := [], warming := false, timeValid := true } } }

/-- A touch-path restart (05 R136, R141, R146). -/
def touchRestart (s : State) : State :=
  discardBlock (restartImage { s with plane := { s.plane with y := [], warm := [], since := 0, reseedAll := false } })

/-! ## The start sequence goes on, or ends (04 R120, Table 4.5) -/

/-- Is a start in progress, and to end (04 Table 4.5)? -/
def startEnds (s : State) : Bool :=
  (s.scan.phase != .stopped && s.scan.phase != .frames && s.scan.phase != .stopping) &&
    (s.bench.owed.isSome || s.pwr.entry.isSome || s.casc.redo)

/-- The start ends: SCAN_START's final reply is WRONG_STATE, then the reply of the command that ended it
(04 Table 4.5). -/
def abortStart (s : State) : State :=
  let s := finishOp 0x10 stWrongState [] s
  payOwed (endScan s)

/-- A step of the start sequence is reached. -/
def startStep (s : State) : State := if startEnds s then abortStart s else advanceStart s

/-- PUMP_SETTLED (03 R66): the pump measures within ±3 %. -/
def execPumpSettled (tk : Tick) (s : State) : Host.Outcome State Fault Refusal :=
  runAt tk s fun s =>
    if s.pwr.pd2 ∧ s.front.driveSource = 1 ∧ !s.front.pumpSettled then
      startStep { s with front := { s.front with pumpSettled := true, vdrvFallback := false } }
    else s

/-- PUMP_START_TIMEOUT (18 R507): scanning goes on at level 0 from VDD. The record's VDRV reading is not given
to this step and stays open (log 2). -/
def execPumpStartTimeout (tk : Tick) (s : State) : Host.Outcome State Fault Refusal :=
  runAt tk s fun s =>
    if s.pwr.pd2 ∧ s.front.driveSource = 1 ∧ !s.front.pumpSettled ∧ !s.front.vdrvFallback ∧
        (s.scan.phase = .waitCheck ∨ s.scan.phase = .waitPump) then
      let (f, s) := s.draw
      startStep (tally 0x402 (d48 [(16, f)]) { s with front := { s.front with vdrvFallback := true } })
    else s

/-- A member whose full line check is done reports ready (18 R505). -/
def reportReady (s : State) : State :=
  if s.casc.role = .member then
    sendMsg 0x0A 0 (.report
      { metrics := s.scan.metrics.map fun m => m.getD 0xFFFF, headNum := 0, headDen := 1, sat := false, levels := s.levels
        noiseMax := 0, peaks := [], pieces := [], keys := [], more := false, water := false, ready := true, imageBad := false }) s
  else s

/-- FULL_LINE_CHECK_COMPLETE (03 R86): once at boot, before the first mutual pass. -/
def execFullLineCheckComplete (tk : Tick) (tests : List LineTest) (s : State) : Host.Outcome State Fault Refusal :=
  runAt tk s fun s =>
    if s.front.lineChecked ∨ s.boot.phase ≠ .done ∨ s.link.mode = 2 ∨ !s.pwr.pd1 then s
    else if s.scan.phase = .waitCheck then startStep (reportReady (fullCheck tests s))
    else reportReady (fullCheck tests s)

/-! ## Stopping (04 R122) -/

/-- Ticks from the frame start to the first chip boundary at or after an offset, none in the gap. -/
def chipBoundary (s : State) (off : Nat) : Option Nat :=
  if off < s.selfTicks then some (128 * ceilDiv off 128)
  else match (List.range s.prof.passes).find? fun i => decide (off < s.passEnded i) with
  | some i => some (s.passBegan i + s.passK i * ceilDiv (off - s.passBegan i) (s.passK i))
  | none => none

/-- The instant at which mode 1 parks the drive lines now, none when it acts as mode 0. -/
def parkAt (s : State) : Option Time :=
  if (s.scan.phase = .frames ∨ s.scan.phase = .stopping) ∧ s.scan.stage = .started then
    (chipBoundary s (since s.now s.scan.frameT)).map (tAdd s.scan.frameT)
  else none

/-- The parking: the frame is discarded and writes nothing; Tally records SCAN_STOP's, not RESET's; then the
reply (04 R122, R123; 12 R370). -/
def park (s : State) : State :=
  let s := match s.bench.owed with
    | some r => if r.opcode = 0x11 then tallyBy 1 0x104 (d48 [(32, s.scan.frameCount.toNat)]) s else s
    | none => s
  payOwed (endScan { s with bench := { s.bench with parkDue := none } })

/-- SCAN_STOP_PARK (04 R122). -/
def execScanStopPark (tk : Tick) (s : State) : Host.Outcome State Fault Refusal :=
  runAt tk s fun s =>
    match s.bench.parkDue with
    | some t => if reached s.now t then park s else s
    | none => s

end Sys2Proof.Machine
end

