-- ==== Sys2Proof/Machine/Plane.lean ====
section
/-! DEFINITION. Chapter 05 and node memory (17 R490, R491): the pass combine, the temporal response, detector
slots, the stamps of a frame, and errors of node memory. -/

namespace Sys2Proof.Machine

/-! ## Stamps (02 R45) -/

/-- The midpoint of the frame's mutual passes, floored to a tick. -/
def State.midPasses (s : State) : Time := tAdd s.scan.frameT ((s.selfTicks + s.gapStart) / 2)

/-- Group delay of the temporal response in frames (05 Table 5.2). -/
def tempDelay (temporal : Nat) : Nat := if temporal = 1 then 1 else if temporal = 2 then 3 else 0

/-- The contact stamp of the frame (02 R45). -/
def State.frameStamp (s : State) : Time :=
  s.midPasses - BitVec.ofNat 56 (tempDelay s.prof.temporal * s.scan.frameTicks)

/-- Settling of the temporal response in frames (05 Table 5.2). -/
def tempSettle (temporal : Nat) : Nat := if temporal = 1 then 3 else if temporal = 2 then 6 else 0

/-- Warm-up frames (05 R146). -/
def warmFrames (temporal : Nat) : Nat := if temporal = 2 then 5 else 2

/-- Does the frame in progress carry WARMING (05 R146)? -/
def State.warming (s : State) : Bool := decide (s.plane.since < warmFrames s.prof.temporal)

/-- Is the frame one of the two that report no contact (05 R146, 07 R205)? -/
def State.noContacts (s : State) : Bool := decide (s.plane.since < 2)

/-! ## Pass combine (05 R134, R135; 03 R77) -/

/-- The nearest element of an index that satisfies a test, the lower index on a tie. -/
def nearestIndex (ok : Nat → Bool) (n i : Nat) : Option Nat :=
  let dist := fun (j : Nat) => if j ≤ i then i - j else j - i
  bestBy (fun a b => decide (dist a < dist b) || (dist a == dist b && decide (a < b))) ((List.range n).filter ok)

/-- The listen variance that a column uses in a pass (05 R135). -/
def columnVar (p : PassData) (x : Nat) : Nat :=
  match p.v.getD x none with
  | some v => v
  | none =>
    match nearestIndex (fun j => (p.v.getD j none).isSome) p.v.length x with
    | some j => (p.v.getD j none).getD 0
    | none => 0

/-- The combined value of one node from its passes as (weight, value); none when Q = 0 (05 R134). -/
def combineNode (ws : List (Nat × Int)) : Option Int :=
  let q := sumNat (ws.map (·.1))
  if q = 0 then none
  else some (Int.fdiv (sumInt (ws.map fun e => (e.1 : Int) * e.2) + (q / 2 : Nat)) (q : Int))

/-- What the combine finds at a node. -/
inductive Comb where
  | value (c : Int) (interp : Bool)
  /-- every pass saturated (03 R77) -/
  | saturated
  /-- no pass has a value (03 R88, last step) -/
  | hold
  deriving DecidableEq, Repr

/-- The combine of node (x, y). -/
def combAt (ps : List PassData) (x y : Nat) : Comb :=
  let vals := ps.filterMap fun p => ((p.value.getD x []).getD y none).map fun d => (p, d)
  let interp := ps.any fun p => (p.interp.getD x []).getD y false
  if vals.isEmpty then .hold
  else
    match combineNode (vals.map fun e =>
      (if e.1.sat.getD x false then 0 else 2 ^ 24 / max (columnVar e.1 x) 1, e.2)) with
    | some c => .value c interp
    | none => .saturated

/-- Nodes of saturated columns are interpolated along the sense axis as those of an excluded line, from the nearest
usable columns; `ok` names the columns that are not excluded (03 R77, R88). DESIGN CHOICE (log 95): such a node is filled
from its neighbours' combined values, after the combine. -/
def fillSaturated (ok : Nat → Bool) (g : Grid Comb) (x y : Nat) : Comb :=
  match (g.getD x []).getD y .hold with
  | .saturated =>
    let row : List (Option Int) := (List.range g.length).map fun i =>
      match (g.getD i []).getD y .hold with | .value v _ => if ok i then some v else none | _ => none
    match interpAt roundAway row x with
    | some v => .value v true
    | none => .hold
  | c => c

/-- The combined values of a frame. -/
def combineFrame (ok : Nat → Bool) (ps : List PassData) (cols rows : Nat) : Grid Comb :=
  let g : Grid Comb := (List.range cols).map fun x => (List.range rows).map fun y => combAt ps x y
  (List.range cols).map fun x => (List.range rows).map fun y => fillSaturated ok g x y

/-! ## Temporal response (05 R136 to R138) -/

/-- One node: new state, frames still to settle, and the combined word. `seed` starts the state afresh with the
whole grid; `mark` is the node's count of Table 5.5. -/
def temporalNode (temporal since : Nat) (seed : Bool) (y : Int) (mark : Nat) (c : Int) (interp : Bool) :
    Int × Nat × CNode :=
  let fresh := seed || mark == 255
  let a := if temporal = 2 then 2 else 1
  let y' := if fresh then 256 * c else y + asr (256 * c - y) a
  let settle := tempSettle temporal
  let warm := decide (since + 1 < settle) || (mark == 255 && decide (1 < settle)) || (mark != 255 && decide (0 < mark))
  let mark' := if mark = 255 then settle - 2 else mark - 1
  let out := if temporal = 0 then c else asr (y' + 128) 8
  (y', mark', ⟨clampInt (-(2 ^ 23 : Nat)) ((2 ^ 23 : Nat) - 1) out, interp, warm, false⟩)

/-- Rows of the node grids: own rows and the neighbours' border rows. -/
def State.gridRows (s : State) : Nat := s.topRows + s.front.driveCount + s.botRows

/-- Baseline of a node in whole counts, which a node without any value takes (03 R88). -/
def State.heldCount (s : State) (x y : Nat) : Int :=
  match (s.base.nodes.getD x [])[y]? with
  | some n => roundAway n.b 256
  | none => 0

/-- The touch path of a frame up to the combined node words (05 R134 to R138). DESIGN CHOICE (log 78): a node that 03 R88
leaves without a value keeps its state y and its mark; where the frame is the first of a restart its state is seeded by its
next value (R136). -/
def touchPath (s : State) : State :=
  let cols := s.front.senseCount
  let rows := s.gridRows
  let g := combineFrame s.colOk s.scan.passes cols rows
  let seed := s.plane.y.isEmpty
  let step := fun (x y : Nat) =>
    let oldY := (s.plane.y.getD x []).getD y 0
    let mark := if s.plane.reseedAll then 255 else (s.plane.warm.getD x []).getD y 0
    match (g.getD x []).getD y .hold with
    | .value c i => temporalNode s.prof.temporal s.plane.since seed oldY mark c i
    | _ =>
      let mark := if seed then 255 else mark
      let settle := tempSettle s.prof.temporal
      let warm := decide (s.plane.since + 1 < settle) || (if mark = 255 then decide (1 < settle) else decide (0 < mark))
      (oldY, mark, CNode.mk (s.heldCount x y) true warm true)
  let r := (List.range cols).map fun x => (List.range rows).map fun y => step x y
  { s with plane := { s.plane with
      y := r.map fun c => c.map (·.1)
      warm := r.map fun c => c.map (·.2.1)
      combined := r.map fun c => c.map (·.2.2)
      reseedAll := false } }

/-! ## Detectors (05 R148 to R155) -/

/-- detector_n in force (05 R149). -/
def State.detParam (s : State) (n : Nat) : List Byte := s.plane.detCfg.getD n (paramDefault s.part (0x680 + n))

/-- Shifts of an envelope pair (05 Table 5.8). -/
def envShifts (p : Nat) : Nat × Nat :=
  match p with
  | 0 => (0, 4) | 1 => (1, 6) | 2 => (2, 8) | 3 => (3, 10) | 4 => (4, 12) | 5 => (0, 8) | 6 => (0, 12) | _ => (2, 16)

/-- A slot reset; the thresholds and the gain stay (05 R154). -/
def Det.reset (d : Det) : Det := { Det.fresh with high := d.high, low := d.low, gain := d.gain }

/-- A slot after a change of detector_n: its thresholds are those of the parameter (05 R149). -/
def Det.load (v : List Byte) (gain : Nat) : Det :=
  { Det.fresh with high := signed 32 (fieldAt v 4 4), low := signed 32 (fieldAt v 8 4), gain := gain }

/-- One input (05 R151). -/
def detInput (v : List Byte) (x : Int) (d : Det) : Det :=
  let w := byteAt v 1
  let (a, dec) := envShifts (byteAt v 2)
  let up := decide ((d.env : Int) < x.natAbs)
  let env := (d.env : Int) + asr ((x.natAbs : Int) - d.env) (if up then a else dec)
  let sum := d.sum + x.natAbs ^ 2
  let full := d.count + 1 == 2 ^ w
  { d with
    max := if d.max < x then x else d.max
    min := if x < d.min then x else d.min
    peakValid := true
    sum := if full then 0 else sum
    count := if full then 0 else d.count + 1
    rms := if full then isqrt (sum / 2 ^ w) else d.rms
    rmsValid := d.rmsValid || full
    env := env.toNat }

/-- The trip condition (05 Table 5.7). -/
def detTrips (v : List Byte) (d : Det) : Bool :=
  let hi := decide (d.high ≤ d.max)
  let lo := decide (d.min < d.low)
  match byteAt v 3 with
  | 1 => hi
  | 2 => lo
  | 3 => hi || lo
  | 4 => decide (d.high ≤ (d.rms : Int))
  | 5 => decide (d.high ≤ (d.env : Int))
  | _ => false

/-- One input of slot `n` with its stamp: update, trip test, then the peak reset of a block end
(05 R151, R153, R154). -/
def detUpdate (n : Nat) (x : Int) (stamp : Time) (s : State) : State :=
  let v := s.detParam n
  let d0 := s.plane.dets.getD n .fresh
  let d := detInput v x d0
  let trip := detTrips v d && !d.tripped
  let d := if trip then { d with tripped := true, tripTime := stamp } else d
  let d := if byteAt v 12 = 1 ∧ d.count = 0 then
      { d with max := -2147483648, min := 2147483647, peakValid := false } else d
  let s := { s with plane := { s.plane with dets := s.plane.dets.set n d } }
  if trip then raise 10 s else s

/-- Slots that watch a source byte. -/
def slotsOn (s : State) (source : Nat) : List Nat :=
  if s.part.hasLevel then (List.range 8).filter fun n => byteAt (s.detParam n) 0 == source else []

/-- A slot rescaled to the gain `new` as its power of two (05 R152). DESIGN CHOICE (log 78): while PEAK_VALID is 0, max and
min keep their reset values. -/
def Det.rescale (new : Nat) (d : Det) : Det :=
  let lim := fun (v : Int) => clampInt (-2147483648) 2147483647 v
  let old := d.gain
  let sc := fun (v : Int) => if old ≤ new then v * (2 ^ (new - old) : Nat) else asr v (old - new)
  if old = new then d
  else { d with
    max := if d.peakValid then sc d.max else d.max
    min := if d.peakValid then sc d.min else d.min
    rms := (sc d.rms).toNat
    env := (sc d.env).toNat
    high := lim (sc d.high)
    low := lim (sc d.low)
    sum := (sc (sc d.sum)).toNat
    rescaled := true
    gain := new }

/-- Change the slots that watch a channel. -/
def onChannel (channel : Nat) (f : Det → Det) (s : State) : State :=
  { s with plane := { s.plane with dets := (slotsOn s channel).foldl (fun ds n => modAt ds n f) s.plane.dets } }

/-- One thing that reached the slots. -/
def detOp (s : State) (o : DetOp) : State :=
  match o with
  | .input n x stamp => detUpdate n x stamp s
  | .rescale ch g => onChannel ch (Det.rescale g) s
  | .gain ch g => onChannel ch (fun d => { d with gain := g }) s

/-- The present gain of a slot's source (05 Table 5.9): the running conversion's, else the entry's; 0 for another source. -/
def sourceGain (s : State) (v : List Byte) : Nat :=
  let ch := byteAt v 0
  let entry := byteAt (s.param (0x600 + ch)) 1
  if 128 ≤ ch then 0
  else match s.lvl.running with
  | some r => if r.req.slot = ch then r.gain else entry
  | none => entry

/-- Slot `n` takes its parameter and is reset (05 R149, R154). -/
def detLoad (s : State) (n : Nat) : State :=
  let v := s.param (0x680 + n)
  let cfg := (List.range 8).map s.detParam
  { s with plane := { s.plane with detCfg := cfg.set n v, dets := s.plane.dets.set n (Det.load v (sourceGain s v)) } }

/-- The detector slots reach the present round: the changes that act at a round boundary that has passed do so, before what
the round brings (05 R149, R154), and the slots as they stand at it are kept (R155). -/
def detTurn (s : State) : State :=
  if s.plane.detT.toNat / 32 = s.now.toNat / 32 then s
  else
    let t := s.plane.detNew.foldl detLoad { s with plane := { s.plane with detIn := [], detNew := [], detT := s.now } }
    { t with plane := { t.plane with detAt := t.plane.dets } }

/-- Something reaches the slots in the present round: service 4 follows in that round (05 R128, R153). -/
def detPush (o : DetOp) (s : State) : State :=
  let s := detTurn s
  detOp { s with plane := { s.plane with detIn := s.plane.detIn ++ [o] } } o

/-- The state whose slots stand as at the latest round boundary (05 R155). -/
def detBoundary (s : State) : State := { s with plane := { s.plane with dets := s.plane.detAt } }

/-- Some slots are changed at the latest round boundary; what the round has brought comes after it (05 R154). A slot whose TRIPPED
the change clears can trip on it anew. -/
def detAmend (slots : List Nat) (f : Det → Det) (s : State) : State :=
  let b := slots.foldl (fun ds n => modAt ds n f) s.plane.detAt
  let t := s.plane.detIn.foldl detOp { s with plane := { s.plane with dets := b } }
  let now := fun (n : Nat) => (t.plane.dets.getD n .fresh).tripped && !(b.getD n .fresh).tripped
  let again := slots.any fun n => now n && (s.plane.detAt.getD n .fresh).tripped
  let s := { s with plane := { s.plane with dets := t.plane.dets, detAt := b } }
  if again then raise 10 s else s

/-- A settled fine Level output of a channel (05 R150). -/
def detLevel (channel : Nat) (code : Int) (stamp : Time) (s : State) : State :=
  (slotsOn (detTurn s) channel).foldl (fun s n => detPush (.input n code stamp) s) (detTurn s)

/-- The noise-listen inputs of a frame, in ascending sense line (05 R131, R150). -/
def detListen (s : State) : State :=
  (List.range s.front.senseCount).foldl (fun s p =>
    let x := s.logicalOf (0x8000 + p)
    let vs := s.scan.passes.filterMap fun q => q.v.getD x none
    if !s.colOk x || vs.isEmpty then s
    else (slotsOn s (128 + p)).foldl (fun s n => detPush (.input n (rootMean vs 1 1 : Nat) s.midPasses) s) s) (detTurn s)

/-- The 24 bytes of slot `n` (05 Table 5.9). DESIGN CHOICE (log 78): the gain byte of a disabled slot, whose source is
neither kind that the table names, is 0xFF. -/
def detBytes (s : State) (n : Nat) : List Byte :=
  let d := s.plane.dets.getD n .fresh
  let src := byteAt (s.detParam n) 0
  leBytes 1 n ++
    leBytes 1 (bitOf d.tripped 0 + bitOf d.peakValid 1 + bitOf d.rmsValid 2 + bitOf d.rescaled 3) ++
    leBytes 1 (if 128 ≤ src then 0xFF else d.gain) ++ [0] ++ leSigned 4 d.max ++ leSigned 4 d.min ++
    leBytes 4 d.rms ++ leBytes 4 d.env ++ leBytes 4 (if d.tripped then (s.stampOf d.tripTime).toNat else 0)

/-! ## Node memory errors (17 R490, R491) -/

/-- One corrected word. -/
def countCorrected (s : State) : State :=
  { s with tel := { s.tel with eccCorrected := satAt 0xFFFFFFFF (s.tel.eccCorrected + 1) } }

/-- An item of a ring is discarded and the tail moves past it. -/
def Ring.discard (r : Ring) (size i : Nat) : Ring :=
  match r.items[i]? with
  | some it => { r with items := r.items.eraseIdx i, tail := (r.tail + it.bytes.length) % (2 * size) }
  | none => r

/-- The record or entry that holds a lost word of the rings: which one is open (log 2). -/
def loseRingItem (s : State) : State :=
  let (f, s) := s.draw
  let (g, s) := s.draw
  match f % 3 with
  | 0 => { s with report := s.report.discard s.reportSize (g % s.report.items.length) }
  | 1 => { s with image := s.image.discard s.imageSize (g % s.image.items.length) }
  | _ => { s with record := s.record.discard s.recordSize (g % s.record.items.length) }

/-- The frame in progress is dropped (17 R491). -/
def dropFrame (s : State) : State :=
  if s.scan.stage = .none ∨ s.scan.stage = .written then s
  else { s with scan := { s.scan with dropped := true } }

/-- The nodes of a lost region of temporal state are re-seeded from their next value (05 Table 5.5). -/
def reseedRegion (region : Nat) (s : State) : State :=
  let rows := s.gridRows
  { s with plane := { s.plane with
      warm := (List.range s.plane.warm.length).map fun x => (List.range rows).map fun y =>
        if Config.regionNode region (x * rows + y) then 255 else (s.plane.warm.getD x []).getD y 0 } }

/-- One error met by a read (17 R491, Table 17.2). -/
def eccError (e : EccErr) (s : State) : State :=
  if !e.fatal then countCorrected (tally 0xB01 (d48 [(16, e.region)]) s)
  else
    let kind := e.region / 4096 % 16
    let count := if kind = 4 then 0xFFFFFFFF else s.scan.frameCount.toNat
    let s := tally 0xB02 (d48 [(16, e.region), (32, count)]) (raise 16 s)
    match kind with
    | 1 => reseedRegion e.region (dropFrame s)
    | 2 => dropFrame { s with base := { s.base with rebuildDue := s.base.rebuildDue + 1 } }
    | 3 => countCorrected s
    | 4 => loseRingItem s
    | 5 => countCorrected s
    | 6 => { s with mem := { s.mem with refsHeld := [none, none, none, none] } }
    | _ => dropFrame s

/-- Every error of a task; two errors of one frame and region record one event. -/
def eccErrors (es : List EccErr) (s : State) : State := es.eraseDups.foldl (fun s e => eccError e s) s

end Sys2Proof.Machine
end

