-- ==== Sys2Proof/Machine/Baseline.lean ====
section
/-! DEFINITION. Chapter 06: node and self deltas, baseline states, acquisition, reference images, tracking
blocks, scars, water, temperature and condensation, noise. Grids hold the tile's own rows with the neighbours'
border rows above and below; `j` is a row of the grid. -/

namespace Sys2Proof.Machine

/-! ## Nodes and regions -/

/-- Nodes by (column, row). -/
abbrev Node := Int × Int

/-- 8-adjacency. -/
def adj8 (a b : Node) : Bool :=
  a != b && decide ((a.1 - b.1).natAbs ≤ 1) && decide ((a.2 - b.2).natAbs ≤ 1)

/-- Chebyshev distance. -/
def cheb (a b : Node) : Nat := max (a.1 - b.1).natAbs (a.2 - b.2).natAbs

/-- Grow a region by its neighbours among the rest, at most `n` times. -/
def growRegion : Nat → List Node → List Node → List Node × List Node
  | 0, c, r => (c, r)
  | n + 1, c, r =>
    let p := r.partition fun q => c.any (adj8 q)
    if p.1.isEmpty then (c, r) else growRegion n (c ++ p.1) p.2

/-- The 8-connected regions of a list of nodes. -/
def regionsGo : Nat → List Node → List (List Node)
  | 0, _ => []
  | _ + 1, [] => []
  | n + 1, p :: r =>
    let g := growRegion r.length [p] r
    g.1 :: regionsGo n g.2

def regions (ns : List Node) : List (List Node) := regionsGo ns.length ns

/-- Bounding box: least and largest column, least and largest row. -/
def bbox (ns : List Node) : Int × Int × Int × Int :=
  match ns with
  | [] => (0, 0, 0, 0)
  | p :: r => r.foldl (fun b q => (min b.1 q.1, max b.2.1 q.1, min b.2.2.1 q.2, max b.2.2.2 q.2)) (p.1, p.1, p.2, p.2)

/-- The value of a grid at a node, with a default outside. -/
def gridAt {α : Type} (d : α) (g : Grid α) (p : Node) : α :=
  if p.1 < 0 ∨ p.2 < 0 then d else (g.getD p.1.toNat []).getD p.2.toNat d

/-- Change the listed nodes of a grid. -/
def gridMod {α : Type} (g : Grid α) (ns : List Node) (f : Node → α → α) : Grid α :=
  ns.foldl (fun g p => if p.1 < 0 ∨ p.2 < 0 then g else modAt g p.1.toNat fun c => modAt c p.2.toNat (f p)) g

/-- A grid of this tile's dimensions from a value at each node. -/
def State.gridOf {α : Type} (s : State) (f : Node → α) : Grid α :=
  (List.range s.front.senseCount).map fun (x : Nat) => (List.range s.gridRows).map fun (j : Nat) => f (x, j)

/-- Every node of the grid, column by column. -/
def State.allNodes (s : State) : List Node := (s.gridOf id).flatten

/-- Is a row of the grid one of the tile's own? -/
def State.ownRow (s : State) (j : Int) : Bool :=
  decide ((s.topRows : Int) ≤ j) && decide (j < (s.topRows + s.front.driveCount : Nat))

/-- Global column and row of a grid node, and back (09 R259). -/
def State.toGlobal (s : State) (p : Node) : Node :=
  (p.1 + (s.origin.1 : Nat), p.2 - (s.topRows : Nat) + (s.origin.2 : Nat))
def State.toLocal (s : State) (p : Node) : Node :=
  (p.1 - (s.origin.1 : Nat), p.2 + (s.topRows : Nat) - (s.origin.2 : Nat))

def State.bnode (s : State) (p : Node) : BNode := gridAt BNode.blank s.base.nodes p
def State.cnode (s : State) (p : Node) : CNode := gridAt ⟨0, false, false, true⟩ s.plane.combined p
def State.delta (s : State) (p : Node) : Int := gridAt 0 s.base.delta p
def State.water (s : State) (p : Node) : Bool := gridAt false s.base.water p

/-! ## Noise (06 R173, R179, R180) -/

/-- n_s of a column from its variances, in 1/16 count (06 R179). -/
def columnNoise (vs : List Nat) : Nat :=
  let ws := vs.map fun v => max v 1
  let prod := ws.foldl (· * ·) 1
  sqrt16 prod (sumNat (ws.map fun v => prod / v))

/-- The seeding threshold of a column in 1/64 count (06 R173, R180). -/
def State.theta64 (s : State) (x : Nat) : Nat :=
  let m := max (16 * s.fnat 0x300) (s.bnat 0x218 * s.base.noise.getD x 0)
  if s.base.unchecked then 5 * m else 4 * m

/-- Is θ_s of a column above θ? -/
def State.loudColumn (s : State) (x : Nat) : Bool := decide (64 * s.fnat 0x300 < s.theta64 x)

/-- Does a whole-count delta reach θ_s of its column? -/
def State.seeds (s : State) (x : Nat) (d : Int) : Bool := decide ((s.theta64 x : Int) ≤ 64 * d)

/-! ## Rails (04 R117) -/

/-- V_ref and V_frame in mV. -/
def State.vRef (s : State) : Nat := s.rail (topLevel s s.prof)
def State.vFrame (s : State) : Nat := s.rail s.scan.level

/-! ## Deltas (06 R156, R157) -/

def clamp16 (v : Int) : Int := clampInt (-32768) 32767 v

/-- The node delta from a baseline and a combined value. -/
def nodeDelta (s : State) (b c : Int) : Int := clamp16 (roundAway ((b - 256 * c) * (s.vRef : Nat)) (256 * s.vFrame))

/-- The deltas of the frame. -/
def formDeltas (s : State) : Grid Int :=
  s.gridOf fun p =>
    if !s.base.inForce || (s.cnode p).hold then 0 else nodeDelta s (s.bnode p).b (s.cnode p).value

/-- Self deltas of one axis; none for a line out of service or at 0xFFFF (06 R157). -/
def selfDeltas (inForce : Bool) (vals : List SelfVal) (lines : List BLine) : List BLine :=
  (List.range lines.length).map fun i =>
    let l := lines.getD i .blank
    match vals[i]? with
    | some v =>
      { l with delta := if v.value = 0xFFFF ∨ v.interp then none
          else if inForce then some (clamp16 (roundAway (256 * (v.value : Int) - l.b) 256)) else some 0 }
    | none => { l with delta := none }

/-! ## Water (06 R172) -/

/-- Is a node confirmed, or is the test impossible? -/
def waterTest (s : State) (p : Node) : Bool :=
  let j := p.2 - (s.topRows : Nat)
  let conf : Int := (s.bnat 0x217 : Nat)
  if !s.ownRow p.2 || (s.bnode p).st == .held then false
  else
    match (s.base.drive.getD j.toNat .blank).delta, (s.base.sense.getD p.1.toNat .blank).delta with
    | some dd, some ds =>
      decide (s.bnat 0x202 ≤ (s.delta p).natAbs) && !(decide (conf ≤ dd) && decide (conf ≤ ds))
    | _, _ => false

/-- The WATER marks of a frame. -/
def formWater (s : State) : Grid Bool :=
  let on := s.bnat 0x216 == 1 && !s.base.unchecked && s.base.inForce
  s.gridOf fun p => on && waterTest s p

/-- Nodes that are film (06 R172): of a large WATER region, or WATER for 60 s. -/
def filmNodes (s : State) : List Node :=
  let wet := s.allNodes.filter s.water
  let need := ceilDiv (60 * 8388608) s.scan.frameTicks
  let big := (regions wet).filter fun r => decide (25 < r.length)
  wet.filter fun p => decide (need ≤ (s.bnode p).film) || big.any fun r => r.contains p

/-! ## Baseline states (06 R158, Table 6.1) -/

/-- Is the node one that freezes its neighbourhood (06 R158)? -/
def freezes (s : State) (p : Node) : Bool :=
  decide ((s.bnat 0x202 : Int) ≤ s.delta p) || (s.bnode p).st == .suspect || (s.bnode p).st == .held

/-- Grid positions of live contacts' footprints and of neighbours' nodes that freeze (06 R158; 09 R283). -/
def outsideFreeze (s : State) : List Node :=
  (if s.base.forcedNow then []
    else s.trk.contacts.flatMap fun (c : Contact) => c.foot.map fun f => s.toLocal (f.1, f.2.1)) ++
  (s.casc.seam.filter fun n =>
    !bitAt n.flags 4 && (decide ((s.bnat 0x202 : Int) ≤ n.delta) || bitAt n.flags 1)).map fun n =>
      s.toLocal (n.col, n.row)

/-- The freeze test of every FREE or FROZEN node. -/
def freezeTest (s : State) : State :=
  let r := s.bnat 0x204
  let hot := s.allNodes.filter (freezes s) ++ outsideFreeze s
  let near := fun (p : Node) => hot.any fun q => decide (cheb p q ≤ r)
  { s with base := { s.base with
      nodes := s.gridOf fun p =>
        let n := s.bnode p
        if n.st = .free ∨ n.st = .frozen then
          { n with st := if s.base.inForce && near p then .frozen else .free }
        else n } }

/-- The leaving tests of SUSPECT and HELD nodes; nodes that leave become due (06 Table 6.1). -/
def leaveTests (s : State) : State :=
  let hit := fun (p : Node) (n : BNode) =>
    match n.st with
    | .suspect => decide (s.delta p < (s.bnat 0x202 : Nat))
    | .held => !(s.cnode p).hold && decide ((s.fnat 0x300 : Int) ≤ (s.cnode p).value - n.h)
    | _ => false
  let marked : List Node := s.allNodes.filter fun p => (s.bnode p).st == .suspect || (s.bnode p).st == .held
  let nodes : Grid BNode := gridMod s.base.nodes marked fun p (n : BNode) => { n with leave := if hit p n then n.leave + 1 else 0 }
  let s : State := { s with base := { s.base with nodes := nodes } }
  let due := (marked.filter fun (p : Node) => decide ((s.bnode p).leave > 1)).map fun p =>
    p.1.toNat * s.gridRows + p.2.toNat
  { s with base := { s.base with releaseDue := due } }

/-- Node of an index, columns first. -/
def State.nodeOf (s : State) (i : Nat) : Node := ((i / s.gridRows : Nat), (i % s.gridRows : Nat))

/-- A node leaves SUSPECT or HELD (06 Table 6.1). -/
def releaseNode (i : Nat) (s : State) : State :=
  if s.base.releaseDue.contains i then
    let p := s.nodeOf i
    let c := (s.cnode p).value
    { s with base := { s.base with
        releaseDue := s.base.releaseDue.erase i
        nodes := gridMod s.base.nodes [p] fun _ (n : BNode) =>
          { n with st := .free, leave := 0, b := if n.st = .held then 256 * c else n.b } } }
  else s

/-- Every release that is due, then the freeze test on what results. -/
def flushReleases (s : State) : State :=
  if s.base.releaseDue.isEmpty then s
  else freezeTest (s.base.releaseDue.foldl (fun s i => releaseNode i s) s)

/-- NODE_STATE_RELEASE (06 R158, Table 6.1). -/
def execNodeStateRelease (tk : Tick) (node : Nat) (s : State) : Host.Outcome State Fault Refusal :=
  runAt tk s fun s => if s.base.releaseDue.contains node then freezeTest (releaseNode node s) else s

/-! ## Temperature (06 R174 to R178) -/

/-- f(t) of 06 R177 in binary32. -/
def tempFactor (c1 c2 t : Int) : Nat :=
  let u := f32Sub (f32Div (f32OfInt t) (f32OfInt 256)) (f32OfInt 25)
  let k1 := f32Mul (f32OfInt c1) (f32OfRat 1 1000000)
  let k2 := f32Mul (f32OfInt c2) (f32OfRat 1 100000000)
  f32Add (f32OfInt 1) (f32Mul u (f32Add k1 (f32Mul u k2)))

/-- f(t) / f(t0). -/
def State.tempRatio (s : State) (t t0 : Int) : Nat :=
  f32Div (tempFactor (s.bint 16 0x212) (s.bint 16 0x213) t) (tempFactor (s.bint 16 0x212) (s.bint 16 0x213) t0)

/-- The product with a binary32 value, exact and rounded with halves away from zero. -/
def scaleBy (r : Nat) (v : Int) : Int := roundAway (v * f32Int r) (2 ^ 149)

/-- The temperature factor from `t0`: every node baseline is multiplied (06 R177). -/
def applyFactor (t0 : Int) (s : State) : State :=
  let r := s.tempRatio s.base.tComp t0
  { s with base := { s.base with
      nodes := s.base.nodes.map fun c => c.map fun (n : BNode) => { n with b := scaleBy r n.b }
      tApplied := s.base.tComp } }

/-- The fixed point of the dew-point formula. -/
def dewOne : Int := 2 ^ 128

/-- The terms of artanh z from the one of exponent 2i + 1, in fixed point. -/
def artanhGo (z2 : Int) : Nat → Nat → Int → Int
  | 0, _, _ => 0
  | n + 1, i, t => t / (2 * i + 1 : Nat) + artanhGo z2 n (i + 1) (t * z2 / dewOne)

/-- 2 artanh of a fraction of at most 1/3, in fixed point. -/
def twoArtanh (num den : Nat) : Int :=
  let z := dewOne * num / den
  2 * artanhGo (z * z / dewOne) 48 0 z

/-- ln n for n from 1, in fixed point. -/
def lnFix (n : Nat) : Int := n.log2 * twoArtanh 1 3 + twoArtanh (n - 2 ^ n.log2) (n + 2 ^ n.log2)

/-- 17.62 t / (243.12 + t) at t in 1/256 degree, in fixed point (06 R178). -/
def magnus (t : Int) : Int := dewOne * (1762 * t) / (24312 * 256 + 100 * t)

/-- γ of 06 R178 from t_comp in 1/256 degree and a humidity from 1 in 1/256 %RH, in fixed point. -/
def dewGamma (t : Int) (h : Nat) : Int := lnFix h - lnFix 25600 + magnus t

/-- The dew point in 1/256 degree (06 R178): a whole step at 100 %RH, else the step below or the one above the value. The
128 fraction bits of the fixed point tell every pair of arguments from the next step (log 78). -/
def dewPoint (t : Int) (h : Nat) : Int :=
  if h = 0 then Config.dewDry t
  else if h = 25600 then t
  else
    let g := dewGamma t h
    Int.fdiv (256 * 24312 * g) (1762 * dewOne - 100 * g) + (if Config.dewUp t h then 1 else 0)

/-- Is t_comp less than `m` in 1/256 degree above the dew point (06 R178)? The formula rises with γ, so the dew point stands
above t_comp − m where γ stands above the value that gives it. -/
def dewBelow (t : Int) (h : Nat) (m : Int) : Bool :=
  let x := t - m
  if h = 0 then decide (x < Config.dewDry t)
  else if h = 25600 then decide (0 < m)
  else decide (24312 * 256 + 100 * x ≤ 0) || decide (magnus x < dewGamma t h)

/-- The condensation test after a change (06 R178). -/
def condTest (s : State) : State :=
  let m : Int := 64 * (s.bnat 0x214 : Nat)
  let dew := s.base.humidity.map fun h => dewPoint s.base.tComp h
  let risk := match s.base.humidity with
    | some h => dewBelow s.base.tComp h (if s.base.condRisk then m + 256 else m)
    | none => false
  let s' := { s with base := { s.base with tDew := dew, condRisk := risk } }
  if risk = s.base.condRisk then s'
  else tally 0x208 (d48 [(8, bitOf risk 0), (8, 0),
    (16, match dew with | some d => unsigned 16 d | none => 0x8000), (16, unsigned 16 s.base.tComp)]) s'

/-- A reading of the compensation temperature from the source in use. -/
def takeTemp (v : Int) (s : State) : State :=
  let s := { s with base := { s.base with
    tComp := v
    tApplied := if s.base.rebase then v else s.base.tApplied
    rebase := false } }
  condTest s

/-- Is the die sensor's reading due, once every 32,768 beats (06 R175)? -/
def dieDue (s : State) : Bool :=
  match s.base.dieRead with | some t => reached s.now (tAdd t (32768 * 256)) | none => true

/-- A die reading (06 R175), in steps of 1/16 degree: a value between two steps reads as the lower one (DESIGN CHOICE, log
78). -/
def dieReading (v : Int) (s : State) : State :=
  let v := 16 * Int.fdiv v 16
  let s := { s with base := { s.base with tDie := v, dieRead := some s.now } }
  if s.base.sourceInUse = 0 then takeTemp v s else s

/-- A reading of a named temperature source; the first one after a fallback restores it (06 R174, R176). -/
def tempReading (source : Nat) (v : Int) (s : State) : State :=
  let s := if s.casc.role = .master ∧ (source = 2 ∨ source = 3) then
      { s with casc := { s.casc with envTemp := s.casc.envTemp.filter (·.1 != source) ++ [(source, v)] } } else s
  if source = 0 then dieReading v s
  else if s.base.tempSrc ≠ source then s
  else
    let s := { s with base := { s.base with tempLast := some s.now } }
    let s := if s.base.sourceInUse = source then s
      else { s with base := { s.base with sourceInUse := source, rebase := true } }
    let s := if s.base.tempFallback then
        tally 0x206 (d48 [(8, source)])
          (envRecord 3 source 0xFFFF 0xFFFF 0 { s with base := { s.base with tempFallback := false } })
      else s
    takeTemp v s

/-- A humidity reading. -/
def humidReading (source : Nat) (v : Int) (s : State) : State :=
  let s := if s.casc.role = .master ∧ (source = 2 ∨ source = 3) then
      { s with casc := { s.casc with envHumid := s.casc.envHumid.filter (·.1 != source) ++ [(source, v)] } } else s
  if source = 0 ∨ s.base.humidSrc ≠ source then s
  else condTest { s with base := { s.base with humidity := some v.toNat, humidLast := some s.now } }

/-- TEMP_READING (06 R174); the die sensor's comes in the gap in which it is due (R175). -/
def execTempReading (tk : Tick) (humid : Bool) (source : Nat) (value : Int) (s : State) :
    Host.Outcome State Fault Refusal :=
  runAt tk s fun s => if humid then humidReading source value s
    else if source = 0 ∧ !(dieDue s && s.scan.stage == .written) then s
    else tempReading source value s

/-- Is the window of a source over (06 R176)? -/
def staleDue (s : State) (last : Option Time) : Bool :=
  match last with
  | some t => reached s.now (tAdd t (8388608 * s.bnat 0x211))
  | none => false

/-- The die sensor's latest reading is the compensation temperature: t_applied takes it, or its first one when there is
none yet (06 R177). -/
def takeDie (s : State) : State :=
  if s.base.dieRead.isSome then
    condTest { s with base := { s.base with tComp := s.base.tDie, tApplied := s.base.tDie, rebase := false } }
  else { s with base := { s.base with rebase := true } }

/-- The temperature source is stale or has failed: the die sensor takes over (06 R176). -/
def tempFallback (s : State) : State :=
  if s.base.tempFallback ∨ s.base.tempSrc = 0 then s
  else
    let src := s.base.tempSrc
    let s := takeDie { s with base := { s.base with tempFallback := true, sourceInUse := 0 } }
    (tally 0x205 (d48 [(8, src)]) (envRecord 2 src 0xFFFF 0xFFFF 0 s))

/-- TEMP_SOURCE_STALE (06 R176). -/
def execTempSourceStale (tk : Tick) (humid : Bool) (s : State) : Host.Outcome State Fault Refusal :=
  runAt tk s fun s =>
    if humid then
      if s.base.humidSrc ≠ 0 ∧ staleDue s s.base.humidLast then
        condTest { s with base := { s.base with humidity := none, humidLast := none } }
      else s
    else if staleDue s s.base.tempLast then tempFallback s else s

/-- A change of temp_source or humid_source takes effect: the source's staleness counts from here, and its first
reading rebases t_applied (06 R174, R177, R188). -/
def takeTempSource (s : State) : State :=
  let src := s.pnat 0x20B
  let s := { s with base := { s.base with
    tempSrc := src, tempChan := s.pnat 0x20C, tempFallback := false, rebase := true, tempLast := some s.now, sourceInUse := src } }
  if src = 0 then takeDie s else s

def takeHumidSource (s : State) : State :=
  condTest { s with base := { s.base with humidSrc := s.pnat 0x20D, humidChan := s.pnat 0x20E, humidity := none, humidLast := some s.now } }

/-- Source changes take effect at a frame start (06 R188), another Level channel of source 1 among them. -/
def sourcesAtFrame (s : State) : State :=
  let same := fun (src chan id : Nat) => src == s.pnat id && (src != 1 || chan == s.pnat (id + 1))
  let s := if same s.base.tempSrc s.base.tempChan 0x20B then s else takeTempSource s
  if same s.base.humidSrc s.base.humidChan 0x20D then s else takeHumidSource s

/-! ## Reference images (06 R160, R161, R166) -/

/-- The bytes of a reference slot: as held in memory, else as in flash (06 R160). -/
def State.refBytes (s : State) (slot : Nat) : List Byte :=
  match s.mem.refsHeld.getD slot none with
  | some b => b
  | none => (s.mem.flash.refs.getD slot (0, [])).2

/-- Does the image's digest match (06 Table 6.2)? -/
def refDigestOk (img : List Byte) : Bool :=
  let n := 64 + fieldAt img 36 4
  img.take 4 == leBytes 4 0x52544C4B && decide (n + 32 ≤ img.length) && sha256 (img.take n) == slice img n 32

/-- Does the image fit this tile? -/
def refFits (s : State) (img : List Byte) : Bool :=
  byteAt img 5 == s.part.code && byteAt img 6 == s.tileNo && fieldAt img 8 2 == s.front.driveCount &&
    fieldAt img 10 2 == s.front.senseCount

/-- The temperature difference of 06 R161. -/
def refTempDiff (s : State) (img : List Byte) : Int :=
  if byteAt img 14 = s.base.sourceInUse then s.base.tComp - signed 16 (fieldAt img 18 2)
  else s.base.tDie - signed 16 (fieldAt img 20 2)

/-- Why a slot is not usable, 0 when it is (06 R160). -/
def refReason (s : State) (slot : Nat) : Nat :=
  let img := s.refBytes slot
  if s.base.refFault.contains slot then 5
  else if !refDigestOk img then 2
  else if !refFits s img then 3
  else if 1280 < (refTempDiff s img).natAbs then 4
  else 0

/-- The slot that ref_select gives, or the reason why there is none (06 R160). -/
def selectRef (s : State) (select : Nat) : Except Nat Nat :=
  if select = 0xFE then .error 1
  else
    let cand := if select < 4 then [select] else List.range 4
    let ok := cand.filter fun n => refReason s n == 0
    let diff := fun n => (refTempDiff s (s.refBytes n)).natAbs
    match bestBy (fun a b => decide (diff a < diff b) || (diff a == diff b && decide (a < b))) ok with
    | some n => .ok n
    | none => .error (maxNat (cand.map (refReason s)))

/-- Qref in units of 0.25 pC from its encoding. -/
def qrefUnits (e : Nat) : Nat := 2 ^ e

/-- A stored baseline of own node (x, y), in counts (06 R166). -/
def refValue (img : List Byte) (x y : Nat) : Nat :=
  fieldAt img (64 + 2 * (x * fieldAt img 8 2 + y)) 2 * 2 ^ byteAt img 7

/-- A node baseline from a reference (06 R161). -/
def refBaseline (s : State) (img : List Byte) (x y : Nat) : Int :=
  let r := s.tempRatio s.base.tComp (signed 16 (fieldAt img 18 2))
  let num : Int := 256 * (refValue img x y : Int) * (s.vFrame * qrefUnits (byteAt img 12) : Nat)
  roundAway (num * f32Int r) (fieldAt img 16 2 * qrefUnits (s.fnat 0xC0C) * 2 ^ 149)

/-- Baseline of a grid node from a reference; the neighbours' border rows are in no reference and take their
present value. -/
def refNode (s : State) (img : List Byte) (p : Node) : Int :=
  if s.ownRow p.2 then refBaseline s img p.1.toNat (p.2 - (s.topRows : Nat)).toNat else 256 * (s.cnode p).value

/-- scale_exp: the least shift at which every rounded baseline fits 16 bits (06 R166). -/
def scaleExp (bs : List Int) : Nat :=
  ((List.range 9).find? fun e => bs.all fun b => decide (roundAway b (2 ^ e) ≤ 65535)).getD 8

/-- The reference image of the baselines in force (06 Table 6.2). -/
def referenceImage (s : State) : List Byte :=
  let d := s.front.driveCount
  let n := s.front.senseCount
  let bs := (List.range n).flatMap fun (x : Nat) => (List.range d).map fun (y : Nat) =>
    roundAway (s.bnode ((x : Int), ((y + s.topRows : Nat) : Int))).b 256
  let e := scaleExp bs
  let self := fun (ls : List BLine) (k : Nat) =>
    (List.range k).flatMap fun i => leBytes 2 (clampInt 0 65535 (roundAway (ls.getD i .blank).b 256)).toNat
  let payload := bs.flatMap (fun b => leBytes 2 (clampInt 0 65535 (roundAway b (2 ^ e))).toNat) ++
    self s.base.drive d ++ self s.base.sense n
  let head := leBytes 4 0x52544C4B ++ [1] ++ leBytes 1 s.part.code ++ leBytes 1 s.tileNo ++ leBytes 1 e ++
    leBytes 2 d ++ leBytes 2 n ++ leBytes 1 (s.fnat 0xC0C) ++ leBytes 1 s.scan.level ++
    leBytes 1 s.base.sourceInUse ++ [0] ++ leBytes 2 s.vFrame ++ leSigned 2 s.base.tComp ++
    leSigned 2 s.base.tDie ++ leBytes 2 (s.base.humidity.getD 0xFFFF) ++ leBytes 8 s.now.toNat ++
    leBytes 4 s.scan.frameCount.toNat ++ leBytes 4 payload.length ++ List.replicate 24 0
  head ++ payload ++ sha256 (head ++ payload)

/-! ## The spatial fit (06 R163) -/

/-- A usable node of the fit: both lines in service, no INTERP mark. -/
def fitUsable (s : State) (p : Node) : Bool :=
  s.ownRow p.2 && decide (0 ≤ p.1) && decide (p.1 < (s.front.senseCount : Nat)) &&
    s.rowOk (p.2 - (s.topRows : Nat)).toNat && s.colOk p.1.toNat && !(s.cnode p).interp && !(s.cnode p).hold

/-- Offsets at Chebyshev distance exactly 4. -/
def ringFour : List Node :=
  ((List.range 9).flatMap fun (i : Nat) => (List.range 9).map fun (j : Nat) => ((i : Int) - 4, (j : Int) - 4)).filter fun p =>
    cheb p (0, 0) == 4

/-- ê of a node in 1/256 count; none with fewer than 8 usable nodes. -/
def spatialFit (s : State) (p : Node) : Option Int :=
  let ns := (ringFour.map fun d => (p.1 + d.1, p.2 + d.2)).filter (fitUsable s)
  if ns.length < 8 then none
  else some (roundAway (256 * sumInt (ns.map fun q => (s.cnode q).value)) ns.length)

/-- Nodes of an anomaly: ê − c ≥ θ_s. -/
def anomalous (s : State) (p : Node) : Bool :=
  match spatialFit s p with
  | some e => s.ownRow p.2 && !(s.cnode p).hold &&
      decide (256 * (s.theta64 p.1.toNat : Int) ≤ 64 * (e - 256 * (s.cnode p).value))
  | none => false

/-- A box enters the scar list, replacing the oldest of 16 (06 R171). -/
def addScar (box : Int × Int × Int × Int) (s : State) : State :=
  let sc : Scar := ⟨box.1, box.2.2.1, box.2.1, box.2.2.2, 0⟩
  { s with base := { s.base with scars := (s.base.scars ++ [sc]).drop (s.base.scars.length - 15) } }

/-- Centre of a box in 1/64 pitch, by global columns and rows (06 R187). -/
def boxCentre (s : State) (b : Int × Int × Int × Int) : Int × Int :=
  let lo := s.toGlobal (b.1, b.2.2.1)
  let hi := s.toGlobal (b.2.1, b.2.2.2)
  (32 * (lo.1 + hi.1) + 32, 32 * (lo.2 + hi.2) + 32)

/-- One anomaly: HELD when finger-sized, else a scar (06 R163). -/
def takeAnomaly (r : List Node) (s : State) : State :=
  let b := bbox r
  if r.length ≤ 25 ∧ b.2.1 - b.1 < 5 ∧ b.2.2.2 - b.2.2.1 < 5 then
    { s with base := { s.base with nodes := gridMod s.base.nodes r fun p (n : BNode) =>
        { n with st := .held, b := (spatialFit s p).getD n.b, h := (s.cnode p).value, leave := 0 } } }
  else
    let c := boxCentre s b
    tally 0x203 (d48 [(16, unsigned 16 c.1), (16, unsigned 16 c.2), (16, r.length)]) (addScar b s)

/-! ## Acquisition (06 R159 to R165) -/

/-- Baselines of every node by a rule, all FREE; with `held` a node held at its baseline, which has no value of its own, keeps
it. The runs of R172 go on: they are of the node's frames, whatever its baseline. -/
def seatNodes (held : Bool) (f : Node → Int) (s : State) : State :=
  let nodes := s.gridOf fun p =>
    let b := if held && (s.cnode p).hold then (s.bnode p).b else f p
    { BNode.blank with b := b, film := (s.bnode p).film }
  { s with base := { s.base with nodes := nodes } }

/-- Self baselines from given values, a line without one keeping its own. -/
def seatLines (drive sense : List (Option Int)) (s : State) : State :=
  let seat := fun (old : List BLine) (n : Nat) (vs : List (Option Int)) => (List.range n).map fun i =>
    { BLine.blank with b := match vs.getD i none with | some v => 256 * v | none => (old.getD i .blank).b }
  { s with base := { s.base with
      drive := seat s.base.drive s.front.driveCount drive
      sense := seat s.base.sense s.front.senseCount sense } }

/-- The self values of the frame as baselines (06 R163, R165). -/
def seatSelf (s : State) : State :=
  let vals := fun (l : List SelfVal) => l.map fun v => if v.value = 0xFFFF then none else some (v.value : Int)
  seatLines (vals s.front.selfDrive) (vals s.front.selfSense) s

/-- Phase 1 with a reference (06 R161, R162). -/
def phase1Ref (slot : Nat) (s : State) : State :=
  let img := s.refBytes slot
  let selfs := refSelf img
  let s := seatLines (selfs.1.map some) (selfs.2.map some) (seatNodes false (refNode s img) s)
  let s := { s with base := { s.base with inForce := true } }
  let sus := s.allNodes.filter fun p =>
    !(s.cnode p).hold && s.seeds p.1.toNat (nodeDelta s (s.bnode p).b (s.cnode p).value)
  { s with base := { s.base with
      nodes := gridMod s.base.nodes sus fun _ (n : BNode) => { n with st := .suspect, leave := 0 }
      refInUse := slot } }

/-- Phase 1 without a reference (06 R163). -/
def phase1Fit (s : State) : State :=
  let s := seatSelf (seatNodes true (fun p => 256 * (s.cnode p).value) s)
  let s := { s with base := { s.base with inForce := true, refInUse := 0xFE } }
  (regions (s.allNodes.filter (anomalous s))).foldl (fun s r => takeAnomaly r s) s

/-- Phase 2 begins (06 R164). -/
def startPhase2 (mode slot : Nat) (diff : Int) (s : State) : State :=
  discardBlock { s with base := { s.base with acq := .phase2 mode slot 0 diff, phase1 := true, ownPhase := [] } }

/-- Phase 1 (06 R159 to R163), or the forced one (R165). -/
def phase1 (forced : Bool) (s : State) : State :=
  if forced then
    let s := seatSelf (seatNodes true (fun p => 256 * (s.cnode p).value) s)
    startPhase2 2 0xFE 0 { s with base := { s.base with
      inForce := true, scars := [], rests := [], forcedNow := true, refInUse := 0xFE } }
  else
    let sel := s.fnat 0x206
    match selectRef s sel with
    | .ok slot =>
      let diff := refTempDiff s (s.refBytes slot)
      startPhase2 0 slot diff (phase1Ref slot s)
    | .error why =>
      startPhase2 1 0xFE 0 (phase1Fit (tally 0x202 (d48 [(8, sel), (8, why)]) s))

/-- Is phase 1 due in this frame, and is it the forced one? -/
def phase1Due (s : State) : Option Bool :=
  match s.base.acq with
  | .wait 0 f => some f
  | _ => none

/-! ## Clean frames and blocks (06 R164, R168, R181) -/

/-- Is the frame clean for nodes and lines at all? -/
def State.cleanFrame (s : State) : Bool := !s.scan.noiseAlarm && !s.warming

/-- block_frames (06 R168). -/
def blockFrames (s : State) : Nat :=
  max 1 ((2 * s.bnat 0x203 * 8388608 + 1000 * s.scan.frameTicks) / (2 * 1000 * s.scan.frameTicks))

/-- The place of a node in the grid, columns first. -/
def State.nodeIdx (s : State) (p : Node) : Nat := p.1.toNat * s.gridRows + p.2.toNat

/-- Is a node's rebuilt region in a phase 2 of its own (06 Table 6.4)? -/
def State.inOwnPhase (s : State) (p : Node) : Bool := s.base.ownPhase.any fun r => r.1.contains (s.nodeIdx p)

/-- A clean frame adds to block sums, or to phase-2 sums (06 R164, R168). -/
def collect (phase2 block : Bool) (s : State) : State :=
  if !s.cleanFrame then s
  else
    let node := fun (p : Node) (n : BNode) =>
      if (s.cnode p).hold || s.loudColumn p.1.toNat then n
      else
        let v := 256 * (s.cnode p).value
        let mine := s.inOwnPhase p
        let n := if block && !mine then { n with acc := n.acc + v, used := n.used + 1 } else n
        if phase2 || mine || (n.own && n.st == .free) then { n with p2 := n.p2 + v, p2n := n.p2n + 1 } else n
    let line := fun (ok : Bool) (v : Option SelfVal) (l : BLine) =>
      match v with
      | some w =>
        if !ok || !s.front.selfValid || w.value == 0xFFFF then l
        else
          let z : Int := 256 * (w.value : Int)
          let l := if block then { l with acc := l.acc + z, used := l.used + 1 } else l
          if phase2 then { l with p2 := l.p2 + z, p2n := l.p2n + 1 } else l
      | none => l
    let lines := fun (ls : List BLine) (vs : List SelfVal) (ok : Nat → Bool) =>
      (List.range ls.length).map fun i => line (ok i) vs[i]? (ls.getD i .blank)
    { s with base := { s.base with
        nodes := s.gridOf fun p => node p (s.bnode p)
        drive := lines s.base.drive s.front.selfDrive fun _ => true
        sense := lines s.base.sense s.front.selfSense fun x => !s.loudColumn x } }

/-- Nodes that collect on their own have collected enough (06 Table 6.4). -/
def finishOwn (s : State) : State :=
  { s with base := { s.base with nodes := s.base.nodes.map fun c => c.map fun (n : BNode) =>
      if n.own && n.st == .free && decide (s.bnat 0x205 ≤ n.p2n) then
        { n with b := roundAway n.p2 n.p2n, own := false, p2 := 0, p2n := 0 }
      else n } }

/-- A frame of the regions in a phase 2 of their own; it ends by the rule of the common one (06 R164, Table 6.4). -/
def finishRegions (s : State) : State :=
  let now := s.base.ownPhase.map fun r => (r.1, r.2 + 1)
  let whole := fun (r : List Nat × Nat) => decide (64 ≤ r.2) || r.1.all fun i =>
    let p := s.nodeOf i
    (s.bnode p).st != .free || (s.cnode p).hold || decide (s.bnat 0x205 ≤ (s.bnode p).p2n)
  let ended := (now.filter whole).flatMap fun r => r.1.map s.nodeOf
  { s with base := { s.base with
      ownPhase := now.filter fun r => !whole r
      nodes := gridMod s.base.nodes ended fun _ (n : BNode) =>
        { n with b := if n.st = .free ∧ 0 < n.p2n then roundAway n.p2 n.p2n else n.b, p2 := 0, p2n := 0 } } }

/-- Has phase 2 ended (06 R164)? -/
def phase2Done (s : State) : Bool :=
  match s.base.acq with
  | .phase2 _ _ frames _ =>
    decide (64 ≤ frames) || (decide (1 ≤ frames) && s.allNodes.all fun p => s.inOwnPhase p ||
      (s.bnode p).st != .free || (s.cnode p).hold || decide (s.bnat 0x205 ≤ (s.bnode p).p2n))
  | _ => false

/-- SUSPECT and HELD nodes. -/
def markedNodes (s : State) : Nat :=
  (s.allNodes.filter fun p => s.ownRow p.2 && ((s.bnode p).st == .suspect || (s.bnode p).st == .held)).length

/-- Lines that cross a node of a kind: own rows and columns. -/
def busyLines (s : State) (bad : BNode → Bool) : List Int × List Int :=
  let ns := s.allNodes.filter fun p => s.ownRow p.2 && bad (s.bnode p)
  (ns.map (·.2), ns.map (·.1))

/-- The end of phase 2 (06 R164). The nodes of a line that returned go on collecting until they have their own mean, those
that are not FREE from the time at which they are (Table 6.4). -/
def endPhase2 (s : State) : State :=
  match s.base.acq with
  | .phase2 mode slot _ diff =>
    let busy := busyLines s fun n => n.st != .free || n.p2n == 0
    let line := fun (b : Bool) (l : BLine) =>
      if b || l.p2n == 0 then { l with p2 := 0, p2n := 0 } else { l with b := roundAway l.p2 l.p2n, p2 := 0, p2n := 0 }
    let marked := markedNodes s
    let s := { s with base := { s.base with
      nodes := s.gridOf fun p =>
        let n := s.bnode p
        if s.inOwnPhase p then n
        else
          let more := n.own && (n.st != .free || decide (n.p2n < s.bnat 0x205))
          let n := if n.st = .free ∧ 0 < n.p2n then { n with b := roundAway n.p2 n.p2n } else n
          if more then (if n.st = .free then n else { n with p2 := 0, p2n := 0 }) else { n with p2 := 0, p2n := 0, own := false }
      drive := (List.range s.base.drive.length).map fun (i : Nat) =>
        line (busy.1.contains ((i + s.topRows : Nat) : Int)) (s.base.drive.getD i .blank)
      sense := (List.range s.base.sense.length).map fun (i : Nat) =>
        line (busy.2.contains (i : Int)) (s.base.sense.getD i .blank)
      acq := .idle } }
    let s := tally 0x201 (d48 [(8, mode), (8, slot), (16, marked), (16, unsigned 16 diff)]) s
    finishAll 0x18 stOk (leBytes 1 mode ++ leBytes 1 slot ++ leBytes 2 marked ++ leSigned 2 diff) (discardBlock s)
  | _ => s

/-- ACQUISITION_PHASE2_END (06 R164). -/
def execAcquisitionPhase2End (tk : Tick) (s : State) : Host.Outcome State Fault Refusal :=
  runAt tk s fun s => if phase2Done s ∧ s.scan.stage ≠ .started then endPhase2 s else s

/-- The increment of a node at a block end, none when it is skipped (06 R168). -/
def nodeInc (s : State) (film : List Node) (p : Node) : Option Int :=
  let n := s.bnode p
  let f := film.contains p
  if n.st ≠ .free ∨ (s.water p ∧ !f) ∨ 2 * n.used ≤ s.base.blockLen then none
  else
    let e := divZero n.acc n.used - n.b
    let sh := if e < 0 then s.bnat 0x200 else s.bnat 0x201
    let sh := if f || s.base.condRisk then min sh (s.bnat 0x215) else sh
    some (asr e sh)

/-- The drift of a node: the mean of the increments formed along its row and column within 8 nodes, of FREE nodes alone, a
neighbour's too (06 R168); across a seam the neighbours are the strip nodes, as the strip brings them (09 R283). -/
def drift (s : State) (incs : Node → Option Int) (p : Node) : Int :=
  let along := (List.range 17).flatMap fun (i : Nat) =>
    let d : Int := (i : Int) - 8
    if d = 0 then [] else [((p.1 + d, p.2) : Node), (p.1, p.2 + d)]
  let vs := along.filterMap fun q =>
    if decide (0 ≤ q.1) && decide (q.1 < ((s.front.senseCount : Nat) : Int)) && s.ownRow q.2 then incs q
    else (s.casc.seam.find? fun n => s.toLocal (n.col, n.row) == q).bind fun n =>
      if bitAt n.flags 1 || bitAt n.flags 2 || bitAt n.flags 4 then none else n.inc
  if vs.isEmpty then 0 else divZero (sumInt vs) vs.length

/-- Is the block of the frame full? -/
def blockDue (s : State) : Bool := decide (0 < s.base.blockLen) && decide (s.base.blockLen ≤ s.base.blockAt)

/-- The end of a tracking block (06 R168, R177). -/
def blockEnd (s : State) : State :=
  let s := flushReleases s
  let film := filmNodes s
  let incs := fun (p : Node) => nodeInc s film p
  let busy := busyLines s fun n => n.st != .free
  let line := fun (b : Bool) (l : BLine) =>
    match l.delta with
    | some d =>
      if b || decide (s.bnat 0x217 ≤ 2 * d.natAbs) || decide (2 * l.used ≤ s.base.blockLen) then l
      else
        let e := divZero l.acc l.used - l.b
        let sh := if e < 0 then s.bnat 0x200 else s.bnat 0x201
        { l with b := l.b + asr e (if s.base.condRisk then min sh (s.bnat 0x215) else sh) }
    | none => l
  let nodes := s.gridOf fun p =>
    let n := s.bnode p
    if n.st = .free then { n with b := n.b + (incs p).getD 0 } else { n with b := n.b + drift s incs p }
  let s := { s with base := { s.base with
    nodes := nodes
    drive := (List.range s.base.drive.length).map fun (i : Nat) =>
      line (busy.1.contains ((i + s.topRows : Nat) : Int)) (s.base.drive.getD i .blank)
    sense := (List.range s.base.sense.length).map fun (i : Nat) =>
      line (busy.2.contains (i : Int)) (s.base.sense.getD i .blank) } }
  discardBlock (applyFactor s.base.tApplied { s with base := { s.base with latchDue := true } })

/-- TRACKING_BLOCK_END (06 R168). -/
def execTrackingBlockEnd (tk : Tick) (s : State) : Host.Outcome State Fault Refusal :=
  runAt tk s fun s => if blockDue s ∧ s.scan.stage ≠ .started then blockEnd s else s

/-! ## Scars (06 R171) -/

/-- Regions of nodes at or below −θ that are not WATER. -/
def negativeRegions (s : State) : List (List Node) :=
  regions (s.allNodes.filter fun p => decide (s.delta p ≤ -(s.fnat 0x300 : Int)) && !s.water p)

/-- Does at least half of a region lie in a box? -/
def halfIn (b : Scar) (r : List Node) : Bool :=
  let inside := r.filter fun p => decide (b.x0 ≤ p.1) && decide (p.1 ≤ b.x1) && decide (b.y0 ≤ p.2) && decide (p.2 ≤ b.y1)
  decide (r.length ≤ 2 * inside.length)

/-- The scar test of a frame: regions that qualify for the second frame become due. -/
def scarTests (s : State) : State :=
  let rs := negativeRegions s
  let hits := s.base.scars.map fun b => rs.find? (halfIn b)
  let scars : List Scar := (List.range s.base.scars.length).map fun i =>
    let b := s.base.scars.getD i ⟨0, 0, 0, 0, 0⟩
    { b with run := if (hits.getD i none).isSome then b.run + 1 else 0 }
  let due := (List.range scars.length).filterMap fun i =>
    if (scars.getD i ⟨0, 0, 0, 0, 0⟩).run > 1 then (hits.getD i none).map fun r => (i, r) else none
  { s with base := { s.base with scars := scars, scarDue := due } }

/-- One due box is resolved (06 R171). -/
def resolveScar (i : Nat) (s : State) : State :=
  match s.base.scarDue.find? fun e => e.1 == i with
  | some (_, r) =>
    let c := boxCentre s (bbox r)
    let nodes := gridMod s.base.nodes r fun p (n : BNode) => { n with b := 256 * (s.cnode p).value }
    let later := (s.base.scarDue.filter fun e => e.1 != i).map fun e => (if i < e.1 then e.1 - 1 else e.1, e.2)
    tally 0x207 (d48 [(16, unsigned 16 c.1), (16, unsigned 16 c.2), (16, r.length)])
      { s with base := { s.base with nodes := nodes, scars := s.base.scars.eraseIdx i, scarDue := later } }
  | none => s

/-- SCAR_RESOLVED (06 R171). -/
def execScarResolved (tk : Tick) (box : Nat) (s : State) : Host.Outcome State Fault Refusal :=
  runAt tk s (resolveScar box)

/-- Every due box. -/
def flushScars : Nat → State → State
  | 0, s => s
  | n + 1, s =>
    match s.base.scarDue with
    | [] => s
    | (i, _) :: _ => flushScars n (resolveScar i s)

/-! ## One frame of the baseline unit -/

/-- Self check, noise and thresholds of the frame (06 R173, R179). -/
def frameNoise (s : State) : State :=
  let age := if s.front.selfValid then 0 else s.base.selfAge + 1
  let noise := (List.range s.front.senseCount).map fun x => columnNoise (s.scan.passes.map fun p => columnVar p x)
  let seat := fun (ls : List BLine) (n : Nat) => (List.range n).map fun i => ls.getD i .blank
  { s with base := { s.base with
      selfAge := age
      unchecked := decide (8 < age)
      noise := noise
      noiseMax := satAt 0xFFFF (maxNat noise)
      drive := seat s.base.drive s.front.driveCount
      sense := seat s.base.sense s.front.senseCount } }

/-- Deltas and WATER marks; WATER runs are counted (06 R156, R157, R172). -/
def frameDeltas (s : State) : State :=
  let s := { s with base := { s.base with
    delta := formDeltas s
    drive := selfDeltas s.base.inForce s.front.selfDrive s.base.drive
    sense := selfDeltas s.base.inForce s.front.selfSense s.base.sense } }
  { s with base := { s.base with water := formWater s } }

/-- The parameters take effect for the baseline unit at a block end (06 R188): the frame that ends the block completes with the
settings that it started with (01 R15), and the next frame starts with the new ones. A new dew_margin is tested at once
(R178). -/
def latchBase (s : State) : State :=
  if s.base.latchDue then
    let t := { s with base := { s.base with latched := s.scan.latched, latchDue := false } }
    if t.bnat 0x214 = s.bnat 0x214 then t else condTest t
  else s

/-- The tests of a frame on its deltas (06 R158, R164, R168, R171, R183). -/
def frameTests (s : State) : State :=
  let film := fun (p : Node) (n : BNode) => { n with film := if s.water p then n.film + 1 else 0 }
  let s := { s with base := { s.base with nodes := s.gridOf fun p => film p (s.bnode p) } }
  let judged := (s.base.judge.map s.nodeOf).filter fun p =>
    s.seeds p.1.toNat (s.delta p) && ((s.bnode p).st == .free || (s.bnode p).st == .frozen)
  let s := { s with base := { s.base with
    judge := []
    nodes := gridMod s.base.nodes judged fun _ (n : BNode) => { n with st := .suspect, leave := 0 } } }
  let s := if s.base.phase1 then { s with base := { s.base with releaseDue := [] } } else leaveTests s
  let s := scarTests (freezeTest s)
  if s.base.phase1 then s
  else
    match s.base.acq with
    | .phase2 m sl f d =>
      finishRegions
        (collect true false { s with base := { s.base with acq := .phase2 m sl (f + 1) d, acquiring := true } })
    | _ =>
      if !s.base.inForce then s
      else
        let s := if s.base.blockAt = 0 then { s with base := { s.base with blockLen := blockFrames s } } else s
        let s := finishRegions
          (finishOwn (collect false true { s with base := { s.base with blockAt := s.base.blockAt + 1 } }))
        s

/-- Phase 1 of the frame, then its deltas and tests afresh. -/
def runPhase1 (forced : Bool) (s : State) : State :=
  frameTests (frameDeltas (phase1 forced s))

/-- ACQUISITION_PHASE1 (06 R162, R163, R165). -/
def execAcquisitionPhase1 (tk : Tick) (s : State) : Host.Outcome State Fault Refusal :=
  runAt tk s fun s =>
    match phase1Due s with
    | some f => if s.scan.stage = .combined ∧ !s.scan.dropped then runPhase1 f s else s
    | none => s

/-! ## Rebuild (06 R183) -/

/-- The nodes of a region come back from the selected reference, or by the fit; in a phase 2 the region starts a phase 2 of
its own (Table 6.4). -/
def rebuildRegion (nodes : List Nat) (s : State) : State :=
  let ps := nodes.map s.nodeOf
  let phase2 := match s.base.acq with | .phase2 .. => true | _ => false
  let own := fun (n : BNode) => if phase2 then { n with own := false, p2 := 0, p2n := 0 } else n
  let foot : List Node := s.trk.contacts.flatMap fun (c : Contact) => c.foot.map fun f => s.toLocal (f.1, f.2.1)
  let out : Nat × State := match selectRef s (s.fnat 0x206) with
    | .ok slot =>
      let img := s.refBytes slot
      (0, { s with base := { s.base with
        judge := s.base.judge ++ nodes
        nodes := gridMod s.base.nodes ps fun p (n : BNode) => own { n with b := refNode s img p, st := .free } } })
    | .error _ =>
      let nearC := fun (p : Node) => foot.any fun q => decide (cheb p q ≤ s.bnat 0x204)
      let s := { s with base := { s.base with
        nodes := gridMod s.base.nodes ps fun p (n : BNode) =>
          own { n with b := 256 * (s.cnode p).value, st := .free } } }
      let s := (regions (ps.filter (anomalous s))).foldl (fun s r => takeAnomaly r s) s
      let hold := fun (p : Node) (n : BNode) =>
        match spatialFit s p with
        | some e => { n with st := .held, b := e, h := (s.cnode p).value, leave := 0 }
        | none => n
      (1, { s with base := { s.base with nodes := gridMod s.base.nodes (ps.filter nearC) hold } })
  let src := out.1
  let s := out.2
  let firstCol := match bestBy (fun (a b : Node) => decide (a.1 < b.1)) ps with | some p => p.1.toNat | none => 0
  let s := envRecord 4 0xFF firstCol 0xFFFF ps.length
    { s with base := { s.base with
        rebuildDue := s.base.rebuildDue - 1
        ownPhase := if phase2 then s.base.ownPhase ++ [(nodes, 0)] else s.base.ownPhase } }
  tally 0x209 (d48 [(16, (s.toGlobal ((firstCol : Int), 0)).1.toNat), (16, ps.length), (8, src)]) s

/-- BASELINE_REGION_REBUILD (06 R183). -/
def execBaselineRegionRebuild (tk : Tick) (nodes : List Nat) (s : State) : Host.Outcome State Fault Refusal :=
  runAt tk s fun s => if 0 < s.base.rebuildDue then rebuildRegion nodes s else s

/-! ## Scaling (04 R117; 06 Table 6.4) -/

/-- Baselines, sums and held levels multiplied by a ratio, each rounded in its own unit. -/
def scaleBase (num den : Nat) (s : State) : State :=
  let sc := fun (v : Int) => roundAway (v * (num : Int)) den
  let node := fun (n : BNode) =>
    { n with b := sc n.b, acc := sc n.acc, p2 := sc n.p2, h := if n.st = .held then sc n.h else n.h }
  { s with base := { s.base with nodes := s.base.nodes.map fun c => c.map node } }

/-- A drive-level change scales Plane's state too (04 R117). -/
def scaleLevel (old new : Nat) (s : State) : State :=
  let s := scaleBase (s.rail new) (s.rail old) s
  { s with plane := { s.plane with
      y := s.plane.y.map fun c => c.map fun v => roundAway (v * (s.rail new : Int)) (s.rail old) } }

/-- Node memory is lost: no baseline is in force and acquisition runs (06 R186, 08 R235). Self values from before do
not count for the self check (log 16). -/
def loseBaselines (s : State) : State :=
  { s with base := { s.base with
      nodes := [], drive := [], sense := [], delta := [], water := [], inForce := false, blockAt := 0
      blockLen := 0, rests := [], scars := [], judge := [], absorbDue := [], scarDue := [], releaseDue := []
      rebuildDue := 0, ownPhase := [], acq := .wait 2 false, selfAge := 9 } }

end Sys2Proof.Machine
end

