-- ==== Sys2Proof/Machine/Bus.lean ====
section
/-! DEFINITION. Chapter 13: the sensor bus, its start and its stuck state, VBR, jobs and their order, the roll
call, alert responses and the environment feed. -/

namespace Sys2Proof.Machine

/-! ## Parameters and entries -/

/-- The bus-free time after a STOP in ticks (13 Table 13.1). -/
def busFreeTicks (speed : Nat) : Nat := match speed with | 0 => 40 | 1 => 12 | _ => 5

/-- The controller's shortest phases in ticks (13 R398, Table 13.1). -/
structure BusPhases where
  sclLow : Nat
  /-- from SCL read high; SDA is read at its end -/
  sclHigh : Nat
  /-- after a START or a repeated START -/
  hold : Nat
  beforeRestart : Nat
  beforeStop : Nat
  deriving DecidableEq, Repr

/-- The phases of a speed. -/
def busPhases (speed : Nat) : BusPhases :=
  match speed with
  | 0 => ⟨42, 42, 34, 40, 34⟩
  | 1 => ⟨12, 9, 6, 6, 6⟩
  | _ => ⟨5, 4, 3, 3, 3⟩

/-- SDA changes this many ticks after SCL is pulled low (13 R398). -/
def sdaAfterLow : Nat := 2

/-- Ticks with both lines high after which a bus is free with no STOP seen (13 R399). -/
def idleFreeTicks : Nat := 420

/-- Ticks that a line must hold a new level before it counts: none of its own on a part with slope control, whose inputs
reject pulses shorter than 50 ns (13 R400). -/
def State.busFilter (s : State) : Nat := if s.part = .klt3720 then 0 else s.bus.glitch

/-- The speed whose fall time the falling edges have, on a part with slope control (13 R400). -/
def State.busSlope (s : State) : Option Nat :=
  if s.part = .klt3720 then some (if s.bus.slope = 1 then 0 else s.bus.speed) else none

/-- The parts of a transaction on the lines (13 R403). -/
inductive BusSym where
  /-- a START, or a repeated one -/
  | start
  | address (a : Nat) (read : Bool)
  | write (b : Byte)
  /-- a byte read, acknowledged or not -/
  | read (ack : Bool)
  | stop
  deriving DecidableEq, Repr

/-- Parameter rollcall_e, and env_temp or env_humid. -/
def State.rollEntry (s : State) (e : Nat) : List Byte := s.param (0x710 + e)
def State.envEntry (s : State) (humid : Bool) : List Byte := s.param (if humid then 0x741 else 0x740)

/-- The entry of an environment read or a probe: that of its start while it is on the bus; a changed one acts at the next (13
R422). -/
def jobEntryOf (s : State) (j : BusJob) : List Byte :=
  if s.bus.job = some j then s.bus.jobEntry
  else match j with
  | .env h => s.envEntry h
  | .probe e => s.rollEntry e
  | _ => []

/-- Entries in use, ascending (13 R416). -/
def State.usedEntries (s : State) : List Nat := (List.range 32).filter s.entryUsed

/-- The address a job speaks to (13 R412, R415, R419). -/
def jobAddress (s : State) : BusJob → Nat
  | .alert _ => 0x0C
  | .xfer _ a _ _ _ => a
  | .env h => byteAt (jobEntryOf s (.env h)) 0
  | .probe e => byteAt (jobEntryOf s (.probe e)) 0

/-- Bytes a job writes and reads, and whether it is a write then a read (13 R403, R412, R415, R419). -/
def jobShape (s : State) : BusJob → Nat × Nat × Bool
  | .alert _ => (0, 1, false)
  | .xfer _ _ f w n => (w.length, n, f == 2)
  | .env h =>
    let v := jobEntryOf s (.env h)
    if byteAt v 1 = 0xFF then (0, byteAt v 2, false) else (1, byteAt v 2, true)
  | .probe e =>
    match byteAt (jobEntryOf s (.probe e)) 1 with
    | 0 => (0, 0, false)
    | 1 => (0, 1, false)
    | _ => (1, 1, true)

/-- A write of bytes. -/
def writeSyms (a : Nat) (ws : List Byte) : List BusSym := [.start, .address a false] ++ ws.map .write

/-- A read of `n` bytes: every one is acknowledged but the last (13 R403). -/
def readSyms (a n : Nat) : List BusSym :=
  [.start, .address a true] ++ (List.range n).map fun i => .read (decide (i + 1 < n))

/-- A job from its START to its STOP, every byte acknowledged (13 R403, R412, R415, R419). DESIGN CHOICE (log 101): the address
byte of a quick command is a write's, as in a probe of form 0. -/
def jobSyms (s : State) (j : BusJob) : List BusSym :=
  let a := jobAddress s j
  (match j with
  | .alert _ => readSyms a 1
  | .xfer _ _ f w n => if f = 0 ∨ f = 3 then writeSyms a w else if f = 1 then readSyms a n else writeSyms a w ++ readSyms a n
  | .env h =>
    let v := jobEntryOf s (.env h)
    if byteAt v 1 = 0xFF then readSyms a (byteAt v 2) else writeSyms a [BitVec.ofNat 8 (byteAt v 1)] ++ readSyms a (byteAt v 2)
  | .probe e =>
    let v := jobEntryOf s (.probe e)
    match byteAt v 1 with
    | 0 => writeSyms a []
    | 1 => readSyms a 1
    | _ => writeSyms a [BitVec.ofNat 8 (byteAt v 2)] ++ readSyms a 1) ++ [.stop]

/-- What the controller has on the bus. -/
def onBus (s : State) : List BusSym :=
  match s.bus.job with
  | some j => if s.bus.active then jobSyms s j else []
  | none => []

/-- Change the partner of an entry. -/
def State.modPartner (s : State) (e : Nat) (f : Partner → Partner) : State :=
  { s with bus := { s.bus with partners := modAt s.bus.partners e f } }

/-! ## Ends of jobs -/

/-- A partner changes state with an event (13 Table 13.4). -/
def partnerTo (e state cause value : Nat) (s : State) : State :=
  let p := s.bus.partners.getD e .unused
  partnerRecord cause (byteAt (s.rollEntry e) 0) e state p.state value
    (s.modPartner e fun q => { q with state := state, changed := s.ownLow })

/-- A roll-call probe has ended (13 R415, Table 13.4). -/
def probeEnd (e st : Nat) (read : List Byte) (s : State) : State :=
  let v := s.rollEntry e
  let p := s.bus.partners.getD e .unused
  if st = stOk then
    let b := if byteAt v 1 = 0 then 0 else byteAt read 0
    let hit := byteAt v 1 == 0 || byteAt v 4 == 0 || (b &&& byteAt v 4) == byteAt v 3
    let s := s.modPartner e fun q => { q with misses := 0, lastByte := b, seen := s.ownLow }
    if hit then (if p.state = 2 then s else partnerTo e 2 1 b s)
    else if p.state = 4 then s else partnerTo e 4 3 b s
  else if st = stBusNack then
    let n := satAt 255 (p.misses + 1)
    let s := s.modPartner e fun q => { q with misses := n }
    if s.pnat 0x70A ≤ n ∧ p.state ≠ 3 then partnerTo e 3 2 n s else s
  else s

/-- An alert response has ended; another follows while the line is low, up to 8 for a fall (13 R412). -/
def alertEnd (n st : Nat) (read : List Byte) (s : State) : State :=
  let a := if st = stOk then byteAt read 0 / 2 else 0xFF
  let s := partnerRecord 4 a 0xFF 0xFF n 0 s
  if s.bus.alertLow ∧ n < 8 ∧ s.bus.alerts = [] ∧ s.bus.phase = .ready then
    { s with bus := { s.bus with alerts := [n + 1] } }
  else s

/-- The raw value that an environment read assembles (13 R419). -/
def envRaw (v read : List Byte) : Int :=
  let o := byteAt v 3
  let n := (if bitAt o 0 then beVal read else leVal read) / 2 ^ byteAt v 4 % 2 ^ byteAt v 5
  if bitAt o 1 then signed (byteAt v 5) n else (n : Int)

/-- The reading in binary32: raw × scale + offset, a humidity clamped to 0 to 100 (13 R419). -/
def envValue (humid : Bool) (v read : List Byte) : Nat :=
  let x := f32Add (f32Mul (f32OfInt (envRaw v read)) (fieldAt v 8 4)) (fieldAt v 12 4)
  let top := f32OfInt 100
  if !humid then x
  else if f32Lt x 0 then 0
  else if f32Lt top x then top else x

/-- An environment read has ended: a reading in 1/256, or an event at the first failure of a run (13 R419). A
reading that is not finite has no stated value (log 2). -/
def envEnd (humid : Bool) (v : List Byte) (st : Nat) (read : List Byte) (s : State) : State :=
  let i := if humid then 1 else 0
  let failed := s.bus.envFailed.getD i false
  let s := { s with bus := { s.bus with envFailed := s.bus.envFailed.set i (st != stOk) } }
  if st = stOk then
    let x := envValue humid v read
    let out : Int × State :=
      if f32Finite x then (f32ScaleRound 256 x, s) else let d := s.draw; ((d.1 : Int), d.2)
    if humid then humidReading 2 out.1 out.2 else tempReading 2 out.1 out.2
  else if failed then s
  else partnerRecord 11 (byteAt v 0) 0xFF 0xFF (bitOf humid 0) st s

/-! ## Starts, and the bus off or stuck -/

/-- A bus start is due from `t` on (13 R401). -/
def requestStart (t : Time) (keep : Bool) (s : State) : State :=
  { s with bus := { s.bus with
      phase := .starting, stage := .none, stageT := t, recovering := false, keepRoles := keep, foreign := false } }

/-- A roll call begins (13 R416). -/
def startRoll (s : State) : State :=
  { s with bus := { s.bus with
      roll := some s.usedEntries, rollFrom := some s.now, rollAgain := false
      rollTags := s.bus.rollTagsNext, rollTagsNext := [] } }

/-- Final replies with the partner table for some tags. -/
def rollReplies (st : Nat) (tags : List Nat) (s : State) : State :=
  tags.foldl (fun s t => finishTag t st (partnerTable s) s) s

/-- The running roll call has ended; one that is due begins (13 R416). -/
def endRoll (s : State) : State :=
  let tags := s.bus.rollTags
  let s := rollReplies stOk tags { s with bus := { s.bus with roll := none, rollTags := [] } }
  if s.bus.rollAgain ∧ s.bus.phase = .ready then startRoll s else s

/-- Has every entry of the running roll call been probed? -/
def rollOver (s : State) : Bool :=
  match s.bus.roll, s.bus.job with
  | some _, some (.probe _) => false
  | some l, _ => !l.any s.entryUsed
  | none, _ => false

/-- Every waiting job ends with a status (13 R406, R408). -/
def failWaiting (st : Nat) (s : State) : State :=
  let b := s.bus
  let s := { s with bus := { s.bus with
    xfers := [], alerts := [], envDue := [], roll := none, rollAgain := false, rollTags := [], rollTagsNext := [] } }
  let s := b.xfers.foldl (fun s j =>
    match j with
    | .xfer tag _ _ _ _ => finishTag tag st (leBytes 2 0) s
    | _ => s) s
  let s := b.envDue.foldl (fun s h => envEnd h (s.envEntry h) st [] s) s
  rollReplies st (b.rollTags ++ b.rollTagsNext) s

/-- The final replies of BUS_BRANCH action 2 become due with an outcome (13 R408). -/
def branchOutcome (st : Nat) (s : State) : State :=
  if (s.outstanding 0x42).isSome then { s with bus := { s.bus with branchDone := some st } } else s

/-- A bus declared stuck is the outcome of a cycle that runs; a BUS_BRANCH action 2 that waits for the job has its cycle yet to
come (13 R406, R408). -/
def branchStuck (s : State) : State := if s.bus.branchDue.contains 2 then s else branchOutcome stBusStuck s

/-- VBR goes off at `now`, with the vbr field of Table 13.6. -/
def vbrOff (field : Nat) (s : State) : State := { s with bus := { s.bus with vbr := field, vbrT := s.now } }

/-- VBR goes on. -/
def vbrOn (s : State) : State :=
  if s.bus.vbr = 1 then s else { s with bus := { s.bus with vbr := 1, vbrT := s.now } }

/-- One BUS_BRANCH action, or bus_enable 0 as action 0 (13 R408); 3 is bus_enable 1 (R401). -/
def branch (action : Nat) (s : State) : State :=
  match action with
  | 0 =>
    let s := vbrOff 0 { s with bus := { s.bus with phase := .off, stage := .none, recovering := false } }
    finishAll 0x42 stWrongState [] (failWaiting stWrongState s)
  | 1 => if s.bus.vbr = 1 ∧ s.bus.phase ≠ .stuck then s else requestStart s.now false s
  | 2 => requestStart (tAdd s.now (820 * 256)) false (vbrOff 0 s)
  | _ => requestStart s.now false s

/-- bus_speed and bus_roles act at a free instant (13 R422). -/
def applyBusConfig (s : State) : State :=
  let r := s.pnat 0x702
  { s with bus := { s.bus with
      speed := s.pnat 0x701
      glitch := s.pnat 0x703
      slope := s.pnat 0x704
      roles := if r = 2 then s.bus.roles else r
      exchanged := if r = 2 then s.bus.exchanged else r == 1 } }

/-- The role decision is repeated, where one is due and the bus is free (13 R420). -/
def rolesAgain (s : State) : State :=
  if s.bus.rolesDue ∧ s.bus.phase = .ready ∧ s.bus.stage = .none ∧ s.bus.job = none then
    { s with bus := { s.bus with stage := .roles, rolesDue := false } }
  else s

/-- After a job: settings act, then the BUS_BRANCH actions that waited (13 R408, R422). -/
def afterJob (s : State) : State :=
  let due := s.bus.branchDue
  rolesAgain <| due.foldl (fun s a => branch a s) (applyBusConfig { s with bus := { s.bus with branchDue := [] } })

/-- The bus-free time that follows a transaction's STOP (13 R399). -/
def freeAfter (s : State) : Option Time :=
  if s.bus.active then some (tAdd s.now (busFreeTicks s.bus.speed)) else s.bus.freeT

/-- Has the bus-free time passed? -/
def busFree (s : State) : Bool := match s.bus.freeT with | some t => reached s.now t | none => true

/-- The job on the bus ends with a status, the bytes done and the bytes read (13 R403). -/
def endJob (st done : Nat) (read : List Byte) (s : State) : State :=
  match s.bus.job with
  | none => s
  | some j =>
    let lost := s.bus.discard
    let entry := s.bus.jobEntry
    let s := { s with bus := { s.bus with
      freeT := freeAfter s, job := none, active := false, retryT := none, retries := 0, arbs := 0, discard := false } }
    afterJob (match j with
      | .xfer tag _ _ _ _ => finishTag tag st (leBytes 2 done ++ read) s
      | .alert n => alertEnd n st read s
      | .env h => envEnd h entry st read s
      | .probe e => if lost then s else probeEnd e st read s)

/-- An attempt is cut short in the midst of its bytes: how many it had moved, and what it had read, is not given to the step
and stays open (13 R403; log 2). -/
def cutAttempt (s : State) : State :=
  match s.bus.job with
  | none => s
  | some j =>
    let sh := jobShape s j
    let d := s.draw
    let n := d.1 % (sh.1 + sh.2.1 + 1)
    let d2 := d.2.draw
    { d2.2 with bus := { d2.2.bus with moved := (n, leBytes (n - sh.1) d2.1) } }

/-- The job ends with what its last attempt moved (13 R403). -/
def endJobOpen (st : Nat) (s : State) : State :=
  let s := if s.bus.active then cutAttempt s else s
  endJob st s.bus.moved.1 s.bus.moved.2 s

/-- The bus is declared stuck; `stage` 1 bus start, 2 stretch timeout (13 R406). -/
def declareStuck (sclHigh sdaHigh : Bool) (stage : Nat) (s : State) : State :=
  let lines := bitOf (!sclHigh) 0 + bitOf (!sdaHigh) 1
  let s := { s with bus := { s.bus with phase := .stuck, stage := .none, recovering := false, wasStuck := true } }
  let s := branchStuck s
  let s := failWaiting stBusStuck (endJobOpen stBusStuck s)
  (tally 0x703 (d48 [(8, lines), (8, stage)]) (partnerRecord 6 0xFF 0xFF 0xFF lines stage s))

/-! ## The bus start (13 R401, R402) -/

/-- BUS_START (13 R401): VBR on, and the settling time before the lines are read. -/
def execBusStart (tk : Tick) (s : State) : Host.Outcome State Fault Refusal :=
  runAt tk s fun s =>
    if s.bus.phase = .starting ∧ s.bus.stage = .none ∧ s.pwr.pd1 ∧ reached s.now s.bus.stageT then
      let s := vbrOn s
      let fresh := fun (p : Partner) (e : Nat) =>
        if !s.entryUsed e || p.state == 1 then p else { p with state := 1, misses := 0, changed := s.ownLow }
      { s with bus := { s.bus with
          stage := .settle, stageT := tAdd s.now (256 * s.pnat 0x70C), settle := s.pnat 0x70C
          partners := (List.range 32).map fun e => fresh (s.bus.partners.getD e .unused) e } }
    else s

/-- The roles are decided (13 R402); `start` is a bus start. -/
def decideRoles (start : Bool) (probe : Option (Bool × Nat)) (s : State) : State :=
  let auto := s.pnat 0x702 == 2 && !s.bus.keepRoles
  let hit := match probe with | some (x, e) => if auto && s.entryUsed e then some (x, e) else none | none => none
  let entry := match hit with | some (_, e) => e | none => 0xFF
  let s := if auto then
      { s with bus := { s.bus with
          roles := match hit with | some (x, _) => bitOf x 0 | none => 2
          exchanged := match hit with | some (x, _) => x | none => s.bus.exchanged } }
    else if s.bus.keepRoles then s
    else applyBusConfig s
  let s := if start then
      tally 0x701 (d48 [(8, s.bus.roles), (8, 0)]) (partnerRecord 5 0xFF 0xFF 0xFF s.bus.roles entry s)
    else s
  if auto ∧ s.bus.roles ≠ 0 then tally 0x708 (d48 [(8, s.bus.roles), (8, entry)]) s else s

/-- Next read times of the environment feed from `now` (13 R419). -/
def envTimes (s : State) : List (Option Time) :=
  [false, true].map fun h => some (tAdd s.now (msTicks (fieldAt (s.envEntry h) 6 2)))

/-- The lines are free: roles, then the bus is ready (13 R401 steps 5 and 6, R406). -/
def busReady (probe : Option (Bool × Nat)) (s : State) : State :=
  let s := decideRoles true probe (branchOutcome stOk s)
  let s := if s.bus.wasStuck then tally 0x707 0 (partnerRecord 7 0xFF 0xFF 0xFF 0 0 s) else s
  let s := { s with bus := { s.bus with
    phase := .ready, stage := .none, keepRoles := false, wasStuck := false, speed := s.pnat 0x701, freeT := none, rolesDue := false
    glitch := s.pnat 0x703, slope := s.pnat 0x704
    envT := envTimes s, foreign := false } }
  if s.bus.roll.isSome then { s with bus := { s.bus with rollAgain := true } }
  else if s.bus.rollAgain ∨ !s.usedEntries.isEmpty then startRoll s
  else { s with bus := { s.bus with rollFrom := some s.now } }

/-- Lines recovered after a stretch timeout: the job ends with TIMEOUT and the bus stays ready (13 R405); it has seen no STOP
(R399). -/
def busRecovered (s : State) : State :=
  let s := endJobOpen stTimeout { s with bus := { s.bus with stage := .none, recovering := false } }
  if s.bus.phase = .ready then { s with bus := { s.bus with freeT := some (tAdd s.now idleFreeTicks) } } else s

/-- Lines that go high with no STOP seen leave the bus free after 420 ticks (13 R399). -/
def idleFree (s : State) : State :=
  if s.bus.phase = .ready then { s with bus := { s.bus with freeT := some (tAdd s.now idleFreeTicks) } } else s

/-- Both lines are high in a stage of the start, or of the recovery. -/
def linesFree (probe : Option (Bool × Nat)) (s : State) : State :=
  if s.bus.recovering then busRecovered s else busReady probe s

/-- BUS_START_TIMER (13 R401, R402): the lines as read. -/
def execBusStartTimer (tk : Tick) (sclHigh sdaHigh : Bool) (probe : Option (Bool × Nat)) (s : State) :
    Host.Outcome State Fault Refusal :=
  runAt tk s fun s =>
    let high := sclHigh && sdaHigh
    let late := reached s.now s.bus.stageT
    let goTo := fun (g : BusStage) (beats : Nat) (s : State) =>
      { s with bus := { s.bus with stage := g, stageT := tAdd s.now (256 * beats) } }
    if !s.pwr.pd1 then s
    else match s.bus.stage with
    | .none => s
    | .settle => if !late then s else if high then linesFree probe s else goTo .watch 820 s
    | .watch => if high then idleFree (linesFree probe s) else if late then goTo .offWait 1639 (vbrOff 0 s) else s
    | .offWait => if late then goTo .settle2 s.bus.settle (vbrOn s) else s
    | .settle2 =>
      if !late then s
      else if high then linesFree probe s
      else
        let start := !s.bus.recovering
        let s := declareStuck sclHigh sdaHigh (if start then 1 else 2) s
        if start then tally 0x701 (d48 [(8, s.bus.roles), (8, 1)]) s else s
    | .roles =>
      if s.bus.job.isNone ∧ s.bus.phase = .ready then
        decideRoles false probe { s with bus := { s.bus with stage := .none } }
      else s

/-! ## Jobs (13 R403 to R405, R410, R413) -/

/-- The first waiting job (13 R413). -/
def nextJob (s : State) : Option (BusJob × State) :=
  match s.bus.alerts with
  | n :: r => some (.alert n, { s with bus := { s.bus with alerts := r } })
  | [] =>
    match s.bus.xfers with
    | j :: r => some (j, { s with bus := { s.bus with xfers := r } })
    | [] =>
      match s.bus.envDue with
      | h :: r => some (.env h, { s with bus := { s.bus with envDue := r } })
      | [] =>
        match s.bus.roll.map fun l => l.filter s.entryUsed with
        | some (e :: r) => some (.probe e, { s with bus := { s.bus with roll := some r } })
        | _ => none

/-- May the controller put a START on the bus? -/
def busOpen (s : State) : Bool :=
  s.pwr.pd1 && s.bus.phase == .ready && s.bus.stage == .none && !s.bus.active

/-- BUS_JOB_START (13 R413): on a free, ready bus; a job that lost arbitration starts again (R410). No command tells another
controller's STOP: this command and ADDRESS_RETRY come where the bus is free, the bus-free time after that controller's START
or the loss at the earliest (R399; log 102). -/
def execBusJobStart (tk : Tick) (s : State) : Host.Outcome State Fault Refusal :=
  runAt tk s fun s =>
    if !(busOpen s && busFree s) then s
    else match s.bus.job, s.bus.retryT with
    | some _, none => { s with bus := { s.bus with active := true, foreign := false } }
    | some _, some _ => s
    | none, _ =>
      match nextJob s with
      | none => s
      | some (j, s) =>
        { s with bus := { s.bus with
            job := some j, jobT := s.now, retries := 0, arbs := 0, retryT := none, active := true
            jobEntry := jobEntryOf s j, moved := (0, []), foreign := false, discard := false } }

/-- Another controller holds the bus from now on; its STOP and the bus-free time are to come (13 R399, R410). -/
def takenBy (s : State) : State :=
  { s with bus := { s.bus with
      foreign := true, waitT := s.now, freeT := some (tAdd s.now (busFreeTicks s.bus.speed)) } }

/-- BUS_BUSY (13 R399): another controller's START. -/
def execBusBusy (tk : Tick) (s : State) : Host.Outcome State Fault Refusal :=
  runAt tk s fun s => if busOpen s ∧ !s.bus.foreign then takenBy s else s

/-- The outcome of a transaction: status, done, bytes read (13 R403). -/
def outcomeOf (sh : Nat × Nat × Bool) : BusEnd → Nat × Nat × List Byte
  | .nackAddress => (stBusNack, 0, [])
  | .nackRestart => (stBusNack, sh.1, [])
  | .nackByte n => (if n + 1 = sh.1 ∧ !sh.2.2 then stOk else stBusNack, n, [])
  | .moved read => (stOk, sh.1 + sh.2.1, slice read 0 sh.2.1)

/-- BUS_TRANSACTION_END (13 R403, R404). -/
def execBusTransactionEnd (tk : Tick) (res : BusEnd) (s : State) : Host.Outcome State Fault Refusal :=
  runAt tk s fun s =>
    match s.bus.job with
    | none => s
    | some j =>
      if !s.bus.active then s
      else if res = .nackAddress ∧ s.bus.retries < s.pnat 0x706 then
        { s with bus := { s.bus with
            active := false, retries := s.bus.retries + 1, moved := (0, [])
            retryT := some (tAdd s.now (busFreeTicks s.bus.speed + 256 * s.pnat 0x707)) } }
      else
        let r := outcomeOf (jobShape s j) res
        endJob r.1 r.2.1 r.2.2 s

/-- ADDRESS_RETRY (13 R404). -/
def execAddressRetry (tk : Tick) (s : State) : Host.Outcome State Fault Refusal :=
  runAt tk s fun s =>
    match s.bus.retryT with
    | some t =>
      if busOpen s ∧ busFree s ∧ s.bus.job.isSome ∧ reached s.now t then
        { s with bus := { s.bus with active := true, retryT := none, foreign := false } }
      else s
    | none => s

/-- CLOCK_STRETCH_TIMEOUT (13 R405): the lines as read after their release. SCL has been low for stretch_timeout, so the job is
at least as old. -/
def execClockStretchTimeout (tk : Tick) (sclHigh sdaHigh : Bool) (s : State) : Host.Outcome State Fault Refusal :=
  runAt tk s fun s =>
    match s.bus.job with
    | none => s
    | some j =>
      if !s.bus.active ∨ s.bus.recovering ∨ !reached s.now (tAdd s.bus.jobT (msTicks (s.pnat 0x705))) then s
      else
        let s := tally 0x705 (d48 [(8, jobAddress s j)]) s
        if sclHigh && sdaHigh then busRecovered s
        else
          { s with bus := { s.bus with
              recovering := true, stage := .watch, stageT := tAdd s.now (820 * 256) } }

/-- BUS_FREE_TIMEOUT (13 R410): the waiting job ends. -/
def execBusFreeTimeout (tk : Tick) (s : State) : Host.Outcome State Fault Refusal :=
  runAt tk s fun s =>
    if s.bus.foreign ∧ busOpen s ∧ reached s.now (tAdd s.bus.waitT (32768 * 256)) then
      let s := { s with bus := { s.bus with waitT := s.now } }
      match s.bus.job with
      | some _ => endJobOpen stTimeout s
      | none =>
        match nextJob s with
        | some (j, s) => endJob stTimeout 0 [] { s with bus := { s.bus with job := some j } }
        | none => s
    else s

/-- The job ends with BUS_ARB_LOST, and another controller holds the bus (13 R410, R411). -/
def lostBus (s : State) : State :=
  let s := endJobOpen stBusArbLost s
  if s.bus.phase = .ready then takenBy s else s

/-- ARBITRATION_LOST (13 R410). -/
def execArbitrationLost (tk : Tick) (s : State) : Host.Outcome State Fault Refusal :=
  runAt tk s fun s =>
    if s.bus.job.isSome ∧ s.bus.active ∧ !s.bus.recovering then
      if s.bus.arbs < 3 then
        let s := takenBy (cutAttempt s)
        { s with bus := { s.bus with arbs := s.bus.arbs + 1, active := false, retryT := none } }
      else lostBus s
    else s

/-- ARBITRATION_LOST_AT_STOP (13 R411). -/
def execArbitrationLostAtStop (tk : Tick) (atStop : Bool) (s : State) : Host.Outcome State Fault Refusal :=
  runAt tk s fun s =>
    match s.bus.job with
    | none => s
    | some j =>
      if !s.bus.active ∨ s.bus.recovering then s
      else
        let a := jobAddress s j
        let point := if atStop then 1 else 2
        let s := lostBus s
        tally 0x706 (d48 [(8, a), (8, point)]) (partnerRecord 10 a 0xFF 0xFF point 0 s)

/-- BUS_JOB_TIME_LIMIT (13 R413). -/
def execBusJobTimeLimit (tk : Tick) (s : State) : Host.Outcome State Fault Refusal :=
  runAt tk s fun s =>
    if s.bus.job.isSome ∧ !s.bus.recovering ∧ reached s.now (tAdd s.bus.jobT (32768 * 256)) then
      endJobOpen stTimeout s
    else s

/-! ## Alerts, the roll call and the environment feed -/

/-- SB_ALERT_CHANGE (13 R412): the line has read the new level for 2 beats. -/
def execSbAlertChange (tk : Tick) (low : Bool) (s : State) : Host.Outcome State Fault Refusal :=
  runAt tk s fun s =>
    if !s.pwr.pd1 then s
    else
      let fall := low && !s.bus.alertLow && s.pnat 0x708 == 1 &&
        (s.bus.phase == .ready || s.bus.phase == .starting)
      { s with bus := { s.bus with
          alertLow := low, alerts := if fall then s.bus.alerts ++ [1] else s.bus.alerts } }

/-- ROLLCALL_DUE (13 R416, R420). -/
def execRollcallDue (tk : Tick) (s : State) : Host.Outcome State Fault Refusal :=
  runAt tk s fun s =>
    let p := 8388608 * s.pnat 0x709
    match s.bus.rollFrom with
    | none => s
    | some t =>
      if p = 0 ∨ !s.pwr.pd1 ∨ !reached s.now (tAdd t p) then s
      else if s.bus.phase ≠ .ready then { s with bus := { s.bus with rollFrom := some (tAdd t p) } }
      else
        let s := if rollOver s then endRoll s else s
        if s.bus.roll.isSome then { s with bus := { s.bus with rollAgain := true } } else startRoll s

/-- ROLLCALL_END (13 R416). -/
def execRollcallEnd (tk : Tick) (s : State) : Host.Outcome State Fault Refusal :=
  runAt tk s fun s => if rollOver s then endRoll s else s

/-- ENV_READ_DUE (13 R419): not queued again while one of the entry waits. -/
def execEnvReadDue (tk : Tick) (humid : Bool) (s : State) : Host.Outcome State Fault Refusal :=
  runAt tk s fun s =>
    let i := if humid then 1 else 0
    match s.bus.envT.getD i none with
    | none => s
    | some t =>
      if !s.pwr.pd1 ∨ !reached s.now t then s
      else
        let v := s.envEntry humid
        let queue := s.bus.phase == .ready && byteAt v 0 != 0xFF && !s.bus.envDue.contains humid
        { s with bus := { s.bus with
            envT := s.bus.envT.set i (some (tAdd t (msTicks (fieldAt v 6 2))))
            envDue := if queue then s.bus.envDue ++ [humid] else s.bus.envDue } }

/-! ## VBR (13 R407 to R409) -/

/-- VBR_CURRENT_LIMIT (13 R407, R409): the switch opens. -/
def execVbrCurrentLimit (tk : Tick) (s : State) : Host.Outcome State Fault Refusal :=
  runAt tk s fun s =>
    if s.bus.vbr ≠ 1 then s
    else if !s.pwr.pd1 then vbrOff 0 { s with bus := { s.bus with limitSlept := true } }
    else
      let s := vbrOff (if s.bus.closings < 3 then 3 else 2)
        { s with bus := { s.bus with phase := .stuck, stage := .none, recovering := false, wasStuck := true } }
      let s := failWaiting stBusStuck (endJobOpen stBusStuck (branchStuck s))
      tally 0x704 (d48 [(8, s.bus.closings)]) (partnerRecord 8 0xFF 0xFF 0xFF s.bus.closings 0 s)

/-- VBR_RECLOSE (13 R407): the switch closes with a bus start. -/
def execVbrReclose (tk : Tick) (s : State) : Host.Outcome State Fault Refusal :=
  runAt tk s fun s =>
    if s.bus.vbr = 3 ∧ s.pwr.pd1 ∧ reached s.now (tAdd s.bus.vbrT (32768 * 256)) then
      requestStart s.now false (vbrOn { s with bus := { s.bus with closings := s.bus.closings + 1 } })
    else s

/-- VBR_CLOSING_CLEAR (13 R407). -/
def execVbrClosingClear (tk : Tick) (s : State) : Host.Outcome State Fault Refusal :=
  runAt tk s fun s =>
    if s.bus.vbr = 1 ∧ 0 < s.bus.closings ∧ reached s.now (tAdd s.bus.vbrT (32768 * 256)) then
      { s with bus := { s.bus with closings := 0 } }
    else s

/-- BUS_BRANCH_CYCLE_COMPLETE (13 R408): the final reply. -/
def execBusBranchCycleComplete (tk : Tick) (s : State) : Host.Outcome State Fault Refusal :=
  runAt tk s fun s =>
    match s.bus.branchDone with
    | some st => finishAll 0x42 st [] { s with bus := { s.bus with branchDone := none } }
    | none => s

/-- PD1 has powered up: a bus start when bus_enable is 1 (13 R401, R409). -/
def busWake (s : State) : State :=
  let s := if s.bus.limitSlept then
      tally 0x704 (d48 [(8, s.bus.closings)])
        (partnerRecord 8 0xFF 0xFF 0xFF s.bus.closings 0 { s with bus := { s.bus with limitSlept := false } })
    else s
  if s.pnat 0x700 = 1 then requestStart s.now (s.bus.vbr == 1) s else s

/-- PD1 powers down: both lines are released; what is on the bus delivers nothing; VBR follows vbr_sleep
(13 R401, R409, R420). -/
def busSleep (s : State) : State :=
  let keep := s.pnat 0x70B == 1 && s.bus.vbr == 1
  { s with bus := { Bus.initial with
      roles := s.bus.roles, exchanged := s.bus.exchanged, speed := s.bus.speed, glitch := s.bus.glitch
      slope := s.bus.slope, partners := s.bus.partners
      wasStuck := s.bus.wasStuck, closings := s.bus.closings, rollFrom := none, envFailed := s.bus.envFailed
      vbr := if keep then 1 else 0
      vbrT := if keep then s.bus.vbrT else s.now } }

/-! ## Commands and writes -/

/-- BUS_XFER accepted (13 R403): queued, or ended while the bus is stuck (R406). -/
def busXfer (tag addr form : Nat) (wdata : List Byte) (rlen : Nat) (s : State) : State :=
  if s.bus.phase = .stuck then finishTag tag stBusStuck (leBytes 2 0) s
  else { s with bus := { s.bus with xfers := s.bus.xfers ++ [.xfer tag addr form wdata rlen] } }

/-- BUS_ROLLCALL mode 0 accepted (13 R416). -/
def busRollcall (tag : Nat) (s : State) : State :=
  if s.bus.phase = .stuck then rollReplies stBusStuck [tag] s
  else
    let s := { s with bus := { s.bus with rollTagsNext := s.bus.rollTagsNext ++ [tag], rollAgain := true } }
    let s := if rollOver s then endRoll s else s
    if s.bus.roll.isNone ∧ s.bus.phase = .ready then startRoll s else s

/-- BUS_BRANCH (13 R408): after the job now on the bus. -/
def busBranch (action : Nat) (s : State) : State :=
  if s.bus.job.isSome then { s with bus := { s.bus with branchDue := s.bus.branchDue ++ [action] } }
  else branch action s

/-- A parameter of the 0x0700 range has been written, with its value before (13 R401, R420, R422). -/
def busWritten (id : Nat) (old : List Byte) (s : State) : State :=
  let new := s.param id
  if id = 0x700 then
    if new = old ∨ !s.pwr.pd1 then s
    else busBranch (if leVal new = 1 then 3 else 0) s
  else if 0x701 ≤ id ∧ id ≤ 0x704 then
    let s := if id = 0x702 ∧ old ≠ new then { s with bus := { s.bus with rolesDue := decide (leVal new = 2) } } else s
    if s.bus.job.isNone ∧ s.bus.phase = .ready then rolesAgain (applyBusConfig s) else s
  else if 0x710 ≤ id ∧ id < 0x730 then
    if new = old then s
    else
      let e := id - 0x710
      let hit := s.bus.job == some (.probe e)
      { (s.modPartner e fun _ => if byteAt new 0 = 0xFF then .unused else ⟨1, 0, 0, s.ownLow, 0⟩) with
        bus := { (s.modPartner e fun _ => if byteAt new 0 = 0xFF then .unused else ⟨1, 0, 0, s.ownLow, 0⟩).bus with
          discard := s.bus.discard || hit } }
  else s

end Sys2Proof.Machine
end

