-- ==== Sys2Proof/Machine/Level.lean ====
section
/-! DEFINITION. Chapter 10 and the Level path of chapter 05: requests, conversions, excitation, the reference
buffer, auto-range, open-wire checks and result records. A value is taken at the modulator sample that completes
it. -/

namespace Sys2Proof.Machine

/-! ## Slots and responses -/

/-- Entry of a slot. -/
def State.lvlEntry (s : State) (n : Nat) : List Byte := s.param (0x600 + n)

/-- What a changed trigger entry leaves in force up to the next round boundary (10 R313). -/
def State.oldTrigger (s : State) (n : Nat) : Option (List Byte × Option Time × Time) :=
  match (s.lvl.slots.getD n .initial).trigWas with
  | some (v, o, t) => if reached s.now t then none else some (v, o, t)
  | none => none

/-- A slot's trigger entry in force. -/
def State.lvlTrigger (s : State) (n : Nat) : List Byte :=
  match s.oldTrigger n with | some (v, _, _) => v | none => s.param (0x620 + n)

/-- Next firing of a slot's timer. -/
def State.lvlTimer (s : State) (n : Nat) : Option Time :=
  match s.oldTrigger n with | some (_, o, _) => o | none => (s.lvl.slots.getD n .initial).timerNext

/-- Settling of a response in output samples (05 Table 5.2). -/
def respSettle (r : Nat) : Nat :=
  match r with | 0 => 1 | 1 => 2 | 2 => 3 | 3 => 4 | 4 => 5 | 5 => 4 | 6 => 3 | 7 => 3 | _ => 2

/-- Group delay of a response in quarters of an output sample. -/
def respDelay4 (r : Nat) : Nat :=
  match r with | 0 => 2 | 1 => 4 | 2 => 6 | 3 => 8 | 4 => 10 | 5 => 8 | 6 => 6 | 7 => 6 | _ => 3

/-- Output period of the fine path in ticks (05 R142). -/
def finePeriod (entry : List Byte) : Nat := 2 ^ (byteAt entry 2 + 5)

/-- Does an excitation edge act on the slot (10 R308)? -/
def edgeActs (entry : List Byte) : Bool := byteAt entry 4 == 1 || bitAt (byteAt entry 5) 3

/-- The next round boundary after an instant. -/
def nextRound (t : Time) : Time := tAdd t (32 - t.toNat % 32)

/-- Change a slot's run-time state. -/
def State.modLvlSlot (s : State) (n : Nat) (f : LvlSlot → LvlSlot) : State :=
  { s with lvl := { s.lvl with slots := modAt s.lvl.slots n f } }

/-! ## Decimation (05 R132, R142, R143) -/

/-- The integrators of a sinc filter take a modulator sample, each the sum of the one before it. -/
def sincFeed : Int → List Int → List Int
  | _, [] => []
  | x, a :: r => (a + x) :: sincFeed (a + x) r

/-- Its combs at the output rate: the output, and the delays after it. -/
def sincComb : Int → List Int → Int × List Int
  | x, [] => (x, [])
  | x, d :: r => ((sincComb (x - d) r).1, x :: (sincComb (x - d) r).2)

/-- One output of a sinc filter from its integrators and delays. -/
def sincOut (acc comb : List Int) : Int × List Int := sincComb (acc.getLastD 0) comb

/-- The sinc order of a response (05 Table 5.2). -/
def sincOrder (r : Nat) : Nat :=
  match r with | 0 => 1 | 1 => 2 | 2 => 3 | 3 => 4 | 4 => 5 | 5 => 3 | 6 => 3 | 7 => 3 | _ => 2

/-- The raw code of a fine output at OSR exponent n: plus full scale is 2^23 (R142). P0 to P4 are the sinc filters; an output
finer than the code is the code below it or the one above. The spec gives no coefficients of the notches and of the
compensator of P5 to P8: their outputs are free values (log 2). -/
def fineCode (resp n : Nat) (y : Int) (s : State) : Int × State :=
  if resp ≤ 4 then
    let g := (resp + 1) * n
    if g ≤ 23 then (y * 2 ^ (23 - g), s)
    else if y % 2 ^ (g - 23) = 0 then (asr y (g - 23), s)
    else (asr y (g - 23) + (s.draw.1 % 2 : Nat), s.draw.2)
  else ((s.draw.1 : Int) - 2 ^ 23, s.draw.2)

/-- The raw code of a fast-path output, sinc2 with decimation 16 (R143). -/
def coarseCode (y : Int) : Int := y * 2 ^ 15

/-! ## PD5 and the reference buffer (10 R305, R317) -/

/-- PD5_POWER_DOWN (10 R317). -/
def execPd5PowerDown (tk : Tick) (s : State) : Host.Outcome State Fault Refusal :=
  runAt tk s fun s =>
    match s.lvl.idleSince with
    | some t => if s.lvl.pd5 ∧ !levelNeed s ∧ reached s.now (tAdd t 65536) then pd5Off s else s
    | none => s

/-- A write of refbuf_enable: the buffer follows it at the round boundary from which it acts (10 R305, R328). -/
def refbufWritten (s : State) : State :=
  let going := match s.lvl.bufOffT with | some t => !reached s.now t | none => true
  let s :=
    if s.pnat 0x610 = 1 then
      if !s.lvl.pd5 then s
      else if s.lvl.bufOn && going then { s with lvl := { s.lvl with bufOffT := none } }
      else bufferOn s.bufFrom s
    else if s.bufOnNow then { s with lvl := { s.lvl with bufOffT := some s.bufFrom } }
    else { s with lvl := { s.lvl with bufOn := false, bufOffT := none } }
  pd5Check s

/-- A write of a parameter of Level, with its value before: the old one acts up to the next round boundary (10 R328). -/
def lvlWritten (id : Nat) (old : List Byte) (s : State) : State :=
  if s.lvl.was.any fun w => w.1 == id && !reached s.now w.2.2 then s
  else { s with lvl := { s.lvl with
    was := (id, old, nextRound s.now) :: s.lvl.was.filter fun w => w.1 != id } }

/-- The instant at which the buffer is settled. -/
def bufSettleT (s : State) : Time := tAdd s.lvl.bufT (1311 * 256)

/-- REFBUF_SETTLED (10 R305). -/
def execRefbufSettled (tk : Tick) (s : State) : Host.Outcome State Fault Refusal :=
  runAt tk s fun s =>
    if s.bufOnNow ∧ reached s.now (bufSettleT s) then { s with lvl := { s.lvl with bufSettled := true } } else s

/-! ## Requests (10 R313 to R315) -/

/-- Order of the queue: urgent requests stand at its head. -/
def reqLt (a b : LvlReq) : Bool :=
  !a.urgent && !b.urgent &&
    (decide (a.eligible ≠ b.eligible ∧ reached b.eligible a.eligible) || (a.eligible == b.eligible && decide (a.slot < b.slot)))

/-- Is a slot's request queued, or its conversion running? -/
def slotBusy (s : State) (n : Nat) : Bool :=
  (s.lvl.queue.any fun q => q.slot == n) || (match s.lvl.running with | some r => r.req.slot == n | none => false)

/-- A request enters the queue. -/
def enqueueReq (q : LvlReq) (s : State) : State :=
  { s with lvl := { s.lvl with queue := if q.urgent then q :: s.lvl.queue else insertBy reqLt q s.lvl.queue } }

/-- A trigger of a slot at an instant; missed while the slot is busy (10 R314, R315). -/
def fireTrigger (n source : Nat) (at0 : Time) (edge : Option Time) (s : State) : State :=
  let v := s.lvlTrigger n
  if byteAt (s.lvlEntry n) 0 = 0xFF then s
  else if slotBusy s n then
    tally 0x603 (d48 [(8, n)]) (s.modLvlSlot n fun q => { q with missed := satAt 255 (q.missed + 1) })
  else
    enqueueReq { slot := n, eligible := tAdd at0 (fieldAt v 4 2), urgent := false, source := source
                 count := byteAt v 2, edgeT := edge, bufOff := leVal (s.lvlParam 0x610) == 0, ready := false } s

/-- Slots whose trigger has a source. -/
def triggersOf (s : State) (source : Nat) : List Nat :=
  if s.part.hasLevel then (List.range 16).filter fun n => byteAt (s.lvlTrigger n) 0 == source else []

/-- The triggers of a frame start (10 R313). -/
def frameTriggers (s : State) : State :=
  (triggersOf s 3).foldl (fun s n => fireTrigger n 3 s.now none s) s

/-- LEVEL_TIMER_TRIGGER (10 R313). -/
def execLevelTimerTrigger (tk : Tick) (slot : Nat) (s : State) : Host.Outcome State Fault Refusal :=
  runAt tk s fun s =>
    match s.lvlTimer slot with
    | some t =>
      if s.pwr.pd1 ∧ reached s.now t ∧ byteAt (s.lvlTrigger slot) 0 = 1 then
        let next := tAdd t (256 * fieldAt (s.lvlTrigger slot) 6 2)
        let s := s.modLvlSlot slot fun q =>
          match s.oldTrigger slot with
          | some (v, _, b) => { q with trigWas := some (v, none, b) }
          | none => { q with timerNext := some next, trigWas := none }
        fireTrigger slot 1 t none s
      else s
    | none => s

/-- A slot's timer starts from the next round boundary (10 R313). -/
def startTimer (n : Nat) (was : Option (List Byte × Option Time × Time)) (s : State) : State :=
  let v := s.param (0x620 + n)
  s.modLvlSlot n fun q => { q with
    timerNext := if byteAt v 0 = 1 then some (tAdd (nextRound s.now) (256 * fieldAt v 6 2)) else none, trigWas := was }

/-- A write of trigger_n, with the entry before it: it acts at the next round boundary, from which the timer starts (10
R313). -/
def triggerWritten (n : Nat) (old : List Byte) (s : State) : State :=
  let was := match s.oldTrigger n with
    | some w => w
    | none => (old, (s.lvl.slots.getD n .initial).timerNext, nextRound s.now)
  startTimer n (some was) s

/-- LEVEL_REQUEST_ELIGIBLE (10 R314, R317). -/
def execLevelRequestEligible (tk : Tick) (slot : Nat) (s : State) : Host.Outcome State Fault Refusal :=
  runAt tk s fun s =>
    pd5Check { s with lvl := { s.lvl with
      queue := s.lvl.queue.map fun (q : LvlReq) =>
        if q.slot = slot ∧ reached s.now q.eligible then { q with ready := true } else q } }

/-! ## Excitation (10 R306 to R310) -/

/-- The test of 10 R309. -/
def tooFastTest (s : State) (entry : List Byte) (wait : Nat) : Bool :=
  let h := s.lvl.excH
  edgeActs entry && h != 0 && decide (256 * h < wait + respSettle (byteAt entry 3) * finePeriod entry)

/-- EXC_TOO_FAST is raised (10 R309). -/
def raiseTooFast (slot : Nat) (entry : List Byte) (s : State) : State :=
  let settle := respSettle (byteAt entry 3) * finePeriod entry / 256
  tally 0x601 (d48 [(8, slot), (8, 0), (16, s.lvl.excH), (16, settle)])
    (levelRecord 1 slot (byteAt entry 0) 0 0 { s with lvl := { s.lvl with tooFast := true } })

/-- The cause clears when a change makes the test fail. -/
def recheckTooFast (s : State) : State :=
  match s.lvl.running with
  | some r =>
    let wait := match r.req.edgeT with | some e => since r.startT e | none => 0
    if s.lvl.tooFast ∧ !tooFastTest s (s.lvlEntry r.req.slot) wait then { s with lvl := { s.lvl with tooFast := false } } else s
  | none => { s with lvl := { s.lvl with tooFast := false } }

/-- An open block. -/
def openBlock : SpanBits := ⟨false, false, false⟩

/-- The fine path starts afresh at an instant (05 R133). -/
def fineFresh (t : Time) (r : LvlRun) : LvlRun :=
  let z := List.replicate (sincOrder (byteAt r.entry 3)) 0
  { r with fineT := t, lowRun := 0, coarseMax := 0, overload := false, fineBits := [openBlock], fineAcc := z, fineComb := z }

/-- The fine path restarts at an edge; what the auto-range decision takes of the interval since the fine boundary stays (10
R308, R311). -/
def fineEdge (t : Time) (r : LvlRun) : LvlRun := { fineFresh t r with coarseMax := r.coarseMax, overload := r.overload }

/-- The fast path starts afresh at an instant. -/
def fastFresh (t : Time) (r : LvlRun) : LvlRun :=
  { r with fastT := t, fastBits := [openBlock], fastAcc := [0, 0], fastComb := [0, 0] }

/-- The instant of an edge: a round boundary (10 R308). -/
def edgeInstant (t : Time) : Time := if t.toNat % 32 = 0 then t else nextRound t

/-- An edge restarts the fine path, and where an auto-range step has fallen on its instant the fast path too, at the new gain
(10 Table 10.10). -/
def edgeRestart (e : Time) (r : LvlRun) : LvlRun :=
  let r := fineEdge e { r with pendEdge := none }
  if r.stepT = some e then fastFresh e r else r

/-- An edge acts on the running conversion (10 R308): the fine path restarts there, after a sample that completes at it. -/
def edge (s : State) : State :=
  match s.lvl.running with
  | some r =>
    if edgeActs r.entry then
      let e := edgeInstant s.now
      let r := { r with
        firstEdge := match r.firstEdge with | some f => some f | none => some e
        edges := e :: r.edges.filter fun q => decide (since e q ≤ 1024) }
      let r := if r.roundT = some e then edgeRestart e r else { r with pendEdge := some e }
      { s with lvl := { s.lvl with running := some r } }
    else s
  | none => s

/-- The polarity of the excitation changes (10 R307). -/
def setReversed (b : Bool) (s : State) : State :=
  if s.lvl.reversed = b then s else { s with lvl := { s.lvl with reversed := b, flipT := some s.now } }

/-- The polarity over the 32 ticks up to now, which the modulator sample taken now reflects (10 R308). -/
def samplePolarity (s : State) : Bool := if s.lvl.flipT = some s.now then !s.lvl.reversed else s.lvl.reversed

/-- Excitation follows its parameters at a beat boundary, from which they act (10 R306, R307, R328). -/
def exciteBeat (s : State) : State :=
  let h := s.pnat 0x612
  let changed := h != s.lvl.excH
  let s := pd5Check { s with lvl := { s.lvl with excIn := s.pnat 0x611 == 1, excH := h } }
  let s := if changed then recheckTooFast s else s
  if !s.lvl.pd5 then s
  else
    let want := s.lvl.excIn && !s.lvl.tripped
    if want && !s.lvl.excOn then
      let s := setReversed false s
      edge { s with lvl := { s.lvl with
        excOn := true, excT := s.now, halfPeriod := h
        nextEdge := if h = 0 then none else some (tAdd s.now (256 * h)) } }
    else if !want && s.lvl.excOn then
      let s := setReversed false s
      edge { s with lvl := { s.lvl with excOn := false, nextEdge := none, halfPeriod := 0 } }
    else if s.lvl.excOn && h != s.lvl.halfPeriod then
      let m := since s.now s.lvl.excT / (256 * h) + 1
      let v := setReversed (s.lvl.reversed && h != 0) s
      let s' := { v with lvl := { v.lvl with
        halfPeriod := h
        nextEdge := if h = 0 then none else some (tAdd s.lvl.excT (m * 256 * h)) } }
      if s.lvl.reversed && h == 0 then edge s' else s'
    else s

/-- BEAT_EDGE (02 R30; 10 R306). -/
def execBeatEdge (count : Nat) (s : State) : Host.Outcome State Fault Refusal :=
  .next (settle (sealed s (exciteBeat (beatEdge count { s with casc := { s.casc with out := [] } }))))

/-- Does an edge to a polarity fire a trigger (10 Table 10.3)? -/
def edgeSelects (select : Nat) (reversed : Bool) : Bool :=
  select == 0 || (select == 1 && !reversed) || (select == 2 && reversed)

/-- EXCITATION_REVERSAL (10 R307, R308). -/
def execExcitationReversal (tk : Tick) (s : State) : Host.Outcome State Fault Refusal :=
  runAt tk s fun s =>
    match s.lvl.nextEdge with
    | some t =>
      if s.lvl.excOn ∧ reached s.now t then
        let rev := !s.lvl.reversed
        let s := setReversed rev s
        let s := edge { s with lvl := { s.lvl with nextEdge := some (tAdd t (256 * s.lvl.halfPeriod)) } }
        ((triggersOf s 2).filter fun n => edgeSelects (byteAt (s.lvlTrigger n) 1) rev).foldl
          (fun s n => fireTrigger n 2 t (some t) s) s
      else s
    | none => s

/-- EXCITATION_OVERCURRENT (10 R310). -/
def execExcitationOvercurrent (tk : Tick) (s : State) : Host.Outcome State Fault Refusal :=
  runAt tk s fun s =>
    if s.lvl.excOn then
      let s := setReversed false s
      let s := edge { s with lvl := { s.lvl with
        excOn := false, nextEdge := none, halfPeriod := 0, tripped := true, overcurrent := true } }
      tally 0x605 0 (levelRecord 4 0xFF 0xFF 0 0 s)
    else s

/-! ## Starting and ending a conversion (10 R314, R317, R318) -/

/-- The conversion proper starts: both paths restart at the entry's gain; a detector slot keeps its state (05 Table 5.5).
A restart ends RANGE_CHANGE, also where it follows an auto-range step at whose gain no settled fine value has come yet
(05 R144; log 94). -/
def startPaths (r : LvlRun) (s : State) : State :=
  let g := byteAt r.entry 1
  detPush (.gain r.req.slot g) { s with lvl := { s.lvl with running := some (fastFresh s.now (fineFresh s.now { r with
    checking := false, gain := g, rangeChange := false, stepT := none, edges := r.edges.filter fun e => reached e s.now
    pendEdge := r.pendEdge.filter fun e => !reached s.now e })) } }

/-- The open-wire check starts: the fast path runs at gain 1 (10 R318). -/
def startCheck (r : LvlRun) (s : State) : State :=
  { s with lvl := { s.lvl with running := some (fastFresh s.now { r with
      checking := true, checkT := s.now, gain := 0, owCode := none }) } }

/-- A request is served. -/
def startConversion (q : LvlReq) (s : State) : State :=
  let entry := s.lvlEntry q.slot
  let s := { s with lvl := { s.lvl with queue := s.lvl.queue.filter fun p => p.slot != q.slot } }
  if byteAt entry 0 = 0xFF then pd5Check s
  else
    let wait := match q.edgeT with | some e => since s.now e | none => 0
    let fast := tooFastTest s entry wait
    let r : LvlRun :=
      { req := q, entry := entry, checking := bitAt (byteAt entry 5) 2, startT := s.now, fineT := s.now
        fastT := s.now, gain := 0, delivered := 0, lowRun := 0, coarseMax := 0, overload := false
        fineBits := [openBlock], fastBits := [openBlock], rangeChange := false, openWire := false
        tooFast := fast, firstEdge := none, checkT := s.now, stepT := none, stopReq := false, restart := false, fineAcc := [], fineComb := []
        fastAcc := [0, 0], fastComb := [0, 0], owCode := none, edges := [], pendEdge := none, roundT := some s.now }
    let s := { s with lvl := { s.lvl with running := some r } }
    let s := if fast then raiseTooFast q.slot entry s else s
    if r.checking then startCheck r s else startPaths r s

/-- May a conversion start now (02 R28; 10 R314, R317)? -/
def mayStart (s : State) : Bool :=
  s.lvl.running.isNone && s.lvl.pd5 && reached s.now (tAdd s.lvl.pd5Since 512) && !s.tbFault &&
    s.now.toNat % 32 == 0 && (match s.lvl.lastEnd with | some t => reached s.now t | none => true)

/-- LEVEL_CONVERSION_START (10 R314). -/
def execLevelConversionStart (tk : Tick) (s : State) : Host.Outcome State Fault Refusal :=
  runAt tk s fun s =>
    match s.lvl.queue.find? (·.ready) with
    | some q => if mayStart s then startConversion q s else s
    | none => s

/-- The running conversion ends. -/
def endConversion (s : State) : State :=
  pd5Check { s with lvl := { s.lvl with running := none, lastEnd := some s.now, tooFast := false } }

/-- Largest code of the coarse value and the open-wire limit (10 R311, R318). -/
def codeMax : Int := 8388607
def codeHigh : Nat := 7549747

/-- OPEN_WIRE_CHECK_END (10 R318): the check of `slot` reads the coarse value that completes 2,048 ticks after the start. -/
def execOpenWireCheckEnd (tk : Tick) (slot : Nat) (s : State) : Host.Outcome State Fault Refusal :=
  runAt tk s fun s =>
    match s.lvl.running with
    | some r =>
      match r.owCode with
      | some code =>
        if r.checking ∧ slot = r.req.slot ∧ reached s.now (tAdd r.checkT 2048) then
          let bad := decide (codeHigh ≤ code.natAbs)
          let n := r.req.slot
          let input := byteAt r.entry 0
          let s := s.modLvlSlot n fun q => { q with owFault := bad }
          let s := if bad then tally 0x602 (d48 [(8, n), (8, input), (32, unsigned 32 code)]) (levelRecord 2 n input 0 code s) else s
          startPaths { r with openWire := bad } s
        else s
      | none => s
    | none => s

/-! ## Values (10 R319 to R323) -/

/-- A polynomial in x of a column of coefficients. -/
def linCol (lin : List Byte) (x j : Nat) : Nat :=
  let c := fun (i : Nat) => fieldAt lin (4 * (4 * j + i)) 4
  f32Add (c 0) (f32Mul x (f32Add (c 1) (f32Mul x (f32Add (c 2) (f32Mul x (c 3))))))

/-- y of 10 R320 in binary32. -/
def linearise (lin : List Byte) (x t : Nat) : Nat :=
  let y := f32Add (linCol lin x 0) (f32Mul t (f32Add (linCol lin x 1) (f32Mul t (linCol lin x 2))))
  if f32Finite y then y else f32NaN

/-- t of 10 R320: binary32, in 1/256 degree, and whether it fell back. DESIGN CHOICE (log 78): a value aged exactly 10 s is
still used, as 'no older than 10 s' says, where the half-open windows of 02 R50 would leave it out. -/
def linTemp (s : State) (entry : List Byte) : Nat × Int × Bool :=
  let die := (f32OfRat s.base.tDie 256, s.base.tDie)
  let src := byteAt entry 9
  if src = 0xFF then (die.1, die.2, false)
  else match (s.lvl.slots.getD src .initial).value with
  | some (v, t) =>
    if since s.now t ≤ 10 * 8388608 then (v, tempOf v, false) else (die.1, die.2, true)
  | none => (die.1, die.2, true)

/-- Has a slot a discarded record since its last written one? A slot of this tile is its number, one of another tile that
number and 16 times the tile (10 R323; 09 R296). -/
def State.slotLost (s : State) (slot : Nat) : Bool :=
  if slot < 16 then (s.lvl.slots.getD slot .initial).lost else s.lvl.lostFar.contains slot

/-- Note it, or that LOST has been written. -/
def State.setLost (s : State) (slot : Nat) (b : Bool) : State :=
  if slot < 16 then s.modLvlSlot slot fun q => { q with lost := b }
  else
    let rest := s.lvl.lostFar.filter (· != slot)
    { s with lvl := { s.lvl with lostFar := if b then slot :: rest else rest } }

/-- A Level result record leaves the queue or is new: LOST is set once after a loss (10 R323). -/
def writeLevel (slot : Nat) (bs : List Byte) (s : State) : State :=
  let lost := s.slotLost slot
  let bs := if lost then modAt bs 13 fun b => b ||| 2 else bs
  let s := if lost then s.setLost slot false else s
  if s.casc.role = .member then sendMsg 0x0E 0 (.bytes bs) s else raise 8 (writeReport bs .plain s)

/-- A new result record: written, or queued, or discarded. -/
def postLevel (slot : Nat) (bs : List Byte) (s : State) : State :=
  if s.casc.role = .member ∨ (s.lvl.waiting.isEmpty ∧ s.reportFits 32) then writeLevel slot bs s
  else if s.lvl.waiting.length < 4 then { s with lvl := { s.lvl with waiting := s.lvl.waiting ++ [(slot, bs)] } }
  else tally 0x604 (d48 [(8, slot % 16)]) (s.setLost slot true)

/-- LEVEL_QUEUED_RECORD_WRITE (10 R323). -/
def execLevelQueuedRecordWrite (tk : Tick) (s : State) : Host.Outcome State Fault Refusal :=
  runAt tk s fun s =>
    match s.lvl.waiting with
    | (slot, bs) :: rest =>
      if s.pwr.pd1 ∧ s.reportFits 32 then writeLevel slot bs { s with lvl := { s.lvl with waiting := rest } } else s
    | [] => s

/-- Clamp a raw code (10 R312). -/
def takeCode (raw : Int) : Int × Bool := (clampInt (-codeMax) codeMax raw, decide (codeMax < (raw.natAbs : Int)))

/-- Bits 8:1 of the flags of a value, but for T_FALLBACK (10 Table 10.5). -/
def valueFlags (s : State) (r : LvlRun) (v : LvlValue) : Nat :=
  let unsettled := byteAt r.entry 4 == 0 &&
    (r.req.bufOff || !s.bufOnNow || !reached s.now (bufSettleT s))
  bitOf v.coarse 1 + bitOf v.settling 2 + bitOf unsettled 3 + bitOf (r.openWire || v.span.refLow) 4 +
    bitOf v.span.refNeg 5 + bitOf (v.clip || v.span.clip) 6 + bitOf r.rangeChange 7

/-- Instants of a value's stamp (02 R46; 05 R143). -/
def valueStamp (s : State) (r : LvlRun) (coarse : Bool) : Time :=
  if coarse then s.now - 512
  else s.now - BitVec.ofNat 56 (respDelay4 (byteAt r.entry 3) * finePeriod r.entry / 4)

/-- A record is formed of a value; a valid one also gives the slot's linearised value and feeds the sources of
06 R174. -/
def emitValue (h : LvlHeld) (s : State) : State :=
  let r := h.run
  let v := h.value
  let n := r.req.slot
  let q := s.lvl.slots.getD n .initial
  let t := linTemp s r.entry
  let x := f32OfRat v.code (2 ^ (23 + r.gain))
  let y := linearise (s.lvlParam (0x640 + n)) x t.1
  let flags := h.flags
  let resp := byteAt r.entry 3 + bitOf v.coarse 7
  let bs := [5] ++ leBytes 1 n ++ leBytes 2 32 ++ leSigned 4 v.code ++ leBytes 4 y ++
    leBytes 2 (flags + bitOf t.2.2 8) ++ leBytes 1 r.gain ++ leBytes 1 resp ++
    leBytes 8 (s.stampOf h.stamp).toNat ++ leBytes 1 (byteAt r.entry 2) ++ leBytes 1 r.req.source ++
    leBytes 1 q.missed ++ leBytes 1 s.tileNo ++ leSigned 2 t.2.1 ++ leBytes 2 q.seq.toNat
  let kept := decide (s.casc.role = .member) || (s.lvl.waiting.isEmpty && s.reportFits 32) ||
    decide (s.lvl.waiting.length < 4)
  let valid := flags &&& 0x5E == 0 && !f32IsNaN y
  let s := postLevel n bs s
  let s := s.modLvlSlot n fun q => { q with
    seq := if kept then q.seq + 1 else q.seq, missed := if kept then 0 else q.missed
    value := if valid then some (y, h.doneT) else q.value }
  if !valid then s
  else
    let s := if s.base.tempSrc = 1 ∧ s.base.tempChan = n then tempReading 1 (tempOf y) s else s
    if s.base.humidSrc = 1 ∧ s.base.humidChan = n then humidReading 1 (tempOf y) s else s

/-- What a value's span says of the reference (10 R319): REF_MISSING and REVERSED_EXC follow it. -/
def refTests (r : LvlRun) (v : LvlValue) (s : State) : State :=
  if byteAt r.entry 4 ≠ 1 then s
  else
    let n := r.req.slot
    let input := byteAt r.entry 0
    let s := if v.span.refLow && !s.lvl.refMissing then
        tally 0x606 (d48 [(8, n)]) (levelRecord 3 n input 0 v.code { s with lvl := { s.lvl with refMissing := true } })
      else if !v.span.refLow then { s with lvl := { s.lvl with refMissing := false } }
      else s
    if v.span.refNeg = (s.lvl.slots.getD n .initial).reversedRun then s
    else
      let s := s.modLvlSlot n fun q => { q with reversedRun := v.span.refNeg }
      tally 0x607 (d48 [(8, n), (8, bitOf v.span.refNeg 0)]) (levelRecord 5 n input (bitOf v.span.refNeg 0) v.code s)

/-- What the blocks of a span saw. -/
def spanOf (bs : List SpanBits) : SpanBits := ⟨bs.any (·.clip), bs.any (·.refLow), bs.any (·.refNeg)⟩

/-- A block takes what a round saw. -/
def addBits (b : SpanBits) (l : List SpanBits) : List SpanBits :=
  match l with
  | [] => [b]
  | a :: r => ⟨a.clip || b.clip, a.refLow || b.refLow, a.refNeg || b.refNeg⟩ :: r

/-! ## Hand-over (05 R129) -/

/-- One value is handed to the converter: what it says of the reference, and its record. -/
def handOne (s : State) (h : LvlHeld) : State :=
  let s := refTests h.run h.value s
  if h.give then emitValue h s else s

/-- Is a value of a conversion that a stop ends, which gives no further record (10 R315)? -/
def heldStopped (s : State) (h : LvlHeld) : Bool :=
  match s.lvl.running with | some r => r.stopReq && r.req.slot == h.run.req.slot | none => false

/-- Values are handed over 32 ticks after their last modulator sample, in the order of their completion. -/
def handOver (s : State) : State :=
  let due := s.lvl.held.filter fun h => reached s.now (tAdd h.doneT 32)
  let rest := s.lvl.held.filter fun h => !reached s.now (tAdd h.doneT 32)
  (due.filter fun h => !heldStopped s h).foldl handOne { s with lvl := { s.lvl with held := rest } }

/-- A value that completes now is held. -/
def holdValue (r : LvlRun) (v : LvlValue) (give : Bool) (s : State) : State :=
  { s with lvl := { s.lvl with held := s.lvl.held ++
      [⟨r, v, s.now, valueStamp s r v.coarse, valueFlags s r v, give⟩] } }

/-! ## The round (05 R128; 10 R311) -/

/-- Steps down of an auto-range decision for the largest magnitude. -/
def stepsDown (m : Nat) : Nat := ((List.range 8).find? fun j => decide (1 ≤ j) && decide (m / 2 ^ j < 2 ^ 22 ∧ m < 2 ^ (22 + j))).getD 7

/-- The gain after a fine boundary (10 R311). -/
def nextGain (r : LvlRun) (m : Nat) : Nat :=
  if !bitAt (byteAt r.entry 5) 0 then r.gain
  else if codeHigh ≤ m then
    if r.gain ≤ byteAt r.entry 6 then r.gain else max (byteAt r.entry 6) (r.gain - stepsDown m)
  else if 4 ≤ r.lowRun then
    if byteAt r.entry 7 ≤ r.gain then r.gain else r.gain + 1
  else r.gain

/-- Is a coarse value that completes now one that R322 delivers? -/
def coarseDelivered (s : State) (r : LvlRun) (fineSettled : Bool) : Bool :=
  let c := byteAt r.entry 8
  let u := since s.now r.fastT
  let a := since r.fineT r.fastT
  let first := max 1024 (512 * (a / 512 + 1))
  let held := r.edges.any fun e => decide (since s.now e ≤ 1024) && e != s.now
  c != 0 && !fineSettled && !held && (u - first) / 512 % 2 ^ (c - 1) == 0

/-- A fine boundary after its value: the auto-range decision (10 R311; 05 Table 5.5). -/
def autoRange (r : LvlRun) (m : Nat) (s : State) : State :=
  let g := nextGain r m
  if g = r.gain then { s with lvl := { s.lvl with running := some { r with coarseMax := 0, overload := false } } }
  else
    let r := fineFresh s.now { r with gain := g, rangeChange := true, stepT := some s.now }
    detPush (.rescale r.req.slot g) { s with lvl := { s.lvl with running := some r } }

/-- A Level restart: the conversion goes on by the entry as it now stands, or ends where that is disabled; in the open-wire
check the check starts again (10 R303, R318; 05 Table 5.5). `stepped` says that an auto-range step falls on the same boundary:
the values from there on carry RANGE_CHANGE when the gain differs from the previous sample's (05 R147). -/
def restartRun (stepped : Bool) (r : LvlRun) (s : State) : State :=
  let entry := s.lvlEntry r.req.slot
  if byteAt entry 0 = 0xFF then endConversion s
  else
    let q := { r with entry := entry, restart := false }
    if r.checking && bitAt (byteAt entry 5) 2 then recheckTooFast (startCheck q s)
    else
      let s := startPaths q s
      let s := match s.lvl.running with
        | some v => { s with lvl := { s.lvl with running := some { v with rangeChange := stepped && v.gain != r.gain } } }
        | none => s
      recheckTooFast s

/-- The conversion at a boundary after its values: it ends, yields, or restarts with a changed entry
(10 R303, R314, R315). -/
def boundary (fineEnd : Bool) (m : Nat) (s : State) : State :=
  match s.lvl.running with
  | none => s
  | some r =>
    let other := s.lvl.queue.any (·.ready)
    if r.stopReq then endConversion s
    else if fineEnd ∧ r.req.count ≠ 0 ∧ r.req.count ≤ r.delivered then endConversion s
    else if fineEnd ∧ r.req.count = 0 ∧ other then
      let s := endConversion (if r.restart then s else autoRange r m s)
      if s.lvl.queue.any fun q => q.slot == r.req.slot then s
      else pd5Check (enqueueReq { r.req with eligible := s.now, urgent := false, edgeT := none, ready := true } s)
    else if r.restart then restartRun (fineEnd && nextGain r m != r.gain) r s
    else if fineEnd then autoRange r m s
    else s

/-- The modulator sample of a round: plus or minus one, negated in a reversed half-period on an EXCITED slot with ref 0 (10
R307). -/
def sampleOf (inp : RoundIn) (r : LvlRun) (s : State) : Int :=
  let x : Int := if inp.bit then 1 else -1
  if byteAt r.entry 4 == 0 && bitAt (byteAt r.entry 5) 3 && samplePolarity s then -x else x

/-- A round of the open-wire check: the fast path alone (10 R318). -/
def checkRound (inp : RoundIn) (r : LvlRun) (s : State) : State :=
  if r.stopReq then endConversion s
  else if r.restart then restartRun false r s
  else
    let u := since s.now r.fastT
    let acc := if 0 < u then sincFeed (sampleOf inp r s) r.fastAcc else r.fastAcc
    let out := sincOut acc r.fastComb
    let fastEnd := decide (0 < u) && u % 512 == 0
    { s with lvl := { s.lvl with running := some { r with
        fastAcc := acc, fastComb := if fastEnd then out.2 else r.fastComb, roundT := some s.now
        owCode := if u = 2048 then some (takeCode (coarseCode out.1)).1 else r.owCode } } }

/-- A fine path whose edge has passed without its round restarts there (10 R308). -/
def lateEdge (r : LvlRun) (s : State) : LvlRun :=
  match r.pendEdge with
  | some e => if e != s.now && reached s.now e then fineEdge e { r with pendEdge := none } else r
  | none => r

/-- The edge of this instant restarts the fine path, once a sample that completes here has been taken (10 R308). -/
def nowEdge (s : State) : State :=
  match s.lvl.running with
  | some r =>
    if r.pendEdge = some s.now then
      { s with lvl := { s.lvl with running := some (edgeRestart s.now r) } }
    else s
  | none => s

/-- One round of the running conversion. -/
def levelRound (inp : RoundIn) (s : State) : State :=
  match s.lvl.running with
  | none => s
  | some r =>
    if r.checking then checkRound inp r s
    else
      let r := lateEdge r s
      let ref := byteAt r.entry 4 == 1
      let b : SpanBits := ⟨inp.overload, ref && decide (inp.refMin < 500),
        ref && decide (500 ≤ inp.refMin) && inp.refNeg != samplePolarity s⟩
      let t := since s.now r.fineT
      let u := since s.now r.fastT
      let p := finePeriod r.entry
      let fineEnd := decide (0 < t) && t % p == 0
      let settle := respSettle (byteAt r.entry 3)
      let settled := decide (settle * p ≤ t)
      let fastEnd := decide (0 < u) && u % 512 == 0
      let coarseEnd := fastEnd && decide (1024 ≤ u)
      let x := sampleOf inp r s
      let fineAcc := if 0 < t then sincFeed x r.fineAcc else r.fineAcc
      let fastAcc := if 0 < u then sincFeed x r.fastAcc else r.fastAcc
      let fo := sincOut fineAcc r.fineComb
      let co := sincOut fastAcc r.fastComb
      let r := { r with
        fineBits := if 0 < t then addBits b r.fineBits else r.fineBits
        fastBits := if 0 < u then addBits b r.fastBits else r.fastBits, overload := r.overload || (inp.overload && decide (0 < t))
        fineAcc := fineAcc, fineComb := if fineEnd then fo.2 else r.fineComb
        fastAcc := fastAcc, fastComb := if fastEnd then co.2 else r.fastComb, roundT := some s.now }
      let raw := if fineEnd then fineCode (byteAt r.entry 3) (byteAt r.entry 2) fo.1 s else (0, s)
      let s := raw.2
      let fine := takeCode raw.1
      let coarse := takeCode (coarseCode co.1)
      let fv : LvlValue := ⟨fine.1, fine.2, false, !settled, spanOf (r.fineBits.take settle)⟩
      let cv : LvlValue := ⟨coarse.1, coarse.2, true, false, spanOf (r.fastBits.take 2)⟩
      let give := fineEnd && !r.tooFast && (settled || (bitAt (byteAt r.entry 5) 1 && (r.firstEdge.isNone || r.firstEdge == some s.now)))
      let s := if fineEnd then holdValue r fv give s else s
      let s := if fineEnd && settled then
          detLevel r.req.slot fine.1 (valueStamp s r false) s else s
      let s := if coarseEnd then holdValue r cv (coarseDelivered s r settled) s else s
      let m := max (max fine.1.natAbs (if coarseEnd then max r.coarseMax coarse.1.natAbs else r.coarseMax))
        (if r.overload then 2 ^ 24 else 0)
      let r := { r with
        delivered := if give && settled then r.delivered + 1 else r.delivered
        coarseMax := if coarseEnd then max r.coarseMax coarse.1.natAbs else r.coarseMax
        fastBits := if fastEnd then (openBlock :: r.fastBits).take 2 else r.fastBits
        fineBits := if fineEnd then (openBlock :: r.fineBits).take 5 else r.fineBits
        lowRun := if fineEnd && settled then (if fine.1.natAbs < 1677721 then r.lowRun + 1 else 0) else r.lowRun
        rangeChange := r.rangeChange && !(fineEnd && settled) }
      nowEdge (boundary fineEnd m { s with lvl := { s.lvl with running := some r } })

/-- PLANE_SERVICE_ROUND (05 R128): at a multiple of 32 ticks. What the last round left to its end acts first: the changes of
the detector slots, then the hand-over. -/
def execPlaneServiceRound (tk : Tick) (inp : RoundIn) (s : State) : Host.Outcome State Fault Refusal :=
  runAt tk s fun s => if s.now.toNat % 32 = 0 then levelRound inp (handOver (detTurn s)) else s

/-! ## What commands of Bench set off -/

/-- A write of level_slot_n: a Level restart of its conversion at the next round boundary (10 R303). -/
def slotWritten (n : Nat) (s : State) : State :=
  match s.lvl.running with
  | some r => if r.req.slot = n then { s with lvl := { s.lvl with running := some { r with restart := true } } } else s
  | none => s

/-- A write of detector_n: it acts at the next round boundary (05 R149). -/
def detectorWritten (n : Nat) (s : State) : State :=
  let s := detTurn s
  { s with plane := { s.plane with detNew := s.plane.detNew.filter (· != n) ++ [n] } }

/-- The coefficients that LEVEL_CONFIG loads for an input (10 R321). -/
def linLoad (input : Nat) : List Byte :=
  let two := fun (a b : Nat) => leBytes 4 a ++ leBytes 4 b ++ List.replicate 40 0
  if input = 0x20 then two Config.trimC00 Config.trimC10
  else if input = 0x21 then two 0 Config.trimRef4
  else two 0 0x3F800000

/-- LEVEL_CONVERT's request (10 R314, R327): eligible a trigger entry's delay after the command; it takes the place
of the slot's queued one (log 40). -/
def convertRequest (n count : Nat) (urgent : Bool) (s : State) : State :=
  let v := s.lvlTrigger n
  let s := { s with lvl := { s.lvl with queue := s.lvl.queue.filter fun q => q.slot != n } }
  pd5Check (enqueueReq { slot := n, eligible := tAdd s.now (fieldAt v 4 2), urgent := urgent, source := 0
                         count := if count = 0 then byteAt v 2 else count, edgeT := none
                         bufOff := s.pnat 0x610 == 0, ready := false } s)

/-- LEVEL_CONVERT with stop (10 R315): the slot's request goes and its conversion ends at the next round boundary. -/
def convertStop (n : Nat) (s : State) : State :=
  let s := { s with lvl := { s.lvl with queue := s.lvl.queue.filter fun q => q.slot != n } }
  let s := match s.lvl.running with
    | some r => if r.req.slot = n then { s with lvl := { s.lvl with running := some { r with stopReq := true } } } else s
    | none => s
  pd5Check s

/-! ## Inputs, reference and currents (10 R302, R304, R306, R307, R318) -/

/-- What the converter's inputs join. -/
inductive LevelPin where
  | ain (k : Nat)
  | agnd
  | dieSensor
  /-- VDD/4 -/
  | supply
  | refs
  /-- the internal 1.25 V bandgap through the reference buffer -/
  | bandgap
  | free
  deriving DecidableEq, Repr

/-- The positive and the negative input of an input code (10 Table 10.1). -/
def inputPins (input : Nat) : LevelPin × LevelPin :=
  if input ≤ 3 then (.ain (2 * input), .ain (2 * input + 1))
  else if within 0x10 0x17 input then (.ain (input - 0x10), .agnd)
  else if input = 0x20 then (.dieSensor, .free)
  else if input = 0x21 then (.supply, .agnd)
  else (.free, .free)

/-- The inputs that the running conversion joins. -/
def State.levelPins (s : State) : LevelPin × LevelPin :=
  match s.lvl.running with | some r => inputPins (byteAt r.entry 0) | none => (.free, .free)

/-- The modulator's reference (10 R304). -/
def State.levelRef (s : State) : LevelPin :=
  match s.lvl.running with | some r => if byteAt r.entry 4 = 1 then .refs else .bandgap | none => .free

/-- The excitation: none while off, else whether EXC_P is the high one (10 R306, R307). -/
def State.excitation (s : State) : Option Bool := if s.lvl.excOn then some (!s.lvl.reversed) else none

/-- The open-wire currents, on only in the check: microamperes up on the positive input and down on the negative, up alone on
a single-ended one (10 R318). -/
def State.openWireCurrents (s : State) : Int × Int :=
  match s.lvl.running with
  | some r =>
    let i : Int := if leVal (s.lvlParam 0x613) = 1 then 10 else 1
    if r.checking then (i, if (inputPins (byteAt r.entry 0)).2 = .agnd then 0 else -i) else (0, 0)
  | none => (0, 0)

/-- The Level restart of a SYNC re-lock (05 Table 5.5). -/
def levelRelock (s : State) : State :=
  match s.lvl.running with
  | some r => { s with lvl := { s.lvl with running := some { r with restart := true } } }
  | none => s

end Sys2Proof.Machine
end

