-- ==== Sys2Proof/Machine/Lines.lean ====
section
/-! DEFINITION. Chapter 03: what every drive output, GUARD and sense input does at each instant (R64 to R79), as
functions of the state: the code waveform and its edges, charge recycling, the self pass, the capture windows and the
read-out of the sense groups. -/

namespace Sys2Proof.Machine

/-! ## Where the drive stage stands (04 R102) -/

/-- The place of an instant in the frame in progress. -/
inductive FramePos where
  /-- no pass: the housekeeping gap, or no frame -/
  | gap
  /-- in the self pass, ticks from its start -/
  | self (off : Nat)
  /-- in mutual pass `i`, chip `n`, ticks from the chip boundary -/
  | chip (i n off : Nat)
  deriving DecidableEq, Repr

/-- Ticks from the start of the detection self pass, while it runs (03 R83, R79). -/
def State.detectOff (s : State) (t : Time) : Option Nat :=
  match s.scan.detectT with
  | some d => if s.scan.phase = .waitDetect ∧ since t d < 4096 then some (since t d) else none
  | none => none

/-- The place of the present instant. A self pass is the frame's, or the detection self pass of a start. -/
def framePos (s : State) : FramePos :=
  let off := since s.now s.scan.frameT
  match s.detectOff s.now with
  | some o => .self o
  | none =>
    if s.scan.stage ≠ .started ∨ !s.scanning then .gap
    else if off < s.selfTicks then .self off
    else
      let i := s.scan.passesStarted - 1
      let o := off - s.passBegan i
      if s.scan.passesStarted = 0 ∨ off < s.passBegan i ∨ s.len * s.passK i ≤ o then .gap
      else .chip i (o / s.passK i) (o % s.passK i)

/-! ## The code waveform and its edges (03 R68 to R70) -/

/-- Is a line of code row `r` high in the first half of chip `n`? A line whose bit is +1 rises at the chip boundary and
falls at mid-chip; one whose bit is −1 falls at the boundary and rises at mid-chip (03 R68). -/
def firstHalf (r n : Nat) : Bool := codeBit r n == 1

/-- The level of a line of code row `r` before chip `n`: that of the second half of the chip before it; before chip 0 the
level from which its first edge leaves (03 R68). -/
def levelBefore (r n : Nat) : Bool := if n = 0 then !firstHalf r 0 else !firstHalf r (n - 1)

/-- The edge time in ticks of a pass with chip period `k`: edge_ticks, or the largest allowed value not above
floor(k/8), and never less than 1 (03 R70). -/
def edgeTime (want k : Nat) : Nat := maxNat (1 :: [1, 2, 4].filter fun e => decide (e ≤ want) && decide (e ≤ k / 8))

/-- The output of a line in Code state: a rail, or the recycling bus in the middle of an edge. -/
inductive CodeOut where
  | low
  | high
  /-- both drivers off, joined to the recycling bus (03 Table 3.3) -/
  | bus
  deriving DecidableEq, Repr

/-- A rail by its level. -/
def railOut (high : Bool) : CodeOut := if high then .high else .low

/-- A changing line `p` ticks after an edge of `e` ticks began: with recycling it is on the bus for the first half of the
edge, half a tick at the 1-tick edge; without, it goes straight to its new rail (03 R69, R70, Table 3.3). -/
def edgeOut (recycle : Bool) (e p : Nat) (high : Bool) : CodeOut :=
  if recycle && decide (2 * p < e) then .bus else railOut high

/-- The output of a line of code row `r`, `o` ticks into chip `n` of period `k`. A line that does not change at an edge
stays where it is (03 R68, R69). -/
def codeOut (recycle : Bool) (want k r n o : Nat) : CodeOut :=
  let e := edgeTime want k
  let first := firstHalf r n
  if o < k / 2 then (if levelBefore r n == first then railOut first else edgeOut recycle e o first)
  else edgeOut recycle e (o - k / 2) (!first)

/-! ## The sampling aperture of Level (10 R316) -/

/-- The mutual pass in which a tick of the frame lies. -/
def State.passAt (s : State) (off : Nat) : Option Nat :=
  (List.range s.prof.passes).find? fun i => decide (s.passBegan i ≤ off) && decide (off < s.passEnded i)

/-- Does a drive or GUARD edge of the tile fall on a tick of the frame: at the chip boundaries and mid-chip, and at the end of
the last pass? -/
def State.edgeOff (s : State) (off : Nat) : Bool :=
  if off < s.selfTicks then off % 64 == 0
  else match s.passAt off with
  | some i =>
    let o := (off - s.passBegan i) % s.passK i
    o == 0 || o == s.passK i / 2
  | none => off == s.gapBegan

/-- Does one fall on an instant? -/
def State.driveEdge (s : State) (t : Time) : Bool :=
  s.scanning && (s.edgeOff (since t s.scan.frameT) || (match s.detectOff t with | some o => o % 64 == 0 | none => false))

/-- The aperture of a modulator sample of nominal instant `t`: the latest tick of [t − 8, t) that no edge's six ticks hold
(10 R316). It never enters a stamp. -/
def State.aperture (s : State) (t : Time) : Time :=
  let clear := fun (a : Time) => (List.range 6).all fun m => !s.driveEdge (a - BitVec.ofNat 56 m)
  (((List.range 8).map fun j => t - BitVec.ofNat 56 (j + 1)).find? clear).getD (t - 8)

/-! ## Self pass (03 R72, R79) -/

/-- What a sense converter is connected to in a phase of the self pass (03 Table 3.5). -/
inductive ConvIn where
  | sense (p : Nat)
  | drive (p : Nat)
  /-- the internal 10.0 pF reference -/
  | reference
  | idle
  deriving DecidableEq, Repr

/-- Converter `c` in phase `ph` (03 Table 3.5). -/
def converterIn (part : Part) (ph c : Nat) : ConvIn :=
  match ph with
  | 0 => .sense c
  | 1 => .drive c
  | 2 => if part.senseLines + c < part.driveLines then .drive (part.senseLines + c) else .idle
  | _ => .reference

/-- The phase of an instant of the self pass: four of 1,024 ticks (03 R79). -/
def selfPhase (off : Nat) : Nat := off / 1024

/-- The self-pass waveform, 8 chips of 128 ticks a phase: high in the first half of a chip, by the shape of R68 (03 R79;
log 79). -/
def selfHigh (off : Nat) : Bool := decide (off % 128 < 64)

/-- Is a line, by its word, measured in a phase? -/
def measured (part : Part) (ph w : Nat) : Bool :=
  (List.range part.senseLines).any fun c =>
    converterIn part ph c == (if w < 0x8000 then .drive w else .sense (w - 0x8000))

/-! ## Drive outputs, GUARD, sense inputs (03 Table 3.1, R72, R79, R82, R87) -/

/-- Entry of a Sill group in force (08 R237). -/
def State.sillEntry (s : State) (g : Nat) : List Byte := pIn s.part s.pwr.latched (0x410 + g)

/-- The lines of a Sill group by their words: those of its two ranges that no fault excludes (08 R237, Table 8.4). -/
def sillLines (s : State) (g : Nat) : List Nat :=
  let v := s.sillEntry g
  let span := fun (a b base : Nat) => if a = 0xFFFF then [] else (List.range (b + 1 - a)).map (base + a + ·)
  (span (fieldAt v 4 2) (fieldAt v 6 2) 0 ++ span (fieldAt v 8 2) (fieldAt v 10 2) 0x8000).filter fun w => (s.line w).cause == 0

/-- The Sill group whose oscillator a line is connected to now: that of the window that runs, on its lines (08 R238). -/
def ganged (s : State) (w : Nat) : Option Nat :=
  if s.pwr.st = 1 then s.pwr.window.bind fun e => if (sillLines s e.1).contains w then some e.1 else none else none

/-- States of a drive output (03 Table 3.1). -/
inductive DriveOut where
  | code (out : CodeOut)
  /-- follows the GUARD waveform -/
  | guard (high : Bool)
  | measured
  | parked
  | excluded
  | off
  /-- off, and connected by the Sill ganging switches to a group's oscillator (08 R238) -/
  | sill (group : Nat)
  deriving DecidableEq, Repr

/-- The state of physical drive line `p` now (03 R64, Table 3.1; R71, R82, R87; 04 Table 4.8, guard). -/
def driveOut (s : State) (p : Nat) : DriveOut :=
  let y := s.logicalOf p
  if !s.panelOn then (match ganged s p with | some g => .sill g | none => .off)
  else if s.front.driveCount ≤ p then .parked
  else if (s.line p).out || s.scan.overRows.contains y then .excluded
  else match framePos s with
  | .gap => .parked
  | .self off =>
    if measured s.part (selfPhase off) p then .measured
    else if s.prof.guard then .guard (selfHigh off) else .parked
  | .chip i n o => .code (codeOut (s.fnat 0xC0A == 1) (s.fnat 0xC09) (s.passK i) ((ownCodes s).getD y 0) n o)

/-- What GUARD does. -/
inductive GuardOut where
  /-- the self-pass waveform, 2.0 V peak-to-peak, in phase with the measured lines -/
  | wave (high : Bool)
  | agnd
  | highZ
  deriving DecidableEq, Repr

/-- GUARD now (03 R72; 04 Table 4.8, guard). -/
def guardOut (s : State) : GuardOut :=
  if !s.panelOn then .highZ
  else match framePos s with
  | .gap => .agnd
  | .self off => if s.prof.guard then .wave (selfHigh off) else .agnd
  | .chip .. => if s.fnat 0xC0B = 1 then .highZ else .agnd

/-! ## Capture windows and read-out (03 R74, R75, R78; 04 R111, R118; 00 R5) -/

/-- The legacy delay d_s of a sense channel: 0 outside legacy alignment mode (04 R118). -/
def State.legacyDelay (s : State) (p : Nat) : Nat :=
  if s.fnat 0x120 = 1 then byteAt (pIn s.part s.scan.latched 0x121) p % 64 else 0

/-- The half-windows of chip `n` of period `k` in ticks from the pass start: start of the positive one, start of the
negative one, and its end (03 R74), moved by the channel's delay (04 R118). -/
def captureWindow (k n delay : Nat) : Int × Int × Int :=
  let t0 : Int := (n * k : Nat)
  (t0 - 1 + delay, t0 + (k / 2 : Nat) - 1 + delay, t0 + (k : Nat) - 1 + delay)

/-- The windows of sense channel `p` in pass `i`. -/
def State.windowOf (s : State) (p i n : Nat) : Int × Int × Int := captureWindow (s.passK i) n (s.legacyDelay p)

/-- The chip whose capture window holds the tick that stands `o` ticks after the first chip boundary of `len` chips of period
`k`, and whether it is the positive half-window: the chip n with t_n − 1 + d ≤ o < t_(n+1) − 1 + d (03 R74; 04 R118). -/
def chipAt (k len delay : Nat) (o : Int) : Option (Nat × Bool) :=
  let w := o + 1 - (delay : Int)
  if decide (0 ≤ w) && decide (w < (len * k : Nat)) then some (w.toNat / k, decide (w.toNat % k < k / 2)) else none

/-- Ticks from an instant to a later or earlier one near it. -/
def ticksFrom (t now : Time) : Int := (now - t).toInt

/-- The instant at which the next mutual pass is to begin: the frame's next one, or the first one of a next frame without a
self pass (04 R102; 02 R62). -/
def nextPassT (s : State) : Option Time :=
  if s.scan.stage = .started then
    if s.scan.passesStarted < s.prof.passes then
      some (s.casc.passNext.getD (tAdd s.scan.frameT (s.passStart s.scan.passesStarted)))
    else none
  else if s.scan.phase = .frames ∧ (s.scan.stage = .none ∨ s.scan.stage = .written) ∧
      (profileOf s.part s.params (nextProf s)).selfPass = false then
    some (s.casc.syncNext.getD (tAdd s.scan.slotT s.scan.frameTicks))
  else none

/-- What sense channel `p` captures now: a chip of a mutual pass that has begun or is about to, at the channel's delay, or a
chip of the probe in the gap, at no delay (03 R74; 04 R111, R118). -/
def captureNow (s : State) (p : Nat) : Option (Nat × Bool) :=
  let d := s.legacyDelay p
  let begun := ((List.range s.scan.passTs.length).reverse).findSome? fun i =>
    chipAt (s.passK i) s.len d (ticksFrom (s.scan.passTs.getD i 0) s.now)
  let coming := (nextPassT s).bind fun t =>
    if ticksFrom t s.now = -1 then chipAt 8 1 d (-1) else none
  let probe := (probePlan s).bind fun c => chipAt c.2 32 0 (ticksFrom s.probeT s.now)
  match begun, coming with
  | some c, _ => some c
  | none, some c => some c
  | none, none => probe

/-- What a sense input is connected to. -/
inductive SenseIn where
  /-- the converter's virtual ground, one capture integrator connected with positive or negative sign (03 R74) -/
  | capture (integrator : Nat) (positive : Bool)
  | virtualGround
  /-- a converter measures it (03 R79) -/
  | measured
  | guard
  | agnd
  /-- its converter is disconnected from it (03 R87) -/
  | disconnected
  | off
  /-- connected by the Sill ganging switches to a group's oscillator (08 R238) -/
  | sill (group : Nat)
  deriving DecidableEq, Repr

/-- Sense input `p` now (03 R74, R79, R82, R87; 04 R111, R118). The last tick of a self pass is the first one of the window
of the chip that follows it: the self pass keeps its input to its end (log 89). -/
def senseIn (s : State) (p : Nat) : SenseIn :=
  if !s.panelOn then (match ganged s (0x8000 + p) with | some g => .sill g | none => .off)
  else if s.front.senseCount ≤ p then .agnd
  else if (s.line (0x8000 + p)).out then .disconnected
  else match framePos s with
  | .self off => if measured s.part (selfPhase off) (0x8000 + p) then .measured else .guard
  | _ =>
    match captureNow s p with
    | some (n, pos) => .capture (n % 6) pos
    | none => .virtualGround

/-- The native skew of a sense channel: 2g ticks for its group g of 8 channels; none in legacy alignment mode, where every
group begins at the same tick (03 R78; 04 R118). -/
def State.skewOf (s : State) (p : Nat) : Nat := if s.fnat 0x120 = 1 then 0 else 2 * (p / 8)

/-- The largest legacy delay of the channels in use. -/
def State.legacyMax (s : State) : Nat := maxNat ((List.range s.front.senseCount).map s.legacyDelay)

/-- The tick, from the pass start, at which channel `p` begins the balancing and read-out of chip `n`: its capture's end,
later by the group's skew, which does not move the windows (03 R75, R78). DESIGN CHOICE (log 89): in legacy alignment mode
every group begins at the same tick (04 R118), which the rule does not name: the one at which the last channel's window
ends. -/
def State.readOutStart (s : State) (p i n : Nat) : Int :=
  if s.fnat 0x120 = 1 then (captureWindow (s.passK i) n s.legacyMax).2.2
  else (s.windowOf p i n).2.2 + (s.skewOf p : Int)

/-- The tick by which the raw chip value is complete: t_(n+5) − 1 (03 R75). -/
def readOutEnd (k n : Nat) : Int := ((n + 5) * k : Nat) - 1

/-- The charge that chip `n` of a sense line captures from the swing, in 1/256 Qref: 2 · V · Σ Cm · c(n), with V in mV, Cm in fF
by line, and qref the code of Qref, 0.25 pC · 2^qref (03 R74). -/
def coupledCharge (mv qref : Nat) (cm : List (Nat × Nat)) (n : Nat) : Int :=
  Int.fdiv (512 * (mv : Int) * sumInt (cm.map fun e => (e.2 : Int) * codeBit e.1 n)) (250000 * 2 ^ qref : Nat)

end Sys2Proof.Machine
end

