-- ==== Sys2Proof/Machine/Trust.lean ====
section
/-! DEFINITION. Chapter 15: the verification of images, fuses and their changes, attestation, test access. -/

namespace Sys2Proof.Machine

/-! ## Images (14 R430 to R432; 15 R450) -/

def imgKeySlot (img : List Byte) : Nat := byteAt img 6
def imgRollback (img : List Byte) : Nat := fieldAt img 8 4
def imgPayloadLen (img : List Byte) : Nat := fieldAt img 12 4
def imgBuild (img : List Byte) : Nat := fieldAt img 16 4
def imgPayload (img : List Byte) : List Byte := (img.drop 64).take (imgPayloadLen img)
def imgHeaderDigest (img : List Byte) : List Byte := sha256 (slice img 0 64)

/-- The target bit of a part (14 Table 14.3). -/
def targetBit : Part → Nat
  | .klt3720 => 0
  | .klt3712 => 1
  | .klt3706 => 2

/-- Is the image structurally valid but for its targets (14 R432)? -/
def imgStructureOk (img : List Byte) : Bool :=
  let n := imgPayloadLen img
  img.take 4 == [0x4B, 0x4C, 0x54, 0x50] && byteAt img 4 == 1 && within 4 262016 n &&
    decide (128 + n ≤ img.length) && slice img 32 32 == sha256 (imgPayload img) &&
    (recordsOf (imgPayload img)).isSome

/-- The records of an image. -/
def imgRecords (img : List Byte) : List (Nat × List Byte) := (recordsOf (imgPayload img)).getD []

/-- The last value that an image gives an ID, of those of the right length and in range (14 R433). -/
def imgValue (part : Part) (img : List Byte) (id : Nat) : Option (List Byte) :=
  ((imgRecords img).filter fun r => r.1 == id && lengthOk part 0 r && paramRange part id r.2).getLast?.map (·.2)

/-- signer_key, when it is the first record (15 R450 step 3). -/
def signerKey (img : List Byte) : Option (List Byte) :=
  match imgRecords img with
  | (id, v) :: _ => if id = 0xA2F ∧ v.length = 64 then some v else none
  | [] => none

/-- First-key provisioning: every key slot is empty, and the image provisions its own slot with the hash of
its own signer_key (15 R465). -/
def firstKey (part : Part) (t : Trust) (img key : List Byte) : Bool :=
  (List.range 4).all (fun n => !t.programmed n) && decide (imgKeySlot img ≤ 3) &&
    match imgValue part img 0xA23 with
    | some v => byteAt v 0 == imgKeySlot img && slice v 4 32 == sha256 key
    | none => false

/-- The verdict on an image: 0, or the reason of the first step of Table 15.2 that fails (15 R450); `fresh` where the exception
of R465 may hold. -/
def verdictOf (fresh : Bool) (part : Part) (t : Trust) (img : List Byte) : Nat :=
  let k := imgKeySlot img
  if !imgStructureOk img then 1
  else if !bitAt (byteAt img 5) (targetBit part) then 2
  else match signerKey img with
  | none => 3
  | some key =>
    let first := fresh && firstKey part t img key
    if !first && !t.programmed k then 4
    else if t.revoked.getD k false then 5
    else if !first && t.keyHash.getD k [] != sha256 key then 6
    else if !ecdsaVerify key (imgHeaderDigest img) (slice img (64 + imgPayloadLen img) 64) then 7
    else if imgRollback img < t.steps then 8
    else 0

/-- The verdict at UPDATE_COMMIT, at the boot and on a member (15 R450, R465). -/
def imgVerdict (part : Part) (t : Trust) (img : List Byte) : Nat := verdictOf true part t img

/-- A verdict is reached on slot A (0), B (1) or the Tenon image (2), with its effects (15 R452). -/
def takeVerdict (slot verdict keySlot : Nat) (s : State) : State :=
  let t := s.trust
  let s := { s with trust := { t with
    verdictA := if slot = 0 then verdict else t.verdictA
    verdictB := if slot = 1 then verdict else t.verdictB
    verdictTenon := if slot = 2 then verdict else t.verdictTenon
    verdictT := s.now } }
  if verdict = 0 then s else tally 0xA10 (d48 [(8, slot), (8, verdict), (8, keySlot)]) (raise 19 s)

/-! ## Fuses (15 R453 to R456) -/

/-- The fuse work that the image in force calls for, by the records that this tile has applied (09 R274; 14 R433); requests that
are ignored are recorded (15 R453 to R455). -/
def planFuses (img : List Byte) (s : State) : State :=
  let own := imgKeySlot img
  let p := s.param 0xA23
  let n := byteAt p 0
  let named := !p.isEmpty
  let prov := if named && !s.trust.programmed n then [FuseStep.provision n (slice p 4 32)] else []
  let bits := bitsOf 4 (s.pnat 0xA22)
  let rev := (bits.filter fun n => n != own && !s.trust.revoked.getD n false).map FuseStep.revoke
  let adv := if s.pnat 0xA20 = 1 then
      ((List.range 64).filter fun i => decide (s.trust.steps ≤ i) && decide (i < imgRollback img)).map FuseStep.rollback
    else []
  let s := if named && s.trust.programmed n then tallyBy 2 0xA19 (d48 [(8, 1), (8, n), (8, 1)]) s else s
  let s := if bits.contains own then tallyBy 2 0xA19 (d48 [(8, 2), (8, own), (8, 1)]) s else s
  { s with trust := { s.trust with work := prov ++ rev ++ adv, retry := false, advanceFrom := none } }

/-- The rollback advance is over: its event (15 R455). -/
def advanceDone (s : State) : State :=
  match s.trust.advanceFrom with
  | some old =>
    let s := { s with trust := { s.trust with advanceFrom := none } }
    if old = s.trust.steps then s else tallyBy 2 0xA11 (d48 [(8, old), (8, s.trust.steps)]) s
  | none => s

/-- The field and the slot or step of a fuse step (15 Table 15.6). -/
def FuseStep.field : FuseStep → Nat × Nat
  | .provision n _ => (1, n)
  | .revoke n => (2, n)
  | .rollback i => (3, i)

/-- A fuse step took effect; of a rollback step both bits (log 86). -/
def FuseStep.blow (f : FuseStep) (s : State) : State :=
  match f with
  | .provision n h =>
    tallyBy 2 0xA16 (d48 [(8, n)]) { s with trust := { s.trust with keyHash := s.trust.keyHash.set n h } }
  | .revoke n =>
    tallyBy 2 0xA17 (d48 [(8, n)]) { s with trust := { s.trust with revoked := s.trust.revoked.set n true } }
  | .rollback i => { s with trust := { s.trust with
      advanceFrom := some (s.trust.advanceFrom.getD s.trust.steps), rollback := s.trust.rollback.set i 3 } }

/-- A fuse step failed twice: the field keeps whatever it reads; a key hash part programmed is open (log 2). -/
def FuseStep.fail (f : FuseStep) (s : State) : State :=
  let s := match f with
    | .provision n _ =>
      let d := s.draw
      { d.2 with trust := { d.2.trust with keyHash := d.2.trust.keyHash.set n (leBytes 32 d.1) } }
    | _ => s
  tallyBy 2 0xA19 (d48 [(8, f.field.1), (8, f.field.2), (8, 2)]) (raise 20 s)

/-- One fuse step is programmed and read back (15 R456). -/
def fuseStep (blown : Bool) (s : State) : State :=
  match s.trust.work with
  | [] => s
  | f :: rest =>
    let go := fun (s : State) =>
      let s := { s with trust := { s.trust with work := rest, retry := false } }
      if rest.isEmpty then advanceDone s else s
    if blown then go (f.blow s)
    else if s.trust.retry then go (f.fail s)
    else { s with trust := { s.trust with retry := true } }

/-- FUSE_STEP_WHILE_STOPPED (15 R456): one step every 64 beats. -/
def execFuseStepWhileStopped (tk : Tick) (blown : Bool) (s : State) : Host.Outcome State Fault Refusal :=
  runAt tk s fun s =>
    let due : Bool := match s.trust.stepT with | some t => reached s.now (tAdd t (64 * 256)) | none => true
    if s.pwr.st = 3 ∧ s.pwr.pd1 ∧ s.scan.phase = .stopped ∧ due ∧ !s.trust.work.isEmpty then
      fuseStep blown { s with trust := { s.trust with stepT := some s.now } }
    else s

/-! ## The engine's order of work (15 R451) -/

/-- Is a verification under way: of a slot at a boot, or of an image from the Tenon link? -/
def State.verifying (s : State) : Bool :=
  s.boot.verifySlot.isSome || s.casc.imageDue.isSome || (s.casc.role == .member && s.boot.phase == .verifying)

/-- Does a command of the trust engine wait for a verification that was requested before it? One of a boot was. -/
def State.trustWaits (s : State) (d : Deferred) : Bool :=
  s.verifying && match s.casc.imageDue with | some t => reached d.t t | none => true

/-- Does the verification of an image that became whole at `t` wait for a command requested before it? -/
def State.imageWaits (s : State) (t : Time) : Bool :=
  s.running.any fun d => (unitsOf d.opcode).contains 1 && !reached d.t t

/-! ## Attestation (15 R457) -/

/-- Bytes 0 to 159 of the statement (15 Table 15.3). -/
def attestBody (s : State) (nonce : List Byte) : List Byte :=
  [1] ++ leBytes 1 s.part.code ++ [s.dieRevision] ++ leBytes 1 s.link.mode.toNat ++ leBytes 8 Config.deviceId ++
    leBytes 1 (s.mem.bootSlot.getD 0xFF) ++ leBytes 1 (s.mem.keySlot.getD 0xFF) ++ leBytes 1 (slotBits s.trust) ++
    leBytes 1 s.trust.steps ++ leBytes 1 (testState s.trust) ++ leBytes 3 0 ++ leBytes 4 s.mem.rollback ++
    s.mem.headerDigest ++ leBytes 8 (s.stampOf s.now).toNat ++ nonce ++ beBytes 64 Config.attestPublic

/-- ATTEST_COMPLETE (15 R457): the signature is open (log 2). The trust engine serves its work in the order requested (R451). -/
def execAttestComplete (tk : Tick) (s : State) : Host.Outcome State Fault Refusal :=
  runAt tk s fun s =>
    match s.outstanding 0x02 with
    | some d =>
      if s.ahead d || s.trustWaits d then s
      else
      let body := attestBody s (slice d.par 0 32)
      let sig := beBytes 64 (Config.attestSign (beVal (sha256 body)) s.freeIdx)
      finishOp 0x02 stOk (body ++ sig) { s with freeIdx := s.freeIdx + 1 }
    | none => s

/-! ## Test access (15 R458 to R462) -/

/-- A fresh challenge (15 R461): the noise source's value is open (log 2). -/
def newChallenge (s : State) : List Byte × State :=
  let d := s.draw
  let bs := leBytes 8 Config.deviceId ++ leBytes 32 d.1 ++ leBytes 8 (s.stampOf s.now).toNat
  (bs, { d.2 with trust := { d.2.trust with challenge := some (bs, s.now) } })

/-- TEST_UNLOCK is accepted: it answers the valid challenge, if any, and uses it up (15 R461, R467). -/
def takeChallenge (s : State) : State :=
  let c := match s.trust.challenge with
    | some (bs, t) => if reached s.now (tAdd t (1048576 * 256)) then none else some bs
    | none => none
  { s with trust := { s.trust with challenge := none, answered := s.trust.answered ++ [c] } }

/-- Why a response fails, 0 when it holds (15 R461, Table 15.6). -/
def unlockReason (s : State) (challenge : Option (List Byte)) (par : List Byte) : Nat :=
  let k := byteAt par 0
  let key := slice par 4 64
  match challenge with
  | none => 1
  | some c =>
    if !(s.trust.programmed k && !s.trust.revoked.getD k false && bitAt (s.pnat 0xA21) k) then 2
    else if s.trust.keyHash.getD k [] != sha256 key then 3
    else if !ecdsaVerify key (sha256 (c ++ [0x54])) (slice par 68 64) then 4
    else 0

/-- TEST_UNLOCK_COMPLETE (15 R461), in its order (R451). -/
def execTestUnlockComplete (tk : Tick) (s : State) : Host.Outcome State Fault Refusal :=
  runAt tk s fun s =>
    match s.outstanding 0x71, s.trust.answered with
    | some d, c :: rest =>
      if s.ahead d || s.trustWaits d then s
      else
      let why := unlockReason s c d.par
      let s := { s with trust := { s.trust with answered := rest } }
      if why = 0 then
        finishOp 0x71 stOk [] (tallyBy 1 0xA12 (d48 [(8, byteAt d.par 0)])
          (raise 21 { s with trust := { s.trust with unlocked := true, unlockedEver := true } }))
      else
        let n := s.trust.failures + 1
        finishOp 0x71 stAuthFail [] (tallyBy 1 0xA13 (d48 [(8, why), (8, satAt 255 n)])
          { s with trust := { s.trust with failures := n } })
    | _, _ => s

/-- CHALLENGE_EXPIRY (15 R461). -/
def execChallengeExpiry (tk : Tick) (s : State) : Host.Outcome State Fault Refusal :=
  runAt tk s fun s =>
    match s.trust.challenge with
    | some (_, t) =>
      if reached s.now (tAdd t (1048576 * 256)) then { s with trust := { s.trust with challenge := none } } else s
    | none => s

/-- What the data register holds that IDCODE selects (15 R458). -/
def State.idcode (s : State) : Word :=
  BitVec.ofNat 32 (s.dieRevision.toNat % 16 * 2 ^ 28 + s.part.idcodePart * 2 ^ 12 + 0x1D6 * 2 + 1)

/-- The data register that stands between TDI and TDO (15 R458). -/
inductive TapData where
  | boundary
  | idcode (value : Word)
  | bypass
  deriving DecidableEq, Repr

/-- The register that the instruction selects: EXTEST and SAMPLE/PRELOAD the boundary register, IDCODE its value, the others
BYPASS (15 R458, R460). PRESUMED (log 106): that of each but IDCODE, by IEEE 1149.1; no command shifts a register. -/
def State.tapData (s : State) : TapData :=
  if s.trust.ir = 0 ∨ s.trust.ir = 1 then .boundary
  else if s.trust.ir = 2 then .idcode s.idcode
  else .bypass

/-- Is it a public instruction that leaves the pins to the chip (15 R458)? -/
def tapPublic (ir : Byte) : Bool := ir == 1 || ir == 2 || ir == 0xFF

/-- TAP_PUBLIC_INSTRUCTION (15 R458). -/
def execTapPublicInstruction (tk : Tick) (ir : Byte) (s : State) : Host.Outcome State Fault Refusal :=
  runAt tk s fun s => if tapPublic ir then { s with trust := { s.trust with ir := ir } } else s

/-- EXTEST, CLAMP or HIGHZ holds the chip in ACTIVE with scanning stopped as SCAN_STOP mode 1, without its
Tally event (15 R459). -/
def boundaryMode (ir : Byte) (s : State) : State :=
  let s := dropEntry s
  let s := { s with
    trust := { s.trust with ir := ir, boundary := true }
    pwr := { s.pwr with st := 3, next := none, ordered := none } }
  let s := match parkAt s with
    | some t => { s with bench := { s.bench with parkDue := some t } }
    | none =>
      match s.scan.phase with
      | .stopped => s
      | .frames => askStop s
      | .stopping => s
      | _ => abortStart s
  tally 0xA18 (d48 [(8, ir.toNat)]) (raise 21 s)

/-- TAP_BOUNDARY_TEST_MODE (15 R459). -/
def execTapBoundaryTestMode (tk : Tick) (ir : Byte) (s : State) : Host.Outcome State Fault Refusal :=
  runAt tk s fun s =>
    if (ir = 0 ∨ ir = 3 ∨ ir = 4) ∧ s.pwr.pd1 then boundaryMode ir s else s

/-- A private instruction while locked selects BYPASS; the first since boot is recorded (15 R460). -/
def tapPrivate (ir : Byte) (s : State) : State :=
  let s' := { s with trust := { s.trust with ir := 0xFF, privateSeen := true } }
  if s.trust.privateSeen then s' else tally 0xA14 (d48 [(8, ir.toNat)]) (raise 21 s')

/-- TAP_PRIVATE_INSTRUCTION (15 R460): while unlocked it acts as Nyilo's test documentation states, which the
spec does not give. -/
def execTapPrivateInstruction (tk : Tick) (ir : Byte) (s : State) : Host.Outcome State Fault Refusal :=
  if 5 ≤ ir.toNat ∧ ir.toNat ≤ 0xFE then
    if s.trust.unlocked then .refused .privateTestInstruction else runAt tk s (tapPrivate ir)
  else runAt tk s id

end Sys2Proof.Machine
end

