-- ==== Sys2Proof/Machine/Memory.lean ====
section
/-! DEFINITION. Chapter 14: discovery, the boot pointer, update sessions, reference images, the wear ledger,
re-verification, and the failures of the flash. -/

namespace Sys2Proof.Machine

/-! ## Instructions (14 R425) -/

/-- The code of an instruction, but for those that the BFPT names. -/
def FlashInstr.code : FlashInstr → Option Nat
  | .enableReset => some 0x66
  | .reset => some 0x99
  | .release => some 0xAB
  | .powerDown => some 0xB9
  | .readId => some 0x9F
  | .readSfdp => some 0x5A
  | .readStatus => some 0x05
  | .writeEnable => some 0x06
  | .pageProgram => some 0x02
  | .erase4k => some 0x20
  | .erase64k => none
  | .read => none
  | .reRead => some 0x0B
  | .quadEnable => none

/-- The highest frequency of MEM_SCK in kHz for an instruction: discovery and a repeated read run at 8 MHz or less, the rest
at mem_sck_max (14 R424, R426, R442). -/
def Mem.instrKhz (m : Mem) (i : FlashInstr) : Nat :=
  match i with
  | .enableReset | .reset | .release | .readId | .readSfdp | .reRead => min 8000 m.sckMax
  | _ => m.sckMax

/-- The code of an instruction as this flash's BFPT names it (14 R425). -/
def Mem.instrCode (m : Mem) (i : FlashInstr) : Option Nat :=
  if i = .erase64k ∧ m.erase64 ≠ 0 then some m.erase64 else i.code

/-- An erase: write enable, the erase, and the polling of busy, which stands as one read of the status. -/
def eraseSeq (e : FlashInstr) : List FlashInstr := [.writeEnable, e, .readStatus]

/-- Page programs of `n` pages, each read back. -/
def programSeq (n : Nat) : List FlashInstr :=
  (List.range n).flatMap fun _ => [.writeEnable, .pageProgram, .readStatus, .read]

/-- Erases of `n` 4 KiB sectors. -/
def eraseSectors (n : Nat) : List FlashInstr := (List.range n).flatMap fun _ => eraseSeq .erase4k

/-- The work in a slot's erase (14 R437): 15 sectors, three 64 KiB blocks, one sector, and the blank check. -/
def slotEraseSeq : List FlashInstr :=
  eraseSectors 15 ++ ((List.range 3).flatMap fun _ => eraseSeq .erase64k) ++ eraseSectors 1 ++ [.read]

/-- Pages of 256 bytes that `n` bytes from an offset touch. -/
def pagesOf (off n : Nat) : Nat := if n = 0 then 0 else (off + n - 1) / 256 - off / 256 + 1

/-- Discovery (14 R426), with the status write of a quad-enable method where the read is quad (R428). -/
def discoverySeq (quad : Bool) : List FlashInstr :=
  [.enableReset, .reset, .release, .readId, .readSfdp, .readSfdp, .readSfdp] ++
    if quad then [.writeEnable, .quadEnable, .readStatus] else []

/-- What the port has issued for the latest work; a failed read is made once more (14 R442). -/
def issue (l : List FlashInstr) (res : FlashRes) (s : State) : State :=
  { s with mem := { s.mem with issued := match res with
      | .ok => l
      | .readFail _ => [.read, .reRead]
      | .eraseFail _ => eraseSeq .erase4k
      | .programFail _ => programSeq 1 } }

/-! ## The port's order of work (14 R443) -/

/-- The closed records, oldest first (16 R477). -/
def closedRecords (s : State) : List TallyRec :=
  if s.tally.openT.isSome then s.tally.kept.dropLast else s.tally.kept

/-- Is the recorder able to drain now? -/
def canDrain (s : State) : Bool :=
  s.pwr.pd1 && s.tally.logReady && !s.tally.degraded && !s.tally.unavailable

/-- Does an acquisition or a rebuild wait for the read of a reference that ref_select lets it consider? -/
def refReadWaits (s : State) : Bool :=
  let sel := s.pnat 0x206
  ((match s.base.acq with | .wait .. => true | _ => false) || decide (0 < s.base.rebuildDue)) &&
    (List.range 4).any fun m =>
      (sel == m || sel == 0xFF) && s.mem.refsValid.getD m false && s.mem.refsHeld.getD m none == none &&
        !s.base.refFault.contains m

/-- Is the re-verification due (14 R441)? -/
def reverifyWaits (s : State) : Bool :=
  let p := 8388608 * 3600 * s.pnat 0xA02
  p != 0 && reached s.now (tAdd s.mem.verifyT p)

/-- The place of the next snapshot: the one after the newest; those of retired sectors are passed over, and those that a torn
snapshot holds, but for the first of a sector, which is erased (14 R440, R442). -/
def nextSnapPlace (s : State) : Option Nat :=
  ((List.range 12).map fun i => (s.mem.snapPlace + i) % 12).find? fun i =>
    !s.mem.led.retired.contains (0xC1 + i / 4) && (i % 4 == 0 || !s.mem.flash.torn.contains i)

/-- Is a snapshot due, and a place left for it (14 R440)? -/
def snapWaits (s : State) : Bool := (decide (0 < s.mem.snapDue) || s.mem.snapTally) && (nextSnapPlace s).isSome

/-- Does work of a class wait? -/
def portWaits (s : State) : PortWork → Bool
  | .referenceRead => refReadWaits s
  | .update => (s.outstanding 0x52).isSome || (s.outstanding 0x53).isSome || (s.outstanding 0x54).isSome
  | .tallyWrite => canDrain s && !(closedRecords s).isEmpty
  | .referenceSave => !s.mem.saving.isEmpty
  | .snapshot => snapWaits s
  | .reverify => reverifyWaits s

/-- The waiting work in the order in which the port serves it. -/
def portQueue (s : State) : List PortWork :=
  if s.pwr.pd1 && decide (0 < s.mem.size) then
    [.referenceRead, .update, .tallyWrite, .referenceSave, .snapshot, .reverify].filter (portWaits s)
  else []

/-- May work of a class come to its end now: it is the next one, or was begun before what now stands before it? -/
def portServes (s : State) (w : PortWork) : Bool :=
  (portQueue s).head? == some w || s.mem.begun == some w || !(portQueue s).contains w

/-- Work of a class comes to wait: a port that is not idle goes on with what it has begun. -/
def portTakes (w : PortWork) (s : State) : State :=
  let busy := match s.mem.begun with | some v => (portQueue s).contains v | none => false
  if busy then s
  else { s with mem := { s.mem with begun := some (((portQueue s).find? (· != w)).getD w) } }

/-- Work of a class has come to its end. -/
def portDone (w : PortWork) (s : State) : State :=
  if s.mem.begun = some w then { s with mem := { s.mem with begun := none } } else s

/-! ## Failures (14 R442) -/

/-- The region of a sector (14 Tables 14.2, 14.8). -/
def regionOf (sector : Nat) : Nat :=
  if sector = 0 then 0 else if sector ≤ 0x40 then 1 else if sector ≤ 0x80 then 2 else if sector ≤ 0xC0 then 3
  else if sector ≤ 0xC3 then 4 else 5

/-- The sector that holds an address is retired, each with a snapshot of its own (14 R440, Table 14.7). -/
def retireSector (address : Nat) (s : State) : State :=
  let sector := address / 4096
  if s.mem.led.retired.contains sector then s
  else
    let l := s.mem.led
    let s := { s with mem := { s.mem with led := { l with retired := l.retired ++ [sector] }, snapDue := s.mem.snapDue + 1 } }
    tally 0xA0E (d48 [(16, sector), (16, s.mem.led.retired.length)])
      (memRecord 6 (regionOf sector) sector address s)

/-- One failure of the flash, with its record, its event and the retirement it calls for. -/
def flashFail (res : FlashRes) (s : State) : State :=
  let act := fun (cause code address : Nat) (retire : Bool) =>
    let sector := address / 4096
    let g := regionOf sector
    let s := tally code (d48 [(8, g), (16, sector)]) (memRecord cause g sector address s)
    if retire && decide (3 ≤ g) then retireSector address s else s
  match res with
  | .ok => s
  | .readFail a => act 1 0xA0A a false
  | .eraseFail a => act 2 0xA0B a true
  | .programFail a => act 3 0xA0C a true

/-! ## Discovery (14 R426 to R428) -/

/-- Is a number a power of two between 2 MiB and 16 MiB? -/
def densityOk (n : Nat) : Bool := n == 2097152 || n == 4194304 || n == 8388608 || n == 16777216

/-- The parameter header that discovery reads: the one whose ID is 0xFF00 (14 R426). -/
def bfptHeader (f : Sfdp) : Option SfdpHeader := f.headers.find? fun h => h.id == 0xFF00

/-- Its table, of which at most 16 DWORDs are read. -/
def bfptOf (f : Sfdp) : Option Bfpt := (bfptHeader f).map (·.table)

/-- The DWORDs of the BFPT that are read (14 R426). -/
def bfptDwords (f : Sfdp) : Nat := match bfptHeader f with | some h => min 16 h.dwords | none => 0

/-- Has the flash the SFDP signature (14 Table 14.1)? -/
def sfdpSigned (f : Sfdp) : Bool := f.signature == [0x53, 0x46, 0x44, 0x50]

/-- The maximum times: the typical ones by their multiplier (14 R427). -/
def max4kMs (b : Bfpt) : Nat := b.typ4kMs * b.eraseMult
def max64kMs (b : Bfpt) : Nat := b.typ64kMs * b.eraseMult
def maxPageUs (b : Bfpt) : Nat := b.typPageUs * b.pageMult

/-- The row of Table 14.1 that is not met, from 1; 0 when all are. -/
def sfdpItem (f : Sfdp) : Nat :=
  if !sfdpSigned f then 1
  else match bfptHeader f with
  | none => 2
  | some h =>
    let b := h.table
    if !(h.major == 1 && decide (9 ≤ bfptDwords f)) then 2
    else if !b.threeByte then 3
    else if !densityOk b.density then 4
    else if !(b.erase4k.isSome && b.erase64k.isSome) then 5
    else if !(decide (max4kMs b ≤ 120) && decide (max64kMs b ≤ 1000)) then 6
    else if !(decide (256 ≤ b.page) && decide (maxPageUs b ≤ 3000)) then 7
    else 0

/-- The read instruction: the first of 1-4-4, 1-1-4, 1-2-2, 1-1-2 that may be used, and 0x0B in single width where none may,
with its dummy and mode clocks (14 R426, R428). -/
def readInstrOf (b : Bfpt) (limit : Nat) : FlashRead × FastRead :=
  let quad := decide (2 ≤ limit) && within 1 5 b.quadEnable
  let dual := decide (1 ≤ limit)
  match (if quad then b.r144 else none), (if quad then b.r114 else none), (if dual then b.r122 else none),
      (if dual then b.r112 else none) with
  | some c, _, _, _ => (.r144, c)
  | none, some c, _, _ => (.r114, c)
  | none, none, some c, _ => (.r122, c)
  | none, none, none, some c => (.r112, c)
  | none, none, none, none => (.single, ⟨8, 0⟩)

/-- The width of a read instruction: 0 single, 1 dual, 2 quad. -/
def FlashRead.width : FlashRead → Nat
  | .single => 0
  | .r112 => 1
  | .r122 => 1
  | .r114 => 2
  | .r144 => 2

/-- MEM_SCK's highest frequency in kHz by mem_sck_max; at every corner it is at least 75 % of this (14 R424, Table 14.11).
Discovery runs at 8 MHz or less (R426). -/
def sckKhz (code : Nat) : Nat := match code with | 0 => 8000 | 1 => 16000 | 2 => 25000 | _ => 33000

/-- Discovery has ended: what the flash is (14 R427). -/
def seeFlash (f : Sfdp) (s : State) : State :=
  let found := if sfdpItem f = 0 then bfptOf f else none
  let m := { s.mem with jedec := f.jedec, sckMax := sckKhz (s.pnat 0xA00), bfptRead := bfptDwords f }
  { s with
    mem := match found with
      | some b =>
        let r := readInstrOf b (s.pnat 0xA01)
        { m with
          size := b.density, eraseMin := 4096, readWidth := r.1.width, readInstr := r.1, readClocks := r.2
          erase64 := b.erase64k.getD 0 }
      | none => { m with size := 0, eraseMin := 0, readWidth := 0, readInstr := .single, readClocks := ⟨8, 0⟩ }
    boot := { s.boot with discovered := true, discoveryFailed := found.isNone } }

/-- Discovery as a whole: its instructions, and what it saw (14 R425 to R427). -/
def discoverFlash (f : Sfdp) (s : State) : State :=
  let t := seeFlash f s
  issue (discoverySeq (t.mem.readWidth == 2)) .ok t

/-- The event and the record of what discovery found (14 R427). -/
def tellFlash (f : Sfdp) (s : State) : State :=
  if sfdpItem f = 0 then tally 0xA01 (d48 [(24, f.jedec), (8, s.mem.size.log2), (8, s.mem.readWidth)]) s
  else tally 0xA02 (d48 [(8, sfdpItem f)]) (memRecord 4 0xFF 0xFFFF 0 s)

/-! ## The boot pointer (14 R435, R436) -/

/-- Is an entry valid? -/
def ptrOk (e : List Byte) : Bool := e.take 4 == [0x4B, 0x4C, 0x54, 0x42] && slice e 28 2 == crcBytes (slice e 0 28)

/-- The pointer: the valid entry with the highest seq in either copy. -/
def bootPointer (f : Flash) : Option (List Byte) :=
  bestBy (fun a b => decide (fieldAt b 4 4 < fieldAt a 4 4)) ((f.ptr0 ++ f.ptr1).filter ptrOk)

/-- The bytes of a slot. -/
def State.slotBytes (s : State) (slot : Nat) : List Byte := s.mem.flash.slots.getD slot []

/-- Is the pointer usable? -/
def ptrUsable (s : State) (e : List Byte) : Bool :=
  slice e 12 16 == (imgHeaderDigest (s.slotBytes (byteAt e 8))).take 16

/-- A pointer entry (14 Table 14.5). -/
def ptrEntry (seq slot : Nat) (digest : List Byte) : List Byte :=
  let b := leBytes 4 0x42544C4B ++ leBytes 4 seq ++ leBytes 1 slot ++ leBytes 3 0 ++ digest.take 16
  b ++ crcBytes b ++ leBytes 2 0

/-- The instructions of a pointer's writing. -/
def pointerSeq (f : Flash) : List FlashInstr :=
  (if 64 ≤ max f.ptr0.length f.ptr1.length then eraseSectors 1 else []) ++ programSeq 2

/-- The seq of a new pointer (14 Table 14.5). -/
def pointerNext (f : Flash) : Nat := match bootPointer f with | some e => fieldAt e 4 4 + 1 | none => 0

/-- The entry index that a new pointer takes; 64 when sector 0 must be erased first (14 R436). -/
def pointerIndex (f : Flash) : Nat := max f.ptr0.length f.ptr1.length

/-- Set both copies of the boot pointer. -/
def State.putPointer (s : State) (a b : List (List Byte)) : State :=
  { s with mem := { s.mem with flash := { s.mem.flash with ptr0 := a, ptr1 := b } } }

/-- Before a new entry is written, sector 0 is erased when both copies are full (14 R436). -/
def pointerErase (s : State) : State :=
  if 64 ≤ pointerIndex s.mem.flash then (tally 0xA07 (d48 [(32, pointerNext s.mem.flash)]) s).putPointer [] [] else s

/-- The entries of the copies with a new one at the same index of each, a missing one in neither (14 R436). -/
def pointerPut (a b : Option (List Byte)) (s : State) : State :=
  let n := pointerIndex s.mem.flash
  let fill := fun (l : List (List Byte)) => l ++ List.replicate (n - l.length) []
  s.putPointer (fill s.mem.flash.ptr0 ++ a.toList) (fill s.mem.flash.ptr1 ++ b.toList)

/-- A new pointer's entry, formed before any erase (14 Table 14.5). -/
def pointerEntry (slot : Nat) (s : State) : List Byte :=
  ptrEntry (pointerNext s.mem.flash) slot (imgHeaderDigest (s.slotBytes slot))

/-- A new pointer is written to both copies; sector 0 is erased first when they are full (14 R436). -/
def writePointer (slot : Nat) (s : State) : State :=
  pointerPut (some (pointerEntry slot s)) (some (pointerEntry slot s)) (pointerErase s)

/-- What a cut program leaves of an entry: no check accepts it (14 R444). -/
def tornEntry : List Byte := [0]

/-- How far the writing of a pointer has come when a reset, or with `cut` a loss of VDD, ends it: nothing, the erase, copy 0, both
copies; a copy in progress is torn. Which of them is open (14 R436, R444, Table 14.9; log 105). -/
def tearPointer (cut : Bool) (slot : Nat) (s : State) : State :=
  let d := s.draw
  let s := d.2
  let e := pointerEntry slot s
  match d.1 % (if cut then 6 else 4) with
  | 0 => s
  | 1 => pointerErase s
  | 2 => pointerPut (some e) none (pointerErase s)
  | 3 => writePointer slot s
  | 4 => pointerPut (some tornEntry) none (pointerErase s)
  | _ => pointerPut (some e) (some tornEntry) (pointerErase s)

/-! ## Update sessions (12 R386; 14 R437, R438) -/

/-- The slot that UPDATE_BEGIN names: the one not in force, or in recovery the one that the newest valid
pointer entry does not name (12 R386, 15 R465). -/
def updateTarget (s : State) : Nat :=
  if s.link.mode = 2 then
    match bootPointer s.mem.flash with
    | some e => if byteAt e 8 = 0 then 1 else 0
    | none => 0
  else if s.mem.bootSlot = some 0 then 1 else 0

/-- Set a slot's state. -/
def State.setSlot (s : State) (slot state : Nat) : State :=
  { s with mem := { s.mem with slotState := s.mem.slotState.set slot state } }

/-- Set a slot's bytes. -/
def State.putSlot (s : State) (slot : Nat) (bs : List Byte) : State :=
  { s with mem := { s.mem with flash := { s.mem.flash with slots := s.mem.flash.slots.set slot bs } } }

/-- UPDATE_BEGIN accepted (12 R386). -/
def updateBegin (length : Nat) (s : State) : State :=
  let t := updateTarget s
  let s := portTakes .update (s.setSlot t 3)
  { s with mem := { s.mem with session := .opened t length 0 false, spoiled := s.mem.spoiled.erase t } }

/-- The target of the session, if one is open. -/
def sessionTarget (s : State) : Option Nat :=
  match s.mem.session with
  | .closed => none
  | .opened t _ _ _ => some t
  | .committing t _ _ => some t

/-- The session with its failure. -/
def Session.mark (failed : Bool) : Session → Session
  | .closed => .closed
  | .opened t n r _ => .opened t n r failed
  | .committing t n _ => .committing t n failed

/-- Has the session's flash work failed? -/
def Session.failed : Session → Bool
  | .closed => true
  | .opened _ _ _ f => f
  | .committing _ _ f => f

/-- The session's flash work has failed, unless a later UPDATE_BEGIN has begun it anew (14 R437). -/
def sessionFail (s : State) : State :=
  match sessionTarget s with
  | some t =>
    if (s.outstanding 0x52).isSome then s
    else { (s.setSlot t 2) with mem := { (s.setSlot t 2).mem with session := s.mem.session.mark true } }
  | none => s

/-- The first address of a slot (14 Table 14.2). -/
def slotBase (slot : Nat) : Nat := 4096 * (1 + 64 * slot)

/-- A slot's first bytes are erased. -/
def wipeSlot (slot n : Nat) (s : State) : State :=
  let bs := s.slotBytes slot
  s.putSlot slot (List.replicate (min n bs.length) 0xFF ++ bs.drop n)

/-- An erase of a slot ends before its end: the units before an address are erased, and of the unit there at least the first
byte, how much more is open; no image is left that verifies (14 R437, R444; log 105). -/
def cutErase (slot address : Nat) (s : State) : State :=
  let d := s.draw
  wipeSlot slot (address - slotBase slot + 1 + d.1 % 65536) d.2

/-- A program of a slot ends before its end: the pages before an address are written, the one there reads as it may (14 R437,
R444; log 105). -/
def cutProgram (slot off : Nat) (bs : List Byte) (address : Nat) (s : State) : State :=
  let k := min bs.length (address - slotBase slot - off)
  let d := s.draw
  d.2.putSlot slot (slice (s.slotBytes slot) 0 off ++ bs.take k ++ leBytes (min 256 (bs.length - k)) d.1)

/-- The address that a failure names. -/
def failAddress : FlashRes → Nat
  | .ok => 0
  | .readFail a => a
  | .eraseFail a => a
  | .programFail a => a

/-- UPDATE_BEGIN_COMPLETE (14 R437). -/
def execUpdateBeginComplete (tk : Tick) (res : FlashRes) (s : State) : Host.Outcome State Fault Refusal :=
  runAt tk s fun s =>
    match s.outstanding 0x52, sessionTarget s with
    | some d, some t =>
      if !portServes s .update ∨ s.ahead d then s
      else
      let s := issue slotEraseSeq res (portDone .update s)
      let l := s.mem.led
      let s := { s with mem := { s.mem with led := { l with slotErases := l.slotErases + 64 } } }
      if res = .ok then
        let s := s.putSlot t []
        finishOp 0x52 stOk (leBytes 1 t) { s with mem := { s.mem with session := s.mem.session.mark false } }
      else sessionFail (finishOp 0x52 stMemoryFault (leBytes 1 t) (flashFail res (cutErase t (failAddress res) s)))
    | _, _ => s

/-- UPDATE_CHUNK accepted: its bytes count as received (12 R386). -/
def updateChunk (len : Nat) (s : State) : State :=
  let s := portTakes .update s
  match s.mem.session with
  | .opened t n r f => { s with mem := { s.mem with session := .opened t n (r + len) f } }
  | _ => s

/-- UPDATE_CHUNK_COMPLETE (14 R437). -/
def execUpdateChunkComplete (tk : Tick) (res : FlashRes) (s : State) : Host.Outcome State Fault Refusal :=
  runAt tk s fun s =>
    match s.outstanding 0x53 with
    | none => s
    | some d =>
      let off := fieldAt d.par 0 4
      let bs := d.par.drop 4
      if !portServes s .update ∨ s.ahead d then s
      else
      let s := issue (programSeq (pagesOf off bs.length)) res (portDone .update s)
      match sessionTarget s, s.mem.session.failed with
      | some t, false =>
        if res = .ok then
          finishOp 0x53 stOk (leBytes 4 (off + bs.length)) (s.putSlot t (slice (s.slotBytes t) 0 off ++ bs))
        else sessionFail (finishOp 0x53 stMemoryFault (leBytes 4 off) (flashFail res (cutProgram t off bs (failAddress res) s)))
      | _, _ => finishOp 0x53 stMemoryFault (leBytes 4 off) s

/-- UPDATE_COMMIT accepted (12 R386). -/
def updateCommit (s : State) : State :=
  let s := portTakes .update s
  match s.mem.session with
  | .opened t n _ f => { s with mem := { s.mem with session := .committing t n f } }
  | _ => s

/-- The final reply's data of a commit. -/
def commitData (t : Nat) (img : List Byte) : List Byte :=
  leBytes 1 t ++ leBytes 1 (imgKeySlot img) ++ leBytes 2 0 ++ leBytes 4 (imgRollback img)

/-- The commit failed: slot state, event, final reply, and the session closes (14 R438). -/
def commitFail (t state status : Nat) (s : State) : State :=
  let img := s.slotBytes t
  let s := s.setSlot t state
  finishOp 0x54 status (commitData t img) (tallyBy 1 0xA09 (d48 [(8, t), (8, status)])
    { s with mem := { s.mem with
        session := .closed, spoiled := if state = 2 then t :: s.mem.spoiled.erase t else s.mem.spoiled } })

/-- UPDATE_COMMIT_COMPLETE (14 R438). -/
def execUpdateCommitComplete (tk : Tick) (readRes pointerRes : FlashRes) (s : State) :
    Host.Outcome State Fault Refusal :=
  runAt tk s fun s =>
    match s.mem.session with
    | .committing t _ _ =>
      if !portServes s .update ∨ ((s.outstanding 0x54).any fun d => s.ahead d || s.trustWaits d) then s
      else
      let img := s.slotBytes t
      let v := imgVerdict s.part s.trust img
      let point := if readRes = .ok ∧ v = 0 then pointerSeq s.mem.flash else []
      let s := issue ([.read] ++ point) (if readRes ≠ .ok then readRes else if v = 0 then pointerRes else .ok)
        (portDone .update s)
      if readRes ≠ .ok then commitFail t 2 stMemoryFault (flashFail readRes s)
      else
        let s := takeVerdict t v (imgKeySlot img) s
        if v ≠ 0 then commitFail t 2 stAuthFail s
        else if pointerRes ≠ .ok then commitFail t 1 stMemoryFault (flashFail pointerRes s)
        else
          let s := writePointer t s
          finishOp 0x54 stOk (commitData t img)
            (tallyBy 1 0xA08 (d48 [(8, t), (8, imgKeySlot img), (32, imgRollback img)])
              { (s.setSlot t 1) with mem := { (s.setSlot t 1).mem with session := .closed } })
    | _ => s

/-- An open session closes without a commit: its slot is invalid, at a reset from the next boot (14 R437, R444). -/
def closeSession (reset : Bool) (s : State) : State :=
  match sessionTarget s with
  | none => s
  | some t =>
    let s := if reset then s else s.setSlot t 2
    { s with mem := { s.mem with session := .closed, spoiled := t :: s.mem.spoiled.erase t } }

/-- What a reset, or with `cut` a loss of VDD, leaves of the session's work in progress: a page in progress completes at a reset
(12 R370; 14 R444, R445). How far the work had come is open (log 105). -/
def cutUpdate (cut : Bool) (s : State) : State :=
  match sessionTarget s with
  | none => s
  | some t =>
    let d := s.draw
    if (s.outstanding 0x52).isSome then cutErase t (slotBase t + 4096 * (d.1 % 64)) d.2
    else match s.outstanding 0x53 with
    | some c =>
      let off := fieldAt c.par 0 4
      let bs := c.par.drop 4
      let k := 256 * (d.1 % (pagesOf off bs.length + 1))
      if cut then cutProgram t off bs (slotBase t + off + k) d.2
      else d.2.putSlot t (slice (s.slotBytes t) 0 off ++ bs.take k)
    | none =>
      if (s.outstanding 0x54).isSome ∧ imgVerdict s.part s.trust (s.slotBytes t) = 0 then tearPointer cut t s else s

/-! ## References (06 R160, R167; 14 R439, R443) -/

/-- Usable sectors of a reference slot, ascending (14 R439). -/
def refSectors (s : State) (slot : Nat) : List Nat :=
  ((List.range 16).map (0x81 + 16 * slot + ·)).filter fun n => !s.mem.led.retired.contains n

/-- `n` usable sectors cyclically from a start. -/
def sectorsFrom (l : List Nat) (start n : Nat) : List Nat :=
  ((l.filter fun x => decide (start ≤ x)) ++ l.filter fun x => decide (x < start)).take n

/-- Where the next image of a slot starts: after the last sector of the previous one. -/
def nextStart (s : State) (slot : Nat) : Nat :=
  match s.mem.led.place.getD slot (0, 0, false, 0, []) with
  | (start, n, true, _, _) =>
    let used := sectorsFrom (refSectors s slot) start n
    (used.getLastD start) + 1
  | _ => 0

/-- The bytes of a ledger snapshot (14 Table 14.6). -/
def Ledger.bytes (l : Ledger) : List Byte :=
  let place := fun (e : Nat × Nat × Bool × Nat × List Byte) =>
    leBytes 2 e.1 ++ leBytes 1 e.2.1 ++ leBytes 1 (bitOf e.2.2.1 0) ++ leBytes 4 e.2.2.2.1 ++ slice e.2.2.2.2 0 8
  let map := (List.range 512).map fun j =>
    BitVec.ofNat 8 (sumNat ((List.range 8).map fun i => bitOf (l.retired.contains (8 * j + i)) i))
  let b := leBytes 4 0x57544C4B ++ leBytes 4 l.seq ++ leBytes 4 l.tallyErases ++ leBytes 4 l.refErases ++
    leBytes 4 l.slotErases ++ leBytes 2 l.retired.length ++ leBytes 2 0 ++
    ((List.range 4).flatMap fun m => place (l.place.getD m (0, 0, false, 0, []))) ++ map ++ List.replicate 422 0
  b ++ crcBytes b

/-- The instructions of a snapshot's writing. -/
def snapshotSeq (s : State) : List FlashInstr :=
  match nextSnapPlace s with
  | some p => (if p % 4 = 0 then eraseSectors 1 else []) ++ programSeq 4
  | none => []

/-- The places of the sector that place `p` begins are erased. -/
def snapErase (p : Nat) (f : Flash) : Flash :=
  if p % 4 = 0 then
    { f with
      ledger := (List.range 12).map fun i => if i / 4 = p / 4 then none else f.ledger.getD i none
      torn := f.torn.filter fun i => i / 4 != p / 4 }
  else f

/-- A ledger snapshot is written to the place after the newest (14 R440). -/
def writeSnapshot (s : State) : State :=
  match nextSnapPlace s with
  | none => s
  | some p =>
    let m := s.mem
    let led := { m.led with seq := m.led.seq + 1 }
    let f := snapErase p m.flash
    { s with mem := { m with
        led := led, snapPlace := (p + 1) % 12, flash := { f with ledger := f.ledger.set p (some led) } } }

/-- What a loss of VDD leaves of a snapshot in progress: nothing, the erase, or a torn place (14 R444; log 105). -/
def tearSnapshot (s : State) : State :=
  match nextSnapPlace s with
  | none => s
  | some p =>
    let d := s.draw
    let f := snapErase p s.mem.flash
    { d.2 with mem := { d.2.mem with flash := match d.1 % 3 with
        | 0 => s.mem.flash
        | 1 => f
        | _ => { f with ledger := f.ledger.set p none, torn := p :: f.torn.erase p } } }

/-- One of the snapshots that are due is written: one for each retirement, else the one for the Tally log. -/
def paySnapshot (s : State) : State :=
  let m := (writeSnapshot s).mem
  if 0 < m.snapDue then { s with mem := { m with snapDue := m.snapDue - 1 } } else { s with mem := { m with snapTally := false } }

/-- LEDGER_SNAPSHOT (14 R440). -/
def execLedgerSnapshot (tk : Tick) (res : FlashRes) (s : State) : Host.Outcome State Fault Refusal :=
  runAt tk s fun s =>
    if snapWaits s ∧ s.pwr.pd1 ∧ 0 < s.mem.size ∧ portServes s .snapshot then
      let s := issue (snapshotSeq s) res (portDone .snapshot s)
      if res = .ok then paySnapshot s else flashFail res s
    else s

/-- The references bit of a slot. -/
def State.setRefValid (s : State) (slot : Nat) (b : Bool) : State :=
  { s with mem := { s.mem with refsValid := s.mem.refsValid.set slot b } }

/-- The sectors that an image of a reference slot occupies. -/
def imageSectors (s : State) (slot : Nat) (r : Nat × List Byte) : List Nat :=
  sectorsFrom (refSectors s slot) r.1 (ceilDiv r.2.length 4096)

/-- Put an image, or nothing usable, into a reference slot; `used` are the sectors erased for it. An older image that lies
outside them stays in the flash, where a search may find it (14 R439, R440). -/
def State.putRef (s : State) (slot start : Nat) (bs : List Byte) (used : List Nat) : State :=
  let now := s.mem.flash.refs.getD slot (0, [])
  let old := (now :: s.mem.flash.refsOld.getD slot []).filter fun r =>
    refDigestOk r.2 && !(imageSectors s slot r).any used.contains
  let s := s.setRefValid slot (refDigestOk bs)
  { s with
    mem := { s.mem with
      refsHeld := s.mem.refsHeld.set slot none
      flash := { s.mem.flash with refs := s.mem.flash.refs.set slot (start, bs), refsOld := s.mem.flash.refsOld.set slot old } }
    base := { s.base with refFault := s.base.refFault.erase slot } }

/-- A save that does not reach its snapshot leaves its slot without a usable image (14 R439). -/
def dropSave (slot : Nat) (img : List Byte) (s : State) : State :=
  s.putRef slot 0 [] (sectorsFrom (refSectors s slot) (nextStart s slot) (ceilDiv img.length 4096))

/-- Final data of REFERENCE_SAVE: slot, t_ref, bytes written (12 Table 12.8). -/
def saveData (slot : Nat) (img : List Byte) (n : Nat) : List Byte :=
  leBytes 1 slot ++ [0] ++ slice img 18 2 ++ leBytes 4 n

/-- REFERENCE_SAVE_COMPLETE (14 R439): the sectors that failed on the way are retired; the save needs as many
usable ones as its image takes, and its snapshot, which serves the Tally log's as well (Table 14.9). -/
def execReferenceSaveComplete (tk : Tick) (fails : List FlashRes) (s : State) : Host.Outcome State Fault Refusal :=
  runAt tk s fun s =>
    match s.mem.saving with
    | [] => s
    | (slot, img) :: rest =>
      if !portServes s .referenceSave then s
      else
      let s := portDone .referenceSave s
      let start := nextStart s slot
      let need := ceilDiv img.length 4096
      let s := fails.foldl (fun s f => flashFail f s) { s with mem := { s.mem with saving := rest } }
      let use := sectorsFrom (refSectors s slot) start need
      let read := fails.any fun f => match f with | .readFail _ => true | _ => false
      let l := s.mem.led
      let s := { s with mem := { s.mem with led := { l with refErases := l.refErases + use.length + fails.length } } }
      if use.length < need ∨ read ∨ nextSnapPlace s = none then finishOp 0x19 stMemoryFault (saveData slot img 0) (s.putRef slot 0 [] use)
      else
        let first := use.headD 0
        let s := issue (eraseSectors need ++ programSeq (pagesOf 0 img.length) ++ [.read] ++ snapshotSeq s) .ok s
        let s := s.putRef slot first img use
        let entry := (first, need, true, img.length, (slice img (64 + fieldAt img 36 4) 8))
        let l := s.mem.led
        let s := writeSnapshot { s with mem := { s.mem with snapTally := false, led := { l with place := l.place.set slot entry } } }
        finishOp 0x19 stOk (saveData slot img img.length)
          (tallyBy 1 0x20A (d48 [(8, slot), (8, 0), (16, fieldAt img 18 2)]) s)

/-- REFERENCE_READ (06 R160; 14 R442, R443). -/
def execReferenceRead (tk : Tick) (slot : Nat) (readOk : Bool) (s : State) : Host.Outcome State Fault Refusal :=
  runAt tk s fun s =>
    if 4 ≤ slot ∨ !s.pwr.pd1 ∨ s.mem.size = 0 then s
    else
    let s := issue (if readOk then [.read] else [.read, .reRead]) .ok (portDone .referenceRead s)
    if readOk then
      { s with
        mem := { s.mem with refsHeld := s.mem.refsHeld.set slot (some (s.mem.flash.refs.getD slot (0, [])).2) }
        base := { s.base with refFault := s.base.refFault.erase slot } }
    else
      let sector := (s.mem.flash.refs.getD slot (0, [])).1
      flashFail (.readFail (4096 * if sector = 0 then 0x81 + 16 * slot else sector))
        { (s.setRefValid slot false) with base := { s.base with refFault := slot :: s.base.refFault.erase slot } }

/-! ## Re-verification (14 R441) -/

/-- One structure failed its re-verification. -/
def reverifyFail (region sector : Nat) (s : State) : State :=
  tally 0xA0D (d48 [(8, region)]) (memRecord 5 region sector (4096 * sector) s)

/-- Check a slot again. One never written is empty (log 57); one that a session has erased fails (14 Table 14.9). The exception
of 15 R465 does not hold here. -/
def reverifySlot (bad : Bool) (slot : Nat) (s : State) : State :=
  let img := s.slotBytes slot
  if sessionTarget s = some slot then s
  else if img.isEmpty ∧ !s.mem.spoiled.contains slot then s.setSlot slot 0
  else
    let v := if bad then 1 else verdictOf false s.part s.trust img
    let s := takeVerdict slot v (imgKeySlot img) s
    if v = 0 then { (s.setSlot slot 1) with mem := { (s.setSlot slot 1).mem with spoiled := s.mem.spoiled.erase slot } } else reverifyFail (1 + slot) (1 + 64 * slot) (s.setSlot slot 2)

/-- Check a reference placement's digest again. -/
def reverifyRef (bad : Bool) (slot : Nat) (s : State) : State :=
  match s.mem.led.place.getD slot (0, 0, false, 0, []) with
  | (start, _, true, _, _) =>
    let ok := !bad && refDigestOk (s.mem.flash.refs.getD slot (0, [])).2
    let s := s.setRefValid slot ok
    if ok then s else reverifyFail 3 start s
  | _ => s

/-- The trust engine has no work of a command (14 R441; 15 R451). -/
def trustIdle (s : State) : Bool :=
  (s.outstanding 0x02).isNone && (s.outstanding 0x71).isNone && (s.outstanding 0x54).isNone && !s.verifying

/-- REVERIFY_DUE (14 R441): `badReads` names the slots (0, 1) and references (2 to 5) that cannot be read. -/
def execReverifyDue (tk : Tick) (badReads : List Nat) (s : State) : Host.Outcome State Fault Refusal :=
  runAt tk s fun s =>
    let p := 8388608 * 3600 * s.pnat 0xA02
    let busy : Bool := match s.mem.session with | .committing .. => true | _ => false
    if p = 0 ∨ !s.pwr.pd1 ∨ s.mem.size = 0 ∨ busy ∨ !trustIdle s ∨ !reached s.now (tAdd s.mem.verifyT p) ∨ !portServes s .reverify then s
    else
      let s := issue [.read] .ok (portDone .reverify s)
      let s := { s with mem := { s.mem with verifyT := s.now } }
      let s := if s.casc.role = .member then s
        else reverifySlot (badReads.contains 1) 1 (reverifySlot (badReads.contains 0) 0 s)
      (List.range 4).foldl (fun s m => reverifyRef (badReads.contains (2 + m)) m s) s

/-! ## The ledger at a boot (14 R440) -/

/-- The images of a reference slot that a search of its sectors finds: those with a valid digest (14 R440). -/
def refsFound (s : State) (slot : Nat) : List (Nat × List Byte) :=
  ((s.mem.flash.refs.getD slot (0, [])) :: s.mem.flash.refsOld.getD slot []).filter fun r => refDigestOk r.2

/-- A reference slot is searched; which of several images is taken is open (14 R440; log 105). -/
def searchRef (s : State) (slot : Nat) : State :=
  let l := refsFound s slot
  let d := if l.length ≤ 1 then (0, s) else s.draw
  match l[d.1 % l.length]? with
  | some r =>
    let m := d.2.mem
    let led := m.led
    let entry := (r.1, ceilDiv r.2.length 4096, true, r.2.length, slice r.2 (64 + fieldAt r.2 36 4) 8)
    { d.2 with mem := { m with
        led := { led with place := led.place.set slot entry }
        flash := { m.flash with refs := m.flash.refs.set slot r, refsOld := m.flash.refsOld.set slot (l.erase r) } } }
  | none => d.2

/-- The newest valid snapshot governs; with none, references are searched for, and a snapshot is due (14 R440). -/
def loadLedger (s : State) : State :=
  let f := s.mem.flash
  let snaps := (List.range 12).filterMap fun i => (f.ledger.getD i none).map fun l => (i, l)
  let valid := fun (s : State) => { s with mem := { s.mem with
    refsValid := (List.range 4).map fun n => refDigestOk (s.mem.flash.refs.getD n (0, [])).2 } }
  let m := s.mem
  match bestBy (fun a b => decide (b.2.seq < a.2.seq)) snaps with
  | some (i, l) => valid { s with mem := { m with led := l, snapPlace := (i + 1) % 12, snapDue := 0, snapTally := false } }
  | none =>
    valid ((List.range 4).foldl searchRef { s with mem := { m with led := .blank, snapPlace := 0, snapDue := 1, snapTally := false } })

/-- What the check of the boot pointer and the snapshots at a boot finds bad: a torn entry or snapshot is a read failure, and an
older one is used in its place (14 R435, R440, Table 14.7). A member does not read its boot pointer (R434). -/
def checkStructures (s : State) : State :=
  let f := s.mem.flash
  let bad := fun (base : Nat) (l : List (List Byte)) =>
    ((List.range l.length).filter fun i => !(l.getD i []).isEmpty && !ptrOk (l.getD i [])).map fun i => base + 32 * i
  let ptrs := if s.casc.role = .member then [] else (bad 0 f.ptr0 ++ bad 0x800 f.ptr1).take 1
  let snaps := ((List.range 12).filter f.torn.contains).map fun i => 0xC1000 + 1024 * i
  (ptrs ++ snaps).foldl (fun s a => flashFail (.readFail a) s) s

/-- What a reset, or with `cut` a loss of VDD, leaves of the port's work in progress (12 R370; 14 R444). -/
def cutWork (cut : Bool) (s : State) : State :=
  if !s.pwr.pd1 ∨ s.mem.size = 0 then s
  else
    let s := cutUpdate cut s
    if cut ∧ (snapWaits s ∨ !s.mem.saving.isEmpty) then tearSnapshot s else s

end Sys2Proof.Machine
end

