-- ==== Sys2Proof/Machine/TallyLog.lean ====
section
/-! DEFINITION. Chapter 16: closing records, periodic time marks, the drain into the flash log, the log's
failures, the retention check, TALLY_READ, and the recorder at a boot. -/

namespace Sys2Proof.Machine

/-- TALLY_RECORD_CLOSE (16 R472). -/
def execTallyRecordClose (tk : Tick) (s : State) : Host.Outcome State Fault Refusal :=
  runAt tk s fun s =>
    match s.tally.openT with
    | some t =>
      if reached s.now (tAdd t (8388608 * s.pnat 0x901)) then { s with tally := { s.tally with openT := none } } else s
    | none => s

/-- The end of the beat in which an instant falls. -/
def beatEnd (t : Time) : Time := tAdd t (256 - t.toNat % 256)

/-- TALLY_TIME_MARK (16 R473, R487): at the end of the beat in which it falls due, tally_mark_period minutes after the latest
mark of any kind. -/
def execTallyTimeMark (tk : Tick) (s : State) : Host.Outcome State Fault Refusal :=
  runAt tk s fun s =>
    let p := 60 * 8388608 * s.pnat 0x900
    match s.tally.lastMarkT with
    | some t => if p ≠ 0 ∧ reached s.now (beatEnd (tAdd t p)) then timeMark 0 s else s
    | none => s

/-! ## The log (16 R477, R480 to R482) -/

/-- Log sectors that are not retired, ascending (14 R429, R442). -/
def logSectors (s : State) : List Nat :=
  ((List.range (s.mem.size / 4096 - 196)).map (0xC4 + ·)).filter fun n => !s.mem.led.retired.contains n

/-- The next sector in cyclic order: the oldest one in use when every sector is in use (16 R480). -/
def nextLogSector (s : State) : Option Nat :=
  let l := logSectors s
  match s.mem.flash.log.getLast? with
  | some sec => (sectorsFrom l (sec.sector + 1) 1).head?
  | none => l.head?

/-- The log is unusable: event 0x0004 and TALLY_DEGRADED (16 R482). -/
def logUnusable (kind sector : Nat) (s : State) : State :=
  let s := tally 4 (d48 [(8, kind), (8, 0), (16, sector)]) { s with tally := { s.tally with degraded := true } }
  { s with tally := { s.tally with logReady := false } }

/-- Does a record take the next place of a sector (16 R480)? -/
def sectorTakes (s : State) (sec : TallySector) (r : TallyRec) : Bool :=
  sec.epoch == r.epoch && decide (sec.places.length < 255) && r.seq == sec.firstSeq + sec.places.length &&
    !s.mem.led.retired.contains sec.sector

/-- An erase in the Tally log; every 256 call for a snapshot (14 R440). -/
def countLogErase (s : State) : State :=
  let l := s.mem.led
  let n := s.mem.logErases + 1
  { s with mem := { s.mem with
      led := { l with tallyErases := l.tallyErases + 1 }
      logErases := n % 256
      snapTally := s.mem.snapTally || n == 256 } }

/-- Set the log's sectors. -/
def State.putLog (s : State) (l : List TallySector) : State :=
  { s with mem := { s.mem with flash := { s.mem.flash with log := l } } }

/-- One record goes into the log: at the next place, or at place 1 of a new sector. -/
def logRecord (r : TallyRec) (s : State) : State :=
  let log := s.mem.flash.log
  let fresh := match nextLogSector s with
    | some n => (countLogErase s).putLog (log.filter (fun x => x.sector != n) ++ [⟨n, r.epoch, r.seq, [some r]⟩])
    | none => s
  match log.getLast? with
  | some sec => if sectorTakes s sec r then s.putLog (log.dropLast ++ [{ sec with places := sec.places ++ [some r] }]) else fresh
  | none => fresh

/-- The closed records are drained; a loss by overwriting is then recorded (16 R477). -/
def drain (s : State) : State :=
  let rs := closedRecords s
  let s := rs.foldl (fun s r => logRecord r s) s
  let lost := s.tally.lostRun
  let s := { s with tally := { s.tally with kept := s.tally.kept.drop rs.length, failedRun := 0, lostRun := none } }
  match lost with
  | some (n, f) => tally 8 (d48 [(16, n), (32, f)]) s
  | none => s

/-- The place begun in a sector is torn (16 R481, R486). -/
def tearPlace (sector : Nat) (s : State) : State :=
  s.putLog (s.mem.flash.log.map fun x =>
    if x.sector = sector ∧ x.places.length < 255 then { x with places := x.places ++ [none] } else x)

/-- A write of the log failed: its sector is retired, the place begun is torn, and the log moves on, or is
unusable (16 R482, R486). -/
def drainFail (res : FlashRes) (s : State) : State :=
  let sector := failAddress res / 4096
  let n := s.tally.failedRun + 1
  let s := flashFail res { (tearPlace sector s) with tally := { s.tally with failedRun := n } }
  if 3 ≤ n then logUnusable 1 sector s
  else if (logSectors s).isEmpty then logUnusable 2 0xFFFF s
  else s

/-- What a loss of VDD leaves of a drain in progress: nothing more, or a torn place in the sector in use (14 R444; 16 R481;
log 105). -/
def cutDrain (s : State) : State :=
  if !canDrain s ∨ (closedRecords s).isEmpty then s
  else
    let d := s.draw
    match s.mem.flash.log.getLast? with
    | some sec => if d.1 % 2 = 1 then tearPlace sec.sector d.2 else d.2
    | none => d.2

/-- The bytes of a log sector's header (16 Table 16.3). -/
def TallySector.header (x : TallySector) : List Byte :=
  let b := leBytes 4 0x47544C4B ++ [1, 0] ++ leBytes 2 x.epoch ++ leBytes 4 x.firstSeq ++ leBytes 2 0
  b ++ crcBytes b

/-- The instructions of a drain: of each record of 16 bytes one page program, and of each new sector an erase and the
program of its header. -/
def drainSeq (s t : State) : List FlashInstr :=
  let fresh := t.mem.led.tallyErases - s.mem.led.tallyErases
  eraseSectors fresh ++ programSeq (fresh + (closedRecords s).length)

/-- TALLY_DRAIN (16 R477, R482). -/
def execTallyDrain (tk : Tick) (res : FlashRes) (s : State) : Host.Outcome State Fault Refusal :=
  runAt tk s fun s =>
    if !canDrain s ∨ (closedRecords s).isEmpty ∨ !portServes s .tallyWrite then s
    else
      let s := portDone .tallyWrite s
      match res with
      | .ok => issue (drainSeq s (drain s)) .ok (drain s)
      | .readFail a => flashFail (.readFail a) (issue [] res s)
      | .eraseFail _ => drainFail res (issue [] res s)
      | .programFail _ => drainFail res (issue [] res s)

/-- RETENTION_CHECK (16 R476, R483): every 32,768 beats. -/
def execRetentionCheck (tk : Tick) (uncorrectable : Bool) (s : State) : Host.Outcome State Fault Refusal :=
  runAt tk s fun s =>
    let due : Bool := match s.tally.checkedT with | some t => reached s.now (tAdd t (32768 * 256)) | none => true
    if !due then s
    else
      let s := { s with tally := { s.tally with checkedT := some s.now } }
      if uncorrectable ∧ !s.tally.unavailable then
        raise 20 { s with tally := { s.tally with unavailable := true, openT := none } }
      else s

/-! ## TALLY_READ (16 R484) -/

/-- Records of an epoch from a seq on, oldest first, each once. -/
def searchRecords (s : State) (bad : List Nat) (epoch from_ count : Nat) : List TallyRec :=
  let log := if s.tally.degraded then [] else s.mem.flash.log.filter fun x => !bad.contains x.sector
  let all := (log.flatMap fun x => x.places.filterMap id) ++ s.tally.kept
  (all.filter fun r => r.epoch == epoch && decide (from_ ≤ r.seq)).take count

/-- TALLY_READ_COMPLETE (16 R484): `badSectors` are log sectors whose read fails. -/
def execTallyReadComplete (tk : Tick) (badSectors : List Nat) (s : State) : Host.Outcome State Fault Refusal :=
  runAt tk s fun s =>
    match s.outstanding 0x58 with
    | none => s
    | some d =>
      if s.tally.unavailable then finishOp 0x58 stMemoryFault [0, 0] s
      else
        let s := if s.tally.degraded then s else issue [.read] .ok s
        let bad := if s.tally.degraded then []
          else badSectors.filter fun n => s.mem.flash.log.any fun x => x.sector == n
        let rs := searchRecords s bad (fieldAt d.par 0 2) (fieldAt d.par 4 4) (fieldAt d.par 8 2)
        let s := bad.foldl (fun s n => flashFail (.readFail (4096 * n)) s) s
        finishOp 0x58 (if bad.isEmpty then stOk else stPartial)
          (leBytes 1 rs.length ++ [0] ++ rs.flatMap TallyRec.bytes) s

/-! ## The recorder at a boot (16 R478, R481, R483) -/

/-- The newest valid record of the log. -/
def newestInLog (s : State) : Option TallyRec :=
  (s.mem.flash.log.flatMap fun x => x.places.filterMap id).getLast?

/-- The calendar of the newest mark of the log with the calendar set, which a later mark is compared with (16 R474;
log 19). -/
def newestMark (s : State) : Option Int :=
  (((s.mem.flash.log.flatMap fun x => x.places.filterMap id).filter fun r =>
    r.code == 1 && r.data != 0).getLast?).map fun r => (r.data : Int)

/-- seq and epoch go on from the newest record of the log, the seq of a torn place not reissued; records
already written since take the numbers that follow (16 R478, R481). -/
def resumeFromLog (s : State) : State :=
  match s.mem.flash.log.getLast?, newestInLog s with
  | some sec, some r =>
    let last := sec.firstSeq + sec.places.length - 1
    let n := s.tally.kept.length
    let kept := (List.range n).map fun i =>
      { s.tally.kept.getD i r with epoch := sec.epoch, seq := last + 1 + i }
    { s with tally := { s.tally with kept := kept, seq := last + n, epoch := sec.epoch, started := true } }
  | _, _ => s

/-- The newest seq found in the log; with an empty log, or one that cannot be read, the value is not stated (log 2). -/
def foundSeq (s : State) : Nat × State :=
  match newestInLog s with
  | some r => (r.seq, s)
  | none => s.draw

/-- At a reset after an uncorrectable error, the retention memory is cleared (16 R483). -/
def clearRetention (s : State) : State :=
  let s := resumeFromLog { s with tally := { s.tally with kept := [], openT := none, unavailable := false, lostRun := none } }
  tally 4 (d48 [(8, 4), (8, 0), (16, 0xFFFF)]) s

/-- The recorder once the flash is known at a boot: the log's state, the drain, then the time mark (16 R478,
R482, R483). -/
def tallyBoot (s : State) : State :=
  let ok := decide (0 < s.mem.size) && !(logSectors s).isEmpty
  let s := { s with tally := { s.tally with logReady := ok, failedRun := 0 } }
  let s := if ok then { s with tally := { s.tally with degraded := false } } else s
  let s := if s.tally.unavailable then clearRetention s else s
  let s := if s.tally.invalid then
      let f := if ok then foundSeq s else s.draw
      let s := { f.2 with tally := { f.2.tally with invalid := false } }
      let s := if ok then resumeFromLog { s with tally := { s.tally with lastMarkCal := newestMark s } } else s
      let s := if canDrain s then drain s else s
      tally 3 (d48 [(32, f.1)]) s
    else if canDrain s then drain s
    else s
  let s := if ok then s
    else if s.mem.size = 0 then logUnusable 3 0xFFFF s else logUnusable 2 0xFFFF s
  timeMark 0 s

end Sys2Proof.Machine
end

