-- ==== Sys2Proof/Machine/Tracker.lean ====
section
/-! DEFINITION. Chapter 07 with the tracker's part of chapters 06 and 09: footprints, peaks, contacts, palms,
rest clocks, keys and gestures of a frame. Positions are global columns and rows; coordinates are 1/64 pitch. -/

namespace Sys2Proof.Machine

/-! ## Footprints (07 R189; 09 R283) -/

/-- A node of a footprint: global place, delta, SUSPECT or HELD mark. -/
structure FNode where
  p : Node
  d : Int
  susp : Bool
  deriving DecidableEq, Repr

/-- Row-major order. -/
def rowMajor (a b : Node) : Bool := decide (a.2 < b.2) || (a.2 == b.2 && decide (a.1 < b.1))

/-- Descending delta, then row-major. -/
def stronger (a b : FNode) : Bool := decide (b.d < a.d) || (a.d == b.d && rowMajor a.p b.p)

/-- The tile's own nodes. -/
def State.ownNodes (s : State) : List Node := s.allNodes.filter fun p => s.ownRow p.2

/-- Is a node SUSPECT or HELD? -/
def State.marked (s : State) (p : Node) : Bool := (s.bnode p).st == .suspect || (s.bnode p).st == .held

/-- The nodes of the surface that this tile sees in footprints: its area and its strips. -/
def touched (s : State) : List FNode :=
  let band : Int := (s.bnat 0x202 : Nat)
  ((s.ownNodes.filter fun p => decide (band ≤ s.delta p) && !s.water p).map fun p =>
    ⟨s.toGlobal p, s.delta p, s.marked p⟩) ++
  ((s.casc.seam.filter fun n => !bitAt n.flags 4 && !bitAt n.flags 0 && decide (band ≤ n.delta)).map fun n =>
    ⟨(n.col, n.row), n.delta, bitAt n.flags 1⟩)

/-- WATER nodes that this tile sees. -/
def waterNodes (s : State) : List Node :=
  (s.ownNodes.filter s.water).map s.toGlobal ++
    (s.casc.seam.filter fun n => !bitAt n.flags 4 && bitAt n.flags 0).map fun n => (n.col, n.row)

/-- Is a global node in this tile's area? -/
def State.inArea (s : State) (g : Node) : Bool :=
  let p := s.toLocal g
  s.ownRow p.2 && decide (0 ≤ p.1) && decide (p.1 < ((s.front.senseCount : Nat) : Int))

/-- The delta of a global node; 0 where none is known (09 R283). -/
def deltaAt (s : State) (g : Node) : Int :=
  if s.inArea g then s.delta (s.toLocal g)
  else match s.casc.seam.find? fun n => n.col == g.1 && n.row == g.2 with
  | some n => if bitAt n.flags 4 then 0 else n.delta
  | none => 0

/-- The footprints among some nodes. -/
def footprints (ns : List FNode) : List (List FNode) :=
  (regions (ns.map (·.p))).map fun r => ns.filter fun n => r.contains n.p

/-! ## Peaks (07 R190, R191, R193) -/

/-- The peaks of a footprint. -/
def peaksOf (fp : List FNode) : List FNode :=
  fp.filter fun n => fp.all fun q =>
    !adj8 n.p q.p || decide (q.d < n.d) || (q.d == n.d && !rowMajor q.p n.p)

/-- The line of 07 R191: nodes left to visit, the present place and the error term. -/
def lineGo (major : Bool) (dx dy sx sy : Int) : Nat → Int → Int → Int → List Node
  | 0, _, _, _ => []
  | n + 1, x, y, d =>
    let long := if major then dx else dy
    let short := if major then dy else dx
    let turn := decide (0 < d)
    let d' := (if turn then d - 2 * long else d) + 2 * short
    let x' := if major || turn then x + sx else x
    let y' := if !major || turn then y + sy else y
    (x', y') :: lineGo major dx dy sx sy n x' y' d'

/-- Nodes strictly between an earlier peak and a later one. -/
def between (a b : Node) : List Node :=
  let dx : Int := ((b.1 - a.1).natAbs : Nat)
  let dy : Int := ((b.2 - a.2).natAbs : Nat)
  let sx : Int := if a.1 < b.1 then 1 else -1
  let sy : Int := if a.2 < b.2 then 1 else -1
  let major := decide (dy ≤ dx)
  let d := if major then 2 * dy - dx else 2 * dx - dy
  lineGo major dx dy sx sy ((if major then dx else dy) - 1).toNat a.1 a.2 d

/-- Least of a list of Ints. -/
def minInt : List Int → Option Int
  | [] => none
  | a :: r => match minInt r with | some b => some (min a b) | none => some a

/-- One peak in its turn: each peak taken stands with its survivor (07 R191). -/
def mergeStep (s : State) (taken : List (FNode × FNode)) (p : FNode) : List (FNode × FNode) :=
  let dips := fun (q : FNode × FNode) =>
    match minInt ((between q.1.p p.p).map (deltaAt s)) with
    | some m => decide ((100 - (s.fnat 0x302 : Nat) : Int) * p.d < 100 * m)
    | none => false
  match taken.find? fun q => adj8 q.1.p p.p with
  | some q => taken ++ [(p, q.2)]
  | none =>
    match taken.find? dips with
    | some q => taken ++ [(p, q.2)]
    | none => taken ++ [(p, p)]

/-- The surviving peaks of a footprint. -/
def survivors (s : State) (fp : List FNode) : List FNode :=
  ((sortBy stronger (peaksOf fp)).foldl (mergeStep s) []).filterMap fun e =>
    if e.1 = e.2 then some e.1 else none

/-- The surviving peak a footprint node belongs to (07 R193). -/
def belongsTo (sv : List FNode) (n : FNode) : Option FNode :=
  bestBy (fun a b =>
    decide (cheb n.p a.p < cheb n.p b.p) || (cheb n.p a.p == cheb n.p b.p && stronger a b)) sv

/-! ## Position, strength and size (07 R195 to R197) -/

/-- Integer moments about a node. -/
structure Moments where
  w : Int
  su : Int
  sv : Int
  suu : Int
  svv : Int
  suv : Int
  deriving DecidableEq, Repr

def momentsOf (band : Int) (at0 : Node) (ns : List FNode) : Moments :=
  ns.foldl (fun m n =>
    let w := n.d - band
    let u := n.p.1 - at0.1
    let v := n.p.2 - at0.2
    ⟨m.w + w, m.su + w * u, m.sv + w * v, m.suu + w * u * u, m.svv + w * v * v, m.suv + w * u * v⟩)
    ⟨0, 0, 0, 0, 0, 0⟩

/-- min(255, max(8, floor(32·√λ + 1/2))). -/
def axisSize (l : Nat) : Nat := (clampInt 8 255 (f32ScaleRound 32 (f32Sqrt l))).toNat

/-- major and minor from the moments, in binary32 in the order of 07 R197. -/
def axes (m : Moments) : Nat × Nat :=
  if m.w = 0 then (8, 8)
  else
    let w := f32OfInt m.w
    let mx := f32Div (f32OfInt m.su) w
    let my := f32Div (f32OfInt m.sv) w
    let sxx := f32Sub (f32Div (f32OfInt m.suu) w) (f32Mul mx mx)
    let syy := f32Sub (f32Div (f32OfInt m.svv) w) (f32Mul my my)
    let sxy := f32Sub (f32Div (f32OfInt m.suv) w) (f32Mul mx my)
    let two := f32OfInt 2
    let mid := f32Div (f32Add sxx syy) two
    let h := f32Div (f32Sub sxx syy) two
    let r := f32Sqrt (f32Add (f32Mul h h) (f32Mul sxy sxy))
    let l2 := f32Max (f32Sub mid r) 0
    (axisSize (f32Max (f32Add mid r) l2), axisSize l2)

/-- A coordinate from the node index, the weighted sum about it and the weight, on an axis of `lim` nodes. -/
def coordOf (at0 su : Int) (w : Nat) (lim : Nat) : Int :=
  let v := if w = 0 then 64 * at0 + 32 else Int.fdiv (128 * (at0 * w + su) + 65 * w) (2 * w : Nat)
  clampInt 0 (64 * (lim : Int) - 1) v

/-- Is the node on the surface? -/
def State.onSurface (s : State) (g : Node) : Bool :=
  decide (0 ≤ g.1) && decide (g.1 < ((s.surfaceCols : Nat) : Int)) && decide (0 ≤ g.2) &&
    decide (g.2 < ((s.surfaceRows : Nat) : Int))

/-- The drops of some nodes of a footprint in 1/12 count, for the sharp test, each with its node (06 R169). -/
def dropsOf (s : State) (foot piece : List FNode) : List (Int × Int × Int) :=
  piece.filterMap fun n =>
    let out := ([(n.p.1 - 1, n.p.2), (n.p.1 + 1, n.p.2), (n.p.1, n.p.2 - 1), (n.p.1, n.p.2 + 1)] : List Node).filter
      fun q => s.onSurface q && !(foot.any fun f => f.p == q)
    if out.isEmpty then none
    else some (n.p.1, n.p.2, 12 * n.d - sumInt (out.map (deltaAt s)) * ((12 / out.length : Nat) : Int))

/-- The sum of some drops. -/
def dropSumOf (ds : List (Int × Int × Int)) : Int := sumInt (ds.map (·.2.2))

/-- Nodes at 3/4 of a delta or more (06 R169). -/
def flatOf (foot : List FNode) (peak : Int) : Nat := (foot.filter fun n => decide (3 * peak ≤ 4 * n.d)).length

/-- Does a footprint contain a WATER node, or lie beside one (06 R172)? -/
def wetFoot (water : List Node) (fp : List FNode) : Bool := fp.any fun n => water.any fun q => decide (cheb n.p q ≤ 1)

/-- A peak with what its tile measures of it: over its assigned nodes, or for a palm over the whole piece. Its marks are
set from the whole footprint by joinPeaks. -/
def mkPeak (s : State) (water : List Node) (palm : Bool) (k : FNode) (foot : List FNode) : Peak :=
  let band : Int := (s.bnat 0x202 : Nat)
  let use := if palm then foot else foot.filter fun n => decide (cheb n.p k.p ≤ 2)
  let zs := if palm then foot else foot.filter fun n => decide (cheb n.p k.p ≤ 1)
  let m := momentsOf band k.p use
  let ax := axes m
  let dr := dropsOf s foot foot
  { col := k.p.1, row := k.p.2, delta := k.d, w := m.w.toNat, su := m.su, sv := m.sv
    z := (clampInt 0 65535 (sumInt (zs.map (·.d)))).toNat, major := ax.1, minor := ax.2
    foot := foot.map fun n => (n.p.1, n.p.2, n.d)
    wet := wetFoot water foot, suspect := foot.any (·.susp), palm := palm
    theta64 := s.theta64 (s.toLocal k.p).1.toNat
    flat := flatOf foot k.d, dropSum := dropSumOf dr, dropN := dr.length }

/-- The highest node of a footprint, the first in row-major order on a tie. -/
def highest (fp : List FNode) : FNode := (bestBy stronger fp).getD ⟨(0, 0), 0, false⟩

/-- The peaks of one footprint in this tile's area; a palm footprint is one piece (07 R194; 09 R284). -/
def footPeaks (s : State) (water : List Node) (fp : List FNode) : List Peak :=
  if s.fnat 0x307 < fp.length then
    let mine := fp.filter fun n => s.inArea n.p
    if mine.isEmpty then [] else [mkPeak s water true (highest mine) mine]
  else
    let sv := survivors s fp
    (sv.filter fun k => s.inArea k.p).map fun k =>
      mkPeak s water false k (fp.filter fun n => belongsTo sv n == some k)

/-- The tile's peaks in descending delta. -/
def tilePeaks (s : State) : List Peak :=
  let water := waterNodes s
  sortBy (fun a b => decide (b.delta < a.delta) || (a.delta == b.delta && rowMajor (a.col, a.row) (b.col, b.row)))
    ((footprints (touched s)).flatMap (footPeaks s water))

/-- The footprints in this tile's area, with their marks and what the tests of 06 R169 take of them (09 R284, R285). -/
def tilePieces (s : State) : List FootPiece :=
  let water := waterNodes s
  (footprints (touched s)).filterMap fun fp =>
    let mine := fp.filter fun n => s.inArea n.p
    let sv := if s.fnat 0x307 < fp.length then [] else survivors s fp
    if mine.isEmpty then none
    else some
      { nodes := mine.map fun n => (n.p.1, n.p.2, n.d), drops := dropsOf s fp mine
        parted := mine.flatMap fun n => dropsOf s (fp.filter fun q => belongsTo sv q == belongsTo sv n) [n]
        wet := wetFoot water fp, suspect := fp.any (·.susp) }

/-- Every footprint piece that the tracker works on. -/
def allPieces (s : State) : List FootPiece :=
  tilePieces s ++
    if s.inCascade then (s.casc.members.filter fun m => m.joined && m.reported).flatMap (·.pieces) else []

/-- Every peak the tracker works on: in a cascade at most 40 a tile (09 R284, R285). -/
def allPeaks (s : State) : List Peak :=
  if s.inCascade then
    (tilePeaks s).take 40 ++ (s.casc.members.filter fun m => m.joined && m.reported).flatMap (·.peaks)
  else tilePeaks s

/-- A footprint joined from its pieces: its nodes, its pieces, its peaks and its marks. -/
structure Joined where
  nodes : List FNode
  pieces : List FootPiece
  peaks : List Peak
  palm : Bool
  wet : Bool
  suspect : Bool
  deriving DecidableEq, Repr

/-- Reported nodes as footprint nodes. -/
def plainNodes (ns : List (Int × Int × Int)) : List FNode := ns.map fun f => ⟨(f.1, f.2.1), f.2.2, false⟩

/-- A finger's peak takes the whole of its share of a footprint that is joined from pieces: its nodes, and over the pieces
the flat nodes and the drops (07 R193; 09 R285). -/
def joinedPeak (parts : List FootPiece) (nodes : List FNode) (ks : List Peak) (k : Peak) : Peak :=
  if parts.length < 2 || k.palm then k
  else
    let sv := ks.map fun (q : Peak) => (⟨(q.col, q.row), q.delta, false⟩ : FNode)
    let mine := nodes.filter fun n => belongsTo sv n == some ⟨(k.col, k.row), k.delta, false⟩
    let has := fun (f : Int × Int × Int) => mine.any fun n => n.p == ((f.1, f.2.1) : Node)
    let flat := fun (p : FootPiece) => let ns := plainNodes (p.nodes.filter has); flatOf ns (highest ns).d
    let ds := (parts.flatMap (·.parted)).filter has
    { k with
      foot := mine.map fun n => (n.p.1, n.p.2, n.d), flat := sumNat (parts.map flat)
      dropSum := dropSumOf ds, dropN := ds.length }

/-- The footprints of the surface from the tiles' pieces, with the nodes that a peak reports beside them; palm_area counts
the joined pieces (09 R285). A mark of a footprint is a mark of each of its peaks (07 R189, Table 7.1; 06 R172). -/
def joinPeaks (s : State) (ps : List FootPiece) (ks : List Peak) : List Joined :=
  let all := (ps.flatMap fun (p : FootPiece) => plainNodes p.nodes) ++ ks.flatMap fun (k : Peak) => plainNodes k.foot
  (footprints all.eraseDups).map fun fp =>
    let has := fun (f : Int × Int × Int) => fp.any fun n => n.p == ((f.1, f.2.1) : Node)
    let mine := ks.filter fun k => k.foot.any has
    let parts := ps.filter fun p => p.nodes.any has
    let wet := parts.any (·.wet) || mine.any (·.wet)
    let susp := parts.any (·.suspect) || mine.any (·.suspect)
    { nodes := fp, pieces := parts, peaks := mine.map fun k => { joinedPeak parts fp mine k with wet := wet, suspect := susp }
      palm := decide (s.fnat 0x307 < fp.length) || mine.any (·.palm), wet := wet, suspect := susp }

/-! ## What a contact takes from a frame -/

/-- A measurement for a contact. -/
structure Meas where
  cx : Int
  cy : Int
  cw : Nat
  x : Int
  y : Int
  z : Nat
  major : Nat
  minor : Nat
  foot : List (Int × Int × Int)
  wet : Bool
  suspect : Bool
  deriving DecidableEq, Repr

/-- From a finger's peak. -/
def measPeak (s : State) (k : Peak) : Meas :=
  { cx := if k.w = 0 then k.col else k.col * k.w + k.su
    cy := if k.w = 0 then k.row else k.row * k.w + k.sv
    cw := if k.w = 0 then 1 else k.w
    x := coordOf k.col k.su k.w s.surfaceCols, y := coordOf k.row k.sv k.w s.surfaceRows
    z := k.z, major := k.major, minor := k.minor, foot := k.foot, wet := k.wet, suspect := k.suspect }

/-- From a whole footprint (07 R209). -/
def measPalm (s : State) (j : Joined) : Meas :=
  let k := highest j.nodes
  let m := momentsOf (s.bnat 0x202 : Nat) k.p j.nodes
  let w := m.w.toNat
  let ax := axes m
  { cx := if w = 0 then k.p.1 else k.p.1 * w + m.su
    cy := if w = 0 then k.p.2 else k.p.2 * w + m.sv
    cw := if w = 0 then 1 else w
    x := coordOf k.p.1 m.su w s.surfaceCols, y := coordOf k.p.2 m.sv w s.surfaceRows
    z := (clampInt 0 65535 (sumInt (j.nodes.map (·.d)))).toNat, major := ax.1, minor := ax.2
    foot := j.nodes.map fun n => (n.p.1, n.p.2, n.d)
    wet := j.wet, suspect := j.suspect }

/-- A matched contact takes its measurement: centroids, moved or held, travel (07 R198, R201, R202, R214). DESIGN CHOICE (log
96): the reported position of a contact that ends in or after withheld frames, and of its TAP, has followed each moved one of
them. -/
def Contact.take (c : Contact) (mt : Nat) (stamp : Time) (m : Meas) : Contact :=
  let moved := decide (mt ≤ (m.x - c.rx).natAbs) || decide (mt ≤ (m.y - c.ry).natAbs)
  { c with
    px := c.cx, py := c.cy, pw := c.cw, cx := m.cx, cy := m.cy, cw := m.cw, x := m.x, y := m.y
    rx := if moved then m.x else c.rx, ry := if moved then m.y else c.ry
    z := m.z, major := m.major, minor := m.minor
    travel2 := max c.travel2 ((m.x - c.sx) ^ 2 + (m.y - c.sy) ^ 2).toNat
    stamp := stamp, missed := 0, suspect := m.suspect, wet := m.wet, foot := m.foot
    state := if moved then 1 else 2 }

/-- An unmatched contact keeps what it has (07 R198). The marks of its footprint are those of the present frame (06
R162, R172); a cascade's master, which does not see the nodes of other tiles, keeps the latest ones (log 12). -/
def Contact.keep (s : State) (c : Contact) : Contact :=
  let c := { c with px := c.cx, py := c.cy, pw := c.cw, state := 2 }
  if s.inCascade then c
  else
    let water := waterNodes s
    { c with
      wet := c.foot.any fun n => water.any fun q => decide (cheb (n.1, n.2.1) q ≤ 1)
      suspect := c.foot.any fun n => s.marked (n.1, n.2.1) }

/-! ## Ownership (09 R286) -/

/-- Coordinates of the column seams and of the row seams. -/
def State.colSeams (s : State) : List Int :=
  if s.inCascade && s.casc.planValid then
    ((List.range s.casc.cols).drop 1).map fun c => (64 * (s.originOf c).1 : Nat)
  else []
def State.rowSeams (s : State) : List Int :=
  if s.inCascade && s.casc.planValid then
    ((List.range s.casc.rows).drop 1).map fun r => (64 * (s.originOf (4 * r)).2 : Nat)
  else []

/-- Is the centroid within 3 pitches of a seam (09 R287)? -/
def nearSeam (s : State) (x y : Int) : Bool :=
  (s.colSeams.any fun v => decide ((x - v).natAbs < 192)) || s.rowSeams.any fun v => decide ((y - v).natAbs < 192)

/-- How many seams lie `d` or more below a coordinate. -/
def seamsBelow (seams : List Int) (d v : Int) : Nat := (seams.filter fun q => decide (q + d ≤ v)).length

/-- The nominal owner of a centroid. -/
def nominalOwner (s : State) (x y : Int) : Nat := 4 * seamsBelow s.rowSeams 192 y + seamsBelow s.colSeams 192 x

/-- The tile in whose nominal territory the centroid lies at least 128 from its edge. -/
def deepOwner (s : State) (x y : Int) : Option Nat :=
  let c := seamsBelow s.colSeams 320 x
  let r := seamsBelow s.rowSeams 320 y
  if seamsBelow s.colSeams 64 x = c ∧ seamsBelow s.rowSeams 64 y = r then some (4 * r + c) else none

/-- The run of a contact in another tile's territory (09 R286). -/
def Contact.rivalStep (s : State) (c : Contact) : Contact :=
  match deepOwner s c.x c.y with
  | some t =>
    if t = c.owner then { c with rival := none }
    else match c.rival with
    | some (t', n) => { c with rival := some (t, if t' = t then n + 1 else 1) }
    | none => { c with rival := some (t, 1) }
  | none => { c with rival := none }

/-- Ownership passes (09 R286, R297). -/
def passOwner (id : Nat) (s : State) : State :=
  match s.trk.ownerDue.find? fun e => e.1 == id with
  | some (_, t) =>
    { s with trk := { s.trk with
        ownerDue := s.trk.ownerDue.filter fun e => e.1 != id
        contacts := s.trk.contacts.map fun (c : Contact) => if c.id = id then { c with owner := t, rival := none } else c } }
  | none => s

/-- CONTACT_OWNER_CHANGE (09 R286). -/
def execContactOwnerChange (tk : Tick) (id : Nat) (s : State) : Host.Outcome State Fault Refusal :=
  runAt tk s (passOwner id)

/-! ## Identity (07 R199, R200) -/

/-- Generation of an id. -/
def State.gen (s : State) (id : Nat) : BitVec 4 := tabGet (fun _ => 15) s.trk.gens id

/-- Ids in use: live, or ended and not yet written. -/
def State.idUsed (s : State) (id : Nat) : Bool :=
  (s.trk.contacts.any fun c => c.id == id) || s.trk.ended.any fun c => c.id == id

/-- The id and owner of a new contact at a position, if there is room. -/
def newId (s : State) (x y : Int) : Option (Nat × Nat) :=
  let lim := s.fnat 0x303
  let owner := nominalOwner s x y
  let room :=
    if s.inCascade then
      decide (s.trk.contacts.length < 160) && decide ((s.trk.contacts.filter fun c => c.owner == owner).length < lim)
    else decide (s.trk.contacts.length < lim)
  if room then ((List.range (if s.inCascade then 160 else lim)).find? fun i => !s.idUsed i).map fun i => (i, owner)
  else none

/-- What the idle time asked for in the frame in which a contact is seeded is not made (08 Table 8.7). -/
def noIdle (p : Power) : Power :=
  { p with
    next := match p.next with | some (_, 8, _) => none | n => n
    entry := match p.entry with | some ⟨_, 8, _⟩ => none | e => e }

/-- A new contact (07 R198, R199, R206). In DOZE it may call for ACTIVE (08 Table 8.2). DESIGN CHOICE (log 78): that switch
tests no profile, being none of the instants of 04 R545. -/
def newContact (palm : Bool) (m : Meas) (s : State) : State :=
  match newId s m.x m.y with
  | none => { s with trk := { s.trk with refused := s.trk.refused + 1 } }
  | some (id, owner) =>
    let g := s.gen id + 1
    let c : Contact :=
      { id := id, gen := g, palm := palm, age := 0, missed := 0, cx := m.cx, cy := m.cy, cw := m.cw, px := m.cx
        py := m.cy, pw := m.cw, rx := m.x, ry := m.y, wx := m.x, wy := m.y, z := m.z, major := m.major
        minor := m.minor, x := m.x, y := m.y, start := s.trk.stamp, sx := m.x, sy := m.y, travel2 := 0
        stamp := s.trk.stamp, present := false, suspect := m.suspect, wet := m.wet, seam := false
        longPressed := false, pressPast := false, foot := m.foot, state := 0, fresh := true, owner := owner, rival := none }
    let p := noIdle s.pwr
    let wake := p.st = 2 ∧ s.pnat 0x40E = 1 ∧ p.next = none ∧ s.scan.phase = .frames
    { s with
      trk := { s.trk with
        contacts := insertBy (fun a b => decide (a.id < b.id)) c s.trk.contacts
        gens := tabSet (fun _ => 15) s.trk.gens id g }
      pwr := if wake then { p with next := some (3, 9, s.pnat 0x111) } else p }

/-- A contact ends in a state (3 lifted, 4 cancelled) (07 R198, R204). -/
def endContact (id st : Nat) (s : State) : State :=
  match s.trk.contacts.find? fun c => c.id == id with
  | some c =>
    { s with
      trk := { s.trk with
        contacts := s.trk.contacts.filter fun c => c.id != id
        ended := insertBy (fun a b => decide (a.id < b.id)) { c with state := st, stamp := s.trk.stamp } s.trk.ended
        liftDue := s.trk.liftDue.erase id
        ownerDue := s.trk.ownerDue.filter fun e => e.1 != id }
      base := { s.base with
        rests := s.base.rests.filter fun r => r.id != id
        absorbDue := s.base.absorbDue.erase id } }
  | none => s

/-! ## Gestures (07 R214 to R219) -/

/-- A distance in a record: the nearest whole, halves up. -/
def roundRoot (d2 : Nat) : Nat := (isqrt (4 * d2) + 1) / 2

/-- The gesture record (07 Table 7.6). -/
def gestBytes (code id flags : Nat) (x y a b : Int) (t : Time) : List Byte :=
  [4] ++ leBytes 1 code ++ leBytes 1 id ++ leBytes 1 flags ++ leSigned 2 x ++ leSigned 2 y ++
    leSigned 2 a ++ leSigned 2 b ++ leBytes 4 t.toNat

/-- Is a gesture written (07 R217)? -/
def State.gestOn (s : State) (code : Nat) : Bool := bitAt (s.fnat 0x310) code

/-- A recognised gesture (07 R217, R218). -/
def gesture (code id : Nat) (gen : BitVec 4) (x y a b : Int) (t : Time) (s : State) : State :=
  if s.gestOn code then
    let flags := gen.toNat + bitOf (bitAt (s.fnat 0x311) code) 4
    { s with trk := { s.trk with gests := s.trk.gests ++ [⟨code, id, gestBytes code id flags x y a b t⟩] } }
  else s

/-- No gesture but PALM (07 R214). -/
def Contact.barred (c : Contact) : Bool := c.palm || c.present

/-- May the contact still be a tap at a stamp (07 Table 7.5)? -/
def mayTap (s : State) (c : Contact) : Bool :=
  !c.barred && !c.longPressed && decide (since s.trk.stamp c.start < msTicks (s.fnat 0x312)) &&
    decide (c.travel2 < s.fnat 0x313 ^ 2)

/-- Ticks between two stamps. -/
def apart (a b : Time) : Nat := min (since a b) (since b a)

/-- Squared distance of two starts. -/
def startDist2 (ax ay bx by' : Int) : Nat := ((ax - bx) ^ 2 + (ay - by') ^ 2).toNat

/-- A contact that has lifted as a tap. -/
def tapOf (c : Contact) (lift : Time) : TapRec :=
  ⟨c.id, c.gen.toNat, c.start, lift, c.sx, c.sy, c.rx, c.ry, c.travel2, false, none, none⟩

/-- The first tap of a DOUBLE_TAP that a tap ends (07 R215), deferred or not: not the second of a DOUBLE_TAP, and no part of
a TWO_FINGER_TAP. -/
def firstTap (s : State) (b : TapRec) : Option TapRec :=
  let fits := s.trk.taps.filter fun a =>
    !a.spent && decide (since b.start a.lift < msTicks (s.fnat 0x314)) &&
      decide (startDist2 a.sx a.sy b.sx b.sy < s.fnat 0x315 ^ 2)
  let d := fun (a : TapRec) => startDist2 a.sx a.sy b.sx b.sy
  let age := fun (a : TapRec) => since s.trk.stamp a.lift
  bestBy (fun a c => decide (age a < age c) || (age a == age c &&
    (decide (d a < d c) || (d a == d c && decide (a.id < c.id))))) fits

/-- A tap has its outcome: TAP, or DOUBLE_TAP in its place; `t` is the record's time (07 R215 to R217, R219). A DOUBLE_TAP
that is disabled is recognised all the same, and leaves the TAP; `paired` names a tap of a TWO_FINGER_TAP that is disabled
(R217). -/
def resolveTap (paired : Bool) (b : TapRec) (t : Time) (s : State) : State :=
  let gen := BitVec.ofNat 4 b.gen
  let first := firstTap s b
  let s := { s with trk := { s.trk with
    taps := s.trk.taps ++ [{ b with partner := none, spent := paired || first.isSome }] } }
  match if s.gestOn 2 then first else none with
  | some a =>
    gesture 2 b.id gen b.rx b.ry (roundRoot (startDist2 a.sx a.sy b.sx b.sy) : Nat)
      (ticksMs (since b.start a.lift) : Nat) t s
  | none => gesture 1 b.id gen b.rx b.ry (roundRoot b.travel2 : Nat) (ticksMs (since b.lift b.start) : Nat) t s

/-- A pair gives one TWO_FINGER_TAP (07 R216). -/
def twoFinger (a b : TapRec) (s : State) : State :=
  let mid := fun (p q : Int) => Int.fdiv (p + q + 1) 2
  let long := max (since a.lift a.start) (since b.lift b.start)
  let s := { s with trk := { s.trk with
    taps := s.trk.taps ++ [{ a with spent := true, partner := none, mate := none }, { b with spent := true }] } }
  gesture 9 a.id (BitVec.ofNat 4 a.gen) (mid a.sx b.sx) (mid a.sy b.sy) (b.id % 256 + 256 * b.gen : Nat)
    (ticksMs long : Nat) s.trk.stamp s

/-- Do two taps form a pair (07 R216)? -/
def isPair (s : State) (a b : TapRec) : Bool :=
  let w := msTicks (s.fnat 0x319)
  decide (apart a.start b.start < w) && decide (apart a.lift b.lift < w) &&
    decide (startDist2 a.sx a.sy b.sx b.sy < s.fnat 0x31A ^ 2)

/-- A deferred tap leaves the deferred ones; another one whose contact had the same id stays. -/
def undefer (a : TapRec) (s : State) : State :=
  { s with trk := { s.trk with taps := s.trk.taps.filter (· != a) } }

/-- The swipe of a lifted contact (07 Table 7.5). -/
def swipe (c : Contact) (s : State) : State :=
  let dx := c.x - c.sx
  let dy := c.y - c.sy
  let dist : Int := (s.fnat 0x317 : Nat)
  let held := since s.trk.stamp c.start
  let tall := decide (2 * dx.natAbs ≤ dy.natAbs)
  let wide := decide (2 * dy.natAbs ≤ dx.natAbs)
  let write := fun (code : Nat) (a : Int) => gesture code c.id c.gen c.sx c.sy a (ticksMs held : Nat) s.trk.stamp s
  if msTicks (s.fnat 0x318) ≤ held then s
  else if tall && decide (dy ≤ -dist) then write 4 dy
  else if tall && decide (dist ≤ dy) then write 5 dy
  else if wide && decide (dx ≤ -dist) then write 6 dx
  else if wide && decide (dist ≤ dx) then write 7 dx
  else s

/-- The contact B that a tap A waits for (07 R216). -/
def partnerOf (s : State) (a : TapRec) : Option Nat :=
  let w := msTicks (s.fnat 0x319)
  let fits := s.trk.contacts.filter fun c => c.id != a.id && decide (apart c.start a.start < w)
  (bestBy (fun (p q : Contact) => decide (apart p.start a.start < apart q.start a.start) ||
    (apart p.start a.start == apart q.start a.start && decide (p.id < q.id))) fits).map (·.id)

/-- The taps deferred for a contact are settled by its lift; true when it formed a pair (07 R216, R217). DESIGN CHOICE (log
97): of several that fit, the one that lifted first pairs with it. -/
def settleFor (tap : Bool) (b : TapRec) (s : State) : Bool × State :=
  let mine := s.trk.taps.filter fun t => t.partner == some b.id
  mine.foldl (fun acc a =>
    let s := undefer a acc.2
    let pair := tap && !acc.1 && isPair s a b
    if pair && s.gestOn 9 then (true, twoFinger a b s)
    else (acc.1 || pair, resolveTap pair a a.lift s)) (false, s)

/-- The taps that waited for a contact without being deferred: the first that forms a pair with it is part of a
TWO_FINGER_TAP, which is not written (07 R217). -/
def settleMates (tap : Bool) (b : TapRec) (s : State) : Bool × State :=
  let mine := s.trk.taps.filter fun t => t.mate == some b.id
  let hit := if tap then mine.find? fun a => isPair s a b else none
  (hit.isSome, { s with trk := { s.trk with
    taps := s.trk.taps.map fun (t : TapRec) =>
      if t.mate = some b.id then { t with mate := none, spent := t.spent || some t == hit } else t } })

/-- One contact lifts (07 R198, R215, R216). -/
def liftOne (id : Nat) (s : State) : State :=
  match s.trk.contacts.find? fun c => c.id == id with
  | none => s
  | some c =>
    let s := endContact id 3 s
    let b := tapOf c s.trk.stamp
    let tap := mayTap s c
    let s := if c.barred then s else swipe c s
    let r := settleFor tap b s
    let q := settleMates (tap && !r.1) b r.2
    let s := q.2
    if !tap || (r.1 && s.gestOn 9) then s
    else
      let next := if r.1 || q.1 then none else partnerOf s b
      if s.gestOn 9 && next.isSome then { s with trk := { s.trk with taps := s.trk.taps ++ [{ b with partner := next }] } }
      else resolveTap (r.1 || q.1) { b with mate := next } s.trk.stamp s

/-- Every due lift up to an id, in ascending order. -/
def liftUpTo (id : Nat) (s : State) : State :=
  (sortBy (fun a b => decide (a < b)) (s.trk.liftDue.filter (· ≤ id))).foldl (fun s i => liftOne i s) s

/-- CONTACT_LIFT (07 R198): with every lower id that lifts in the same frame before it (R216). -/
def execContactLift (tk : Tick) (id : Nat) (s : State) : Host.Outcome State Fault Refusal :=
  runAt tk s fun s => if s.trk.liftDue.contains id then liftUpTo id s else s

/-- Is a contact's LONG_PRESS due: is this the first frame that has reached its time (07 Table 7.5)? -/
def pressReady (s : State) (c : Contact) : Bool :=
  !c.barred && !c.longPressed && !c.pressPast && !s.trk.liftDue.contains c.id &&
    reached s.trk.stamp (tAdd c.start (msTicks (s.fnat 0x316))) && decide (c.travel2 < s.fnat 0x313 ^ 2)

/-- The state and position that a live contact reports: after withheld frames measured against its record in the
last written group (07 R201, R202, R223). DESIGN CHOICE (log 96): a contact born in a withheld frame is reported as new at the
position that it had when born or last moved. -/
def reported (s : State) (c : Contact) : Nat × Int × Int :=
  if c.fresh then (0, c.rx, c.ry)
  else if s.trk.withheld = 0 then (c.state, c.rx, c.ry)
  else
    let mt : Int := (s.fnat 0x305 : Nat)
    if decide (mt ≤ ((c.x - c.wx).natAbs : Int)) || decide (mt ≤ ((c.y - c.wy).natAbs : Int)) then (1, c.x, c.y)
    else (2, c.wx, c.wy)

/-- The frame that first reaches the time of a LONG_PRESS is the only one that tests it (07 Table 7.5). -/
def passPresses (s : State) : State :=
  { s with trk := { s.trk with contacts := s.trk.contacts.map fun (c : Contact) =>
      { c with pressPast := c.pressPast || reached s.trk.stamp (tAdd c.start (msTicks (s.fnat 0x316))) } } }

/-- A contact's LONG_PRESS at the position that the frame reports (07 R215, R219). -/
def pressOne (id : Nat) (s : State) : State :=
  match s.trk.contacts.find? fun c => c.id == id with
  | some c =>
    if pressReady s c then
      let s := { s with trk := { s.trk with
        contacts := s.trk.contacts.map fun (q : Contact) => if q.id = id then { q with longPressed := true } else q } }
      let at1 := (reported s c).2
      gesture 3 id c.gen at1.1 at1.2 (roundRoot c.travel2 : Nat) (ticksMs (since s.trk.stamp c.start) : Nat) s.trk.stamp s
    else s
  | none => s

/-- LONG_PRESS (07 R215). -/
def execLongPress (tk : Tick) (id : Nat) (s : State) : Host.Outcome State Fault Refusal :=
  runAt tk s fun s => if s.scan.stage = .tracked then pressOne id s else s

/-- Does a deferral settle without a lift of its partner (07 R216)? -/
def settleReady (s : State) (a : TapRec) : Bool :=
  match a.partner with
  | some b =>
    !s.trk.liftDue.contains b &&
      (match s.trk.contacts.find? fun c => c.id == b with
       | some c => !mayTap s c || decide (msTicks (s.fnat 0x319) ≤ since s.trk.stamp a.lift)
       | none => true)
  | none => false

/-- A deferred tap settles (07 R216). -/
def settleTap (id : Nat) (s : State) : State :=
  match s.trk.taps.find? fun t => t.id == id && settleReady s t with
  | some a => resolveTap false a a.lift (undefer a s)
  | none => s

/-- TAP_DEFERRAL_SETTLE (07 R216). -/
def execTapDeferralSettle (tk : Tick) (id : Nat) (s : State) : Host.Outcome State Fault Refusal :=
  runAt tk s fun s => if s.scan.stage = .tracked then settleTap id s else s

/-! ## Keys (07 R210 to R213; 09 R288) -/

/-- Entry of a key in force. -/
def State.keyIn (s : State) (k : Nat) : List Byte := keyEntry s.part s.scan.latched k

/-- This tile's part of a key (07 R211; 09 R288). -/
def ownPartial (s : State) (k : Nat) : KeyPartial :=
  let e := s.keyIn k
  let inside := s.ownNodes.filter fun p =>
    let g := s.toGlobal p
    decide ((fieldAt e 0 2 : Int) ≤ g.1) && decide (g.1 ≤ (fieldAt e 4 2 : Int)) &&
      decide ((fieldAt e 2 2 : Int) ≤ g.2) && decide (g.2 ≤ (fieldAt e 6 2 : Int))
  let vs := (inside.filter fun p => !s.water p).map s.delta
  let v := if bitAt (byteAt e 14) 0 then sumInt vs
    else match vs with | [] => 0 | a :: r => r.foldl max a
  ⟨k, v, !vs.isEmpty, inside.any s.water, inside.any s.marked, inside.any fun p => (s.cnode p).interp⟩

/-- Every part of a key combined. -/
def keyValue (s : State) (k : Nat) : KeyPartial :=
  let far := (s.casc.members.filter fun m => m.joined && m.reported).flatMap fun m => m.keys.filter fun q => q.key == k
  let all := ownPartial s k :: (if s.inCascade then far else [])
  let vs := (all.filter (·.present)).map (·.value)
  let v := if bitAt (byteAt (s.keyIn k) 14) 0 then sumInt vs
    else match vs with | [] => 0 | a :: r => r.foldl max a
  ⟨k, clampInt (-32768) 32767 v, !vs.isEmpty, all.any (·.wet), all.any (·.suspect), all.any (·.interp)⟩

/-- One step of Table 7.3: the new phase and count, and the phase of a due record. -/
def keyStep (e : List Byte) (v : Int) (k : Key) : Key :=
  let on : Int := (fieldAt e 8 2 : Nat)
  let off := on - (fieldAt e 10 2 : Nat)
  match k.phase with
  | .off =>
    if on ≤ v then
      if byteAt e 12 = 1 then { k with count := 1, due := some .on } else { k with count := 1, phase := .arming }
    else k
  | .arming =>
    if on ≤ v then
      if byteAt e 12 ≤ k.count + 1 then { k with count := k.count + 1, due := some .on }
      else { k with count := k.count + 1 }
    else { k with phase := .off, count := 0 }
  | .on =>
    if v < off then
      if byteAt e 13 = 1 then { k with count := 1, due := some .off } else { k with count := 1, phase := .releasing }
    else k
  | .releasing =>
    if v < off then
      if byteAt e 13 ≤ k.count + 1 then { k with count := k.count + 1, due := some .off }
      else { k with count := k.count + 1 }
    else { k with phase := .on, count := 0 }

/-- Change a key. -/
def State.setKey (s : State) (i : Nat) (k : Key) : State :=
  { s with trk := { s.trk with keys := tabSet (fun _ => Key.idle) s.trk.keys i k } }

/-- Flags of a key record, bits 2:0. -/
def keyFlags (k : Key) : Nat := bitOf k.wet 0 + bitOf k.suspect 1 + bitOf k.interp 2

/-- A key is evaluated in the frame (07 R211, R212). -/
def evalKey (i : Nat) (s : State) : State :=
  let e := s.keyIn i
  if bitAt (byteAt e 14) 1 || s.trk.keySkip.contains i then s
  else
    let p := keyValue s i
    let k := s.key i
    s.setKey i (keyStep e p.value { k with value := p.value, wet := p.wet, suspect := p.suspect, interp := p.interp })

/-- A changed key goes OFF; one that was ON owes a record with CANCELLED, whose value and marks are open
(07 R210; log 2). -/
def changeKey (i : Nat) (s : State) : State :=
  let k := s.key i
  if k.isOn then
    let (f, s) := s.draw
    s.setKey i { k with
      count := 0, due := some .off, cancelled := true, tValue := signed 16 f, tFlags := f / 65536 % 8 + 8 }
  else s.setKey i { k with phase := .off, count := 0 }

/-- A due transition of a key is made (07 R212, Table 7.4). -/
def turnKey (i : Nat) (s : State) : State :=
  let k := s.key i
  match k.due with
  | none => s
  | some ph =>
    let on := ph == .on
    s.setKey i { k with
      phase := ph, due := none, stamp := s.trk.stamp, changes := satAt 255 (k.changes + 1)
      onStamp := if on then s.trk.stamp else k.onStamp
      onTime := if on then 0 else satAt 0xFFFFFFFF (since s.trk.stamp k.onStamp)
      tValue := if k.cancelled then k.tValue else k.value
      tFlags := if k.cancelled then k.tFlags else keyFlags k
      cancelled := false }

/-- KEY_STATE_CHANGE (07 R212). -/
def execKeyStateChange (tk : Tick) (key : Nat) (s : State) : Host.Outcome State Fault Refusal :=
  runAt tk s (turnKey key)

/-- The keys of a frame: changed ones first, then those that are evaluated. -/
def frameKeys (s : State) : State :=
  let s := s.trk.keySkip.foldl (fun s i => changeKey i s) s
  if s.noContacts then s else (List.range (s.fnat 0x381)).foldl (fun s i => evalKey i s) s

/-! ## Rest clocks (06 R169, R170) -/

/-- What the tests of 06 R169 take of a matched contact: peak delta, nodes, flat nodes, drops. -/
structure Shape where
  peak : Int
  nodes : Nat
  flat : Nat
  dropSum : Int
  dropN : Nat
  deriving DecidableEq, Repr

/-- Of a whole footprint by its pieces (09 R285). -/
def shapePalm (j : Joined) : Shape :=
  let flat := fun (p : FootPiece) => let ns := plainNodes p.nodes; flatOf ns (highest ns).d
  let ds := j.pieces.flatMap (·.drops)
  ⟨(highest j.nodes).d, j.nodes.length, sumNat (j.pieces.map flat), dropSumOf ds, ds.length⟩

/-- Of a finger: over its share of the footprint (09 R285; log 47). -/
def shapePeak (k : Peak) : Shape := ⟨k.delta, k.foot.length, k.flat, k.dropSum, k.dropN⟩

/-- The range of some values. -/
def spread : List Int → Nat
  | [] => 0
  | a :: r => (r.foldl max a - r.foldl min a).toNat

/-- Is a contact still (06 R169)? -/
def isStill (s : State) (c : Contact) (h : List (Time × Int × Int × Int)) : Bool :=
  let floor := s.bnat 0x20A
  decide (2 * 8388608 ≤ since s.trk.stamp c.start) && decide (spread (h.map (·.2.1)) < floor) &&
    decide (spread (h.map (·.2.2.1)) < floor) && decide (64 * spread (h.map (·.2.2.2)) < c.z)

/-- Is a contact object-like? -/
def objectLike (s : State) (c : Contact) (sh : Shape) (h : List (Time × Int × Int × Int)) : Bool :=
  let flat := decide (s.bnat 0x208 * sh.nodes ≤ 100 * sh.flat)
  let sharp := decide (0 < sh.dropN) && decide ((s.bnat 0x209 : Int) * sh.peak * (12 * sh.dropN : Nat) ≤ 100 * sh.dropSum)
  isStill s c h && (flat || sharp)

/-- One contact's clock in a frame in which it was matched, and whether the limit is reached. -/
def restStep (s : State) (c : Contact) (sh : Option Shape) : Rest × Bool :=
  let r := (s.base.rests.find? fun r => r.id == c.id).getD ⟨c.id, none, []⟩
  let h := r.hist.filter fun e => decide (since s.trk.stamp e.1 ≤ 2 * 8388608)
  match sh with
  | none => (⟨c.id, none, h⟩, false)
  | some sh =>
    let t0 := if objectLike s c sh h then some (r.since.getD s.trk.stamp) else none
    let due := match t0 with
      | some t => decide (60 * 8388608 * s.bnat 0x207 ≤ since s.trk.stamp t)
      | none => false
    (⟨c.id, t0, (s.trk.stamp, c.x, c.y, (c.z : Int)) :: h⟩, due)

/-- The rest clocks of a frame; contacts of a tile that sent no report keep theirs. -/
def frameRests (shapes : List (Nat × Shape)) (frozen : Nat → Bool) (s : State) : State :=
  let steps := s.trk.contacts.map fun c =>
    if frozen c.owner then
      ((s.base.rests.find? fun r => r.id == c.id).getD ⟨c.id, none, []⟩, false)
    else restStep s c ((shapes.find? fun e => e.1 == c.id).map (·.2))
  { s with base := { s.base with
      rests := steps.map (·.1)
      absorbDue := (steps.filter (·.2)).map fun e => e.1.id } }

/-- This tile's nodes in a footprint and within freeze_radius of it take b = 256·c and become FREE, and the
footprint's box enters the scar list (06 R170; 09 R285). -/
def absorbLocal (foot : List Node) (s : State) : State :=
  let r := s.bnat 0x204
  let fl := foot.map s.toLocal
  let ns := s.allNodes.filter fun p => fl.any fun q => decide (cheb p q ≤ r)
  let mine := fl.filter fun p => s.ownRow p.2 && decide (0 ≤ p.1) && decide (p.1 < ((s.front.senseCount : Nat) : Int))
  let s := { s with base := { s.base with
    nodes := gridMod s.base.nodes ns fun p (n : BNode) =>
      { n with b := if (s.cnode p).hold then n.b else 256 * (s.cnode p).value, st := .free, leave := 0 } } }
  if mine.isEmpty then s else addScar (bbox mine) s

/-- Nodes of the surface that an absorption takes. -/
def absorbArea (s : State) (foot : List Node) : Nat :=
  let r := s.bnat 0x204
  let ds : List Node := (List.range (2 * r + 1)).flatMap fun (i : Nat) => (List.range (2 * r + 1)).map fun (j : Nat) =>
    ((i : Int) - (r : Int), (j : Int) - (r : Int))
  (((foot.flatMap fun p => ds.map fun d => ((p.1 + d.1, p.2 + d.2) : Node)).filter s.onSurface).eraseDups).length

/-- A due object is absorbed (06 R170). -/
def absorb (id : Nat) (s : State) : State :=
  match s.trk.contacts.find? fun c => c.id == id with
  | some c =>
    if !s.base.absorbDue.contains id then s
    else
      let foot : List Node := c.foot.map fun f => (f.1, f.2.1)
      let mins := match s.base.rests.find? fun r => r.id == id with
        | some r => match r.since with | some t => since s.trk.stamp t / (60 * 8388608) | none => 0
        | none => 0
      let area := absorbArea s foot
      let s := endContact id 4 (absorbLocal foot s)
      let s := if s.casc.role = .master then { s with casc := { s.casc with orders := s.casc.orders ++ foot } } else s
      tally 0x204 (d48 [(16, unsigned 16 c.x), (16, unsigned 16 c.y), (16, mins)])
        (envRecord 1 id (unsigned 16 c.x) (unsigned 16 c.y) area s)
  | none => { s with base := { s.base with absorbDue := s.base.absorbDue.erase id } }

/-- OBJECT_ABSORBED (06 R170). -/
def execObjectAbsorbed (tk : Tick) (id : Nat) (s : State) : Host.Outcome State Fault Refusal :=
  runAt tk s fun s => if s.base.absorbDue.contains id then absorb id s else s

/-! ## Palms (07 R209) -/

/-- Nodes that a footprint shares with a contact's last one. -/
def shared (j : Joined) (c : Contact) : Nat :=
  (j.nodes.filter fun n => c.foot.any fun f => n.p == ((f.1, f.2.1) : Node)).length

/-- The footprint with most shared nodes, the larger on a tie. -/
def mostShared (c : Contact) (js : List Joined) : Option Joined :=
  bestBy (fun a b => decide (shared b c < shared a c) ||
    (shared a c == shared b c && decide (b.nodes.length < a.nodes.length))) (js.filter fun j => decide (0 < shared j c))

/-- The footprint a palm contact continues on. -/
def palmNext (s : State) (free : List Joined) (c : Contact) : Option Joined :=
  match mostShared c (free.filter (·.palm)) with
  | some j => some j
  | none =>
    let cont : Int := (s.fnat 0x300 : Nat) - (s.fnat 0x301 : Nat)
    mostShared c (free.filter fun j => (peaksOf j.nodes).any fun k =>
      decide (cont ≤ k.d) && c.foot.any fun f => k.p == ((f.1, f.2.1) : Node))

/-- The tracker at work on a frame: footprints not yet taken, matched ids with their shapes. -/
structure Work where
  s : State
  free : List Joined
  shapes : List (Nat × Shape)
  deriving DecidableEq, Repr

/-- Replace a contact. -/
def State.putContact (s : State) (c : Contact) : State :=
  { s with trk := { s.trk with contacts := s.trk.contacts.map fun q => if q.id = c.id then c else q } }

/-- One palm contact goes on, or is due to lift; one whose owner's report is missing is held (09 R291). -/
def palmStep (frozen : Nat → Bool) (w : Work) (c : Contact) : Work :=
  if frozen c.owner then { w with s := w.s.putContact (c.keep w.s) }
  else match palmNext w.s w.free c with
  | some j =>
    { s := w.s.putContact (c.take (w.s.fnat 0x305) w.s.trk.stamp (measPalm w.s j))
      free := w.free.filter fun q => q != j
      shapes := w.shapes ++ [(c.id, shapePalm j)] }
  | none =>
    let s := w.s.putContact (c.keep w.s)
    { w with s := { s with trk := { s.trk with liftDue := s.trk.liftDue ++ [c.id] } } }

/-- The node a centroid lies on. -/
def Contact.node (c : Contact) : Node :=
  (Int.fdiv (2 * c.cx + c.cw) (2 * c.cw : Nat), Int.fdiv (2 * c.cy + c.cw) (2 * c.cw : Nat))

/-- A new palm contact: the contacts in its footprint are cancelled and a PALM gesture is written. -/
def palmCreate (w : Work) (j : Joined) : Work :=
  let m := measPalm w.s j
  match newId w.s m.x m.y with
  | none => { w with s := newContact true m w.s }
  | some (id, _) =>
    let s := newContact true m w.s
    let hit := s.trk.contacts.filter fun c => c.id != id && j.nodes.any fun n => n.p == c.node
    let s := hit.foldl (fun s c => endContact c.id 4 s) s
    let s := gesture 8 id (s.gen id) m.x m.y (j.nodes.length : Nat) 0 s.trk.stamp s
    { w with s := s, shapes := w.shapes ++ [(id, shapePalm j)] }

/-- Row-major first node of a footprint. -/
def firstNode (j : Joined) : Node := (bestBy rowMajor (j.nodes.map (·.p))).getD (0, 0)

/-- The palms of a frame: live ones in ascending id, then the new ones. -/
def framePalms (frozen : Nat → Bool) (w : Work) : Work :=
  let w := (w.s.trk.contacts.filter (·.palm)).foldl (palmStep frozen) w
  let fresh := sortBy (fun a b => rowMajor (firstNode a) (firstNode b)) (w.free.filter (·.palm))
  let w := fresh.foldl palmCreate w
  { w with free := w.free.filter fun j => !j.palm }

/-! ## Matching and seeding (07 R198) -/

/-- Predicted centroid of a contact as a weighted sum. -/
def Contact.pred (c : Contact) : Int × Int × Nat :=
  if 2 ≤ c.age then (2 * c.cx * c.pw - c.px * c.cw, 2 * c.cy * c.pw - c.py * c.cw, c.cw * c.pw)
  else (c.cx, c.cy, c.cw)

/-- Squared distance of a contact's prediction from a peak's centroid, in pitches, as a fraction. -/
def pairDist (c : Contact) (m : Meas) : Nat × Nat :=
  let p := c.pred
  let dx := p.1 * m.cw - m.cx * p.2.2
  let dy := p.2.1 * m.cw - m.cy * p.2.2
  ((dx * dx + dy * dy).toNat, (p.2.2 * m.cw) ^ 2)

/-- A candidate pair. -/
structure Pair where
  num : Nat
  den : Nat
  id : Nat
  k : Peak
  deriving DecidableEq, Repr

/-- Order of the pairs: by distance, then id, then the peak in row-major order. -/
def pairLt (a b : Pair) : Bool :=
  decide (a.num * b.den < b.num * a.den) || (a.num * b.den == b.num * a.den &&
    (decide (a.id < b.id) || (a.id == b.id && rowMajor (a.k.col, a.k.row) (b.k.col, b.k.row))))

/-- The pairs of a frame. -/
def pairsOf (s : State) (cs : List Contact) (ks : List Peak) : List Pair :=
  let gate := s.fnat 0x304
  let cont : Int := (s.fnat 0x300 : Nat) - (s.fnat 0x301 : Nat)
  sortBy pairLt (cs.flatMap fun c => (ks.filter fun k => decide (cont ≤ k.delta)).filterMap fun k =>
    let d := pairDist c (measPeak s k)
    if 4096 * d.1 < gate ^ 2 * d.2 then some ⟨d.1, d.2, c.id, k⟩ else none)

/-- The pairs that match, in order. -/
def matchPairs : List Pair → List Nat → List Peak → List (Nat × Peak)
  | [], _, _ => []
  | p :: ps, ids, ks =>
    if ids.contains p.id || ks.contains p.k then matchPairs ps ids ks
    else (p.id, p.k) :: matchPairs ps (p.id :: ids) (p.k :: ks)

/-- A seed is tried (07 R198, R209). -/
def seed (k : Peak) (w : Work) : Work :=
  let margin := w.s.fnat 0x308
  let near := (w.s.trk.contacts.filter (·.palm)).any fun c => c.foot.any fun f =>
    decide (cheb (k.col, k.row) (f.1, f.2.1) ≤ margin)
  if near then w
  else
    let m := measPeak w.s k
    match newId w.s m.x m.y with
    | some (id, _) => { w with s := newContact false m w.s, shapes := w.shapes ++ [(id, shapePeak k)] }
    | none => { w with s := newContact false m w.s }

/-- The fingers of a frame. `frozen` names tiles whose report is missing (09 R291). -/
def frameFingers (frozen : Nat → Bool) (w : Work) : Work :=
  let s := w.s
  let old := s.trk.contacts.filter fun c => !c.palm && decide (0 < c.age)
  let ks := w.free.flatMap (·.peaks)
  let ms := matchPairs (pairsOf s (old.filter fun c => !frozen c.owner) ks) [] []
  let contacts := s.trk.contacts.map fun (c : Contact) =>
    if c.palm || c.age == 0 then c
    else match ms.find? fun e => e.1 == c.id with
    | some e => c.take (s.fnat 0x305) s.trk.stamp (measPeak s e.2)
    | none => if frozen c.owner then c.keep s else { c.keep s with missed := c.missed + 1 }
  let lifts := (contacts.filter fun (c : Contact) =>
    !c.palm && decide (0 < c.missed) && decide (s.fnat 0x306 ≤ c.missed)).map (·.id)
  let w : Work :=
    { w with
      s := { s with trk := { s.trk with contacts := contacts, liftDue := s.trk.liftDue ++ lifts } }
      shapes := w.shapes ++ ms.map fun e => (e.1, shapePeak e.2) }
  let taken := ms.map (·.2)
  let seeds := sortBy (fun (a b : Peak) => decide (b.delta < a.delta) ||
      (a.delta == b.delta && rowMajor (a.col, a.row) (b.col, b.row)))
    (ks.filter fun k => !taken.contains k && decide ((k.theta64 : Int) ≤ 64 * k.delta))
  seeds.foldl (fun w k => seed k w) w

/-! ## The frame -/

/-- What follows for every live contact: age, seam, territory, PRESENT_AT_START (06 R162; 09 R286, R287). -/
def finishContacts (s : State) : State :=
  let cs := s.trk.contacts.map fun (c : Contact) =>
    Contact.rivalStep s { c with
      age := c.age + 1, seam := nearSeam s c.x c.y, present := c.present || (s.base.phase1 && c.suspect) }
  { s with trk := { s.trk with
      contacts := cs
      ownerDue := cs.filterMap fun c => match c.rival with
        | some (t, n) => if 2 ≤ n then some (c.id, t) else none
        | none => none } }

/-- Refused seeds are recorded (07 R200, Table 7.9). DESIGN CHOICE (log 98): in a cascade the event's tile is the master's, which
records it. -/
def refusals (s : State) : State :=
  if s.trk.refused = 0 then s
  else tally 0x108 (d48 [(8, satAt 255 s.trk.refused), (8, s.tileNo), (8, satAt 255 s.trk.contacts.length)]) s

/-- Tiles of joined members whose report is missing in this frame (09 R291). -/
def unreported (s : State) (tile : Nat) : Bool :=
  s.inCascade && (let m := s.casc.members.getD tile .none; m.joined && !m.reported)

/-- The contacts of a frame (07 R189 to R209), but for the two frames of R205. -/
def frameContacts (s : State) : State :=
  let s := if s.base.forcedNow then s.trk.contacts.foldl (fun s c => endContact c.id 4 s) s else s
  if s.noContacts then s
  else
    let frozen := unreported s
    let s := { s with trk := { s.trk with tooMany := s.inCascade && decide (40 < (tilePeaks s).length) } }
    let w := frameFingers frozen (framePalms frozen ⟨s, joinPeaks s (allPieces s) (allPeaks s), []⟩)
    refusals (finishContacts (frameRests w.shapes frozen w.s))

/-- Can a tap still be the first of a DOUBLE_TAP: is it recent, or did a contact or a deferred tap start within the longest
double_gap of its lift (07 R215)? -/
def tapAlive (s : State) (a : TapRec) : Bool :=
  let near := fun (t : Time) => decide (since t a.lift < msTicks 1000)
  near s.trk.stamp || (s.trk.contacts.any fun c => near c.start) || s.trk.taps.any fun t => t.partner.isSome && near t.start

/-- Taps that can be the first of no DOUBLE_TAP are forgotten; a tap waits for no contact that has ended (07 R216). -/
def pruneTaps (s : State) : State :=
  { s with trk := { s.trk with
      taps := (s.trk.taps.filter fun t => t.partner.isSome || tapAlive s t).map fun (t : TapRec) =>
        { t with mate := t.mate.filter fun i => s.trk.contacts.any fun c => c.id == i } } }

/-- The tracker's frame on the master or a standalone tile. -/
def trackFrame (s : State) : State :=
  let s := { s with trk := { s.trk with stamp := s.frameStamp, refused := 0 } }
  let s := s.trk.ownerDue.foldl (fun s e => passOwner e.1 s) s
  let s := pruneTaps (frameKeys (frameContacts s))
  if s.trk.contacts.isEmpty then s else restartIdle s

/-! ## The cascade's part of the frame (09 R277, R284, R285, R291) -/

/-- A member's REPORT (09 Table 9.4). -/
def reportBody (s : State) : ReportBody :=
  let ks := tilePeaks s
  { metrics := s.scan.metrics.map fun m => m.getD 0xFFFF
    headNum := s.scan.headNum, headDen := s.scan.headDen, sat := s.scan.satSeen, levels := s.levels
    noiseMax := s.base.noiseMax, peaks := ks.take 40, pieces := tilePieces s
    keys := ((List.range (s.fnat 0x381)).map (ownPartial s)).filter fun k => k.present || k.wet
    more := decide (40 < ks.length), water := s.ownNodes.any s.water, ready := true, imageBad := false }

/-- Does a parameter of the master apply to every tile (09 R276)? -/
def isShared (id : Nat) : Bool :=
  within 0x100 0x1FF id || within 0x300 0x3FF id || within 0x500 0x5FF id || within 0xC09 0xC0C id

/-- What the master orders (09 Table 9.4, R276). An entry to DORMANT or WATCH is ordered once its wait has ended, so that all
tiles enter together (08 R247). -/
def directBody (s : State) : DirectBody :=
  { activeSet := nextSet s, profile := nextProf s, level := s.scan.nextLevel.getD s.scan.level
    probe := if s.fnat 0x116 = 1 then nextProbe s else none
    absorb := s.casc.orders, envTemp := s.casc.envTemp, envHumid := s.casc.envHumid
    power := some (match s.dueNext with | some n => n.1 | none => s.pwr.st.toNat), snap := [], params := s.params.filter fun e => isShared e.1
    present := s.presentMap }

/-- Is the data of a grid position missing in this frame (09 R291)? -/
def anyMissing (s : State) : Bool :=
  s.casc.planValid && (List.range 16).any fun t => t != 0 && decide (t % 4 < s.casc.cols) && decide (t / 4 < s.casc.rows) &&
    (let m := s.casc.members.getD t .none; !m.joined || !m.reported)

/-- Does a tile's image stream (09 R290)? -/
def tileStreams (s : State) (t : Nat) : Bool := !s.inCascade || bitAt (s.pnat 0x505) t

/-- Flags byte of an image (11 Table 11.7). -/
def imageFlags (warming timeValid : Bool) : Nat := bitOf warming 0 + bitOf timeValid 1

/-- Tiles that contribute to a snapshot (12 R381). -/
def snapTiles (s : State) : List Nat :=
  if s.inCascade then (0 :: s.joinedTiles).filter (tileStreams s) else [0]

/-- A snapshot of the present frame, with what stands before it in the stream of each tile (12 R381; 09 R290). -/
def newSnap (s : State) (mode : Nat) : Snap :=
  let i := s.plane.img
  let now := i.on && decide (2 ^ i.rate ≤ i.count + 1)
  let want := sumNat ((snapTiles s).map (2 ^ ·))
  ⟨mode, s.scan.frameCount.toNat, s.frameStamp.toNat, imageFlags s.warming s.scan.timeValid, want, want, 0,
    s.casc.imgFormed + if now then 1 else 0⟩

/-- The master orders the snapshots that wait, its own among them (12 R381). DESIGN CHOICE (log 41): one that is accepted after
a frame's DIRECT takes the frame after it. -/
def orderSnaps (s : State) : State :=
  { s with bench := { s.bench with snapModes := [], snaps := s.bench.snaps ++ s.bench.snapModes.map (newSnap s) } }

/-- The master's turn once the reports are in: missing members, decisions, DIRECT, which orders the transition that the next
frame start makes (09 R277, R291; 08 R247). -/
def masterFrame (s : State) : State :=
  let count := fun (m : Member) => if m.joined && !m.reported then { m with missed := m.missed + 1 } else { m with missed := 0 }
  let s := { s with casc := { s.casc with degraded := anyMissing s || s.casc.alone, members := s.casc.members.map count } }
  let live := s.casc.members.filter fun m => m.joined && m.reported
  let head := live.foldl (fun h m => maxRatio h (m.headNum, m.headDen)) (s.scan.headNum, s.scan.headDen)
  let sat := s.scan.satSeen || live.any (·.sat)
  let s := frameDecision (decisionMetrics s) head.1 head.2 sat s
  let s := { s with pwr := { s.pwr with ordered := s.pwr.next } }
  let body := { directBody s with snap := s.bench.snapModes }
  let s := orderSnaps s
  sendMsg 0x0B 0xFF (.direct body) { s with casc := { s.casc with orders := [], probeFrom := body.probe, envTemp := [], envHumid := [] } }

/-- What is left of the baseline unit's steps of the frame comes before the tracker. -/
def beforeTracker (s : State) : State :=
  let s := match phase1Due s with | some f => runPhase1 f s | none => s
  let s := flushReleases s
  if s.inCascade then freezeTest s else s

/-- TRACKER_FRAME (07 R198): a member reports, the master and a standalone tile track. -/
def trackerFrame (s : State) : State :=
  let s := { s with scan := { s.scan with stage := .tracked } }
  if s.scan.dropped then s
  else
    let s := beforeTracker s
    match s.casc.role with
    | .standalone => trackFrame s
    | .master => masterFrame (trackFrame s)
    | .member =>
      if s.casc.syncLost then s
      else sendMsg 0x0A 0 (.report (reportBody s)) { s with trk := { s.trk with stamp := s.frameStamp } }

/-! ## What a frame leaves for its group -/

/-- Steps of the frame that no command has performed yet: long presses, lifts, deferrals, keys, scars,
absorptions, the block's end and the end of phase 2. -/
def flushFrame (s : State) : State :=
  let s := passPresses ((s.trk.contacts.map (·.id)).foldl (fun s i => pressOne i s) s)
  let s := s.trk.liftDue.foldl (fun s i => if s.trk.liftDue.contains i then liftUpTo i s else s) s
  let s := (s.trk.taps.filter (·.partner.isSome)).foldl (fun s t => settleTap t.id s) s
  let s := (s.trk.keys.map (·.1)).foldl (fun s i => turnKey i s) s
  let s := s.base.absorbDue.foldl (fun s i => absorb i s) s
  let s := flushScars s.base.scarDue.length s
  let s := if phase2Done s then endPhase2 s else s
  if blockDue s then blockEnd s else s

end Sys2Proof.Machine
end

