-- ==== Sys2Proof/Machine/Power.lean ====
section
/-! DEFINITION. Chapter 08: entry to DORMANT and WATCH, Sill scan, wakes, the wake check, host sleep, idle
times, and the SYNC wake pulse. -/

namespace Sys2Proof.Machine

/-! ## Entry to DORMANT and WATCH (08 R230 to R233) -/

/-- PD4 turns off: the Story Pole stops and the tick fraction reads 0 (02 R37). DESIGN CHOICE (log 4): whether the 16
consecutive beats in range of 02 R32 start anew when PD4 is off in between is not stated; the run `inRange` is carried
over the time off. -/
def poleOff (s : State) : State :=
  { s with time := { s.time with stage := .off, place := 0, t := s.time.t - BitVec.ofNat 56 (s.time.t.toNat % 256) } }

/-- Is an active level source acknowledged (08 R231)? -/
def servedLevel (s : State) (src : Nat) : Bool :=
  levelSources.contains src && s.attn.acked.getLsbD src && levelCond s src

/-- Is nothing owed to the host (08 R231)? Records that wait for space count as content of the report ring. A member serves
no host and follows the master, whose wait has ended when it orders the entry (R247): it owes only what a forwarded command
has it do. -/
def nothingOwed (s : State) : Bool :=
  if s.casc.role = .member then s.bench.outstanding.isEmpty
  else s.cmd.used s.cmdSize == 0 && s.report.used s.reportSize == 0 && s.bench.held.isEmpty &&
    s.bench.faultQueue.isEmpty && s.lvl.waiting.isEmpty && s.bench.outstanding.isEmpty && s.bench.owed.isNone &&
    (List.range 25).all fun src =>
      !(s.attn.pending.getLsbD src || s.attn.inService.getLsbD src) || servedLevel s src

/-- A Sill group at entry to WATCH; after a failed wake check its baseline is kept (08 R239, Table 8.6). -/
def sillAtEntry (keep : Bool) (v : List Byte) (g : Sill) : Sill :=
  if !bitAt (byteAt v 1) 0 then .idle
  else if keep && g.enabled then { g with faulty := false, armed := false, confirms := 0 }
  else { Sill.idle with enabled := true }

/-- Sill scan begins: its first period starts 4 beats later (08 R238, R252). -/
def startSill (keep : Bool) (s : State) : State :=
  { s with pwr := { s.pwr with
      latched := s.params
      sills := (List.range 8).map fun n =>
        if n < s.part.sillGroups then sillAtEntry keep (s.param (0x410 + n)) (s.pwr.sills.getD n .idle) else .idle
      periodT := some (tAdd s.now 1024), window := none, todo := [], run := [] } }

/-- Sill scan ends. -/
def stopSill (s : State) : State :=
  { s with pwr := { s.pwr with periodT := none, window := none, todo := [], run := [] } }

/-- A ring is emptied. -/
def Ring.clear (r : Ring) : Ring := { r with items := [], tail := r.head }

/-- What PD1 to PD5 lose at entry: the sources (but for acknowledged activations), the image and record rings,
Level, the sensor bus, the Tenon ports, and node memory when it is not retained (08 R230 to R232). -/
def powerDown (s : State) : State :=
  let keep := s.pnat 0x40B == 1
  let s := if keep then discardBlock s
    else loseBaselines { s with plane := { Plane.initial with dets := s.plane.dets, detAt := s.plane.detAt, detCfg := s.plane.detCfg }, trk := Tracker.initial }
  let s := busSleep (pd5Off (closeSession false s))
  poleOff { s with
    base := { s.base with tRetained := s.base.tComp }
    tel := if keep then s.tel else { Tel.initial with clearedAt := s.now, dayFrom := s.now, periodFrom := s.now }
    image := s.image.clear
    record := s.record.clear
    lvl := { s.lvl with waiting := [], queue := [], running := none, tooFast := false, held := [], slots := s.lvl.slots.map fun q => { q with timerNext := none, trigWas := none } }
    mem := { s.mem with
      refsHeld := if keep then s.mem.refsHeld else [none, none, none, none], begun := none
      issued := if s.pnat 0xA03 = 1 ∧ 0 < s.mem.size then [.powerDown] else s.mem.issued }
    casc := { s.casc with ports := s.casc.ports.map fun p => if p.phase = .fault then p else .initial, ackWait := [] }
    attn := { s.attn with
      pending := 0, active := 0, inService := 0, claimed := 0, attnN := false, wake := .low, wakeDue := none, wakeSet := false }
    pwr := { s.pwr with pd1 := false, pd2 := false, pd4 := false, nodesHeld := keep, entry := none, entryRan := none, next := none, entryT := some s.now } }

/-- Entry to a state (08 R231, R232): Tally records the transition, then the domains turn off. In a cascade the
master orders it (R247). -/
def sleepNow (target cause : Nat) (s : State) : State :=
  let s := tallyBy (powerOrigin cause) 0x403 (d48 [(8, s.pwr.st.toNat), (8, target), (8, cause)]) s
  let s := if s.casc.role = .master then sendMsg 0x0B 0xFF (.direct { directBody s with power := some target }) s else s
  let s := powerDown s
  let s := { s with pwr := { s.pwr with st := BitVec.ofNat 2 target } }
  if target = 1 then startSill (cause == 12) s else s

/-- The state that an entry reaches, tested at the entry: WATCH by sleep or idle needs a Sill group, and a failed wake check
reaches DORMANT without one (08 R544). -/
def entryTarget (target cause : Nat) (s : State) : Option Nat :=
  if cause = 12 then some (if s.anySill then 1 else 0)
  else if target = 1 ∧ (cause = 7 ∨ cause = 8) ∧ !s.anySill then none
  else some target

/-- An entry that is not made: the present state stays and the idle time restarts (08 R544). DESIGN CHOICE (log 80): what scanned
when the entry was requested scans again, DOZE with doze_profile. -/
def stayAwake (s : State) : State :=
  let ran := s.pwr.entryRan
  let s := restartIdle { s with pwr := { s.pwr with entry := none, entryRan := none } }
  if s.pwr.st = 2 then startScan (s.pnat 0x408) false .waitPump s
  else match ran with
  | some p => startScan p false .waitPump s
  | none => s

/-- SLEEP_ENTRY (08 R231): at the first beat at which nothing is owed to the host. The beat is the one that ends here, so that a
packet committed in it holds the entry back (12 Table 12.18; log 100). -/
def execSleepEntry (tk : Tick) (s : State) : Host.Outcome State Fault Refusal :=
  runAt tk s fun s =>
    match s.pwr.entry with
    | some ⟨target, cause, none⟩ =>
      if s.scan.phase = .stopped ∧ nothingOwed s ∧ s.now.toNat % 256 = 0 ∧ !s.trust.boundary then
        match entryTarget target cause s with
        | some t => sleepNow t cause s
        | none => stayAwake s
      else s
    | _ => s

/-! ## Wakes (08 R235, R236, R242, R245, R248) -/

/-- A wake that begins: its cause, its state, and the profile of a wake into scanning. -/
abbrev Wake := Nat × Nat × Option Nat

/-- Two wakes of one beat (08 Table 8.7). -/
def mergeWakes (active : Nat) (a b : Wake) : Wake :=
  let sill := fun (w : Wake) => w.1 == 1 || w.1 == 2
  let link := a.1 == 3 || b.1 == 3
  if link && (sill a || sill b || a == (3, 3, some active)) then (3, 3, some active)
  else if link then (3, 3, none)
  else if sill a then a
  else if sill b then b
  else a

/-- A tile of a cascade holds SYNC low for 4 beats on a wake that the others follow (08 R247). -/
def pullSync (cause : Nat) (s : State) : State :=
  let pulls := cause == 1 || cause == 2 || (s.casc.role == .master && (cause == 3 || cause == 4))
  if s.inCascade && pulls then { s with pwr := { s.pwr with syncLow := some (tAdd s.now 1024) } } else s

/-- Is an event of the beat in which a wake began still to be merged with it (08 R248)? -/
def wakeBeat (s : State) : Bool := s.pwr.wakeT.toNat / 256 == s.now.toNat / 256

/-- PD1 and PD4 power up for a wake, and with PD4 the Story Pole, VCORE at 0.90 V (08 Table 8.3; 02 R37, R55). No further
Sill window starts; the one that runs may still end in the wake's beat (R248). -/
def startWake (w : Wake) (s : State) : State :=
  match s.pwr.waking with
  | some v =>
    if wakeBeat s then
      pullSync w.1 { s with pwr := { s.pwr with waking := some (mergeWakes (s.pnat 0x111) v w) } }
    else s
  | none =>
    pullSync w.1 { s with
      time := { s.time with stage := .waitEdge, vcoreMv := 900 }
      pwr := { s.pwr with waking := some w, wakeT := s.now, periodT := none } }

/-- Is the chip asleep in DORMANT or WATCH with VDD present and no reset held? -/
def State.dormant (s : State) : Bool := decide (s.pwr.st.toNat < 2) && !s.pwr.onVbk && s.boot.phase == .done

/-- HOST_CS_N_WAKE (08 R245). -/
def execHostCsNWake (tk : Tick) (s : State) : Host.Outcome State Fault Refusal :=
  runAt tk s fun s => if s.dormant then startWake (3, 3, none) s else s

/-- TIMER_WAKE (08 Table 8.2, R544). -/
def execTimerWake (tk : Tick) (s : State) : Host.Outcome State Fault Refusal :=
  runAt tk s fun s =>
    match s.pwr.entryT with
    | some t =>
      if s.dormant ∧ s.pnat 0x40D ≠ 0 ∧ reached s.now (tAdd t (8388608 * s.pnat 0x40D)) then
        startWake (if s.dozeOk then (4, 2, some (s.pnat 0x408)) else (4, 3, none)) s
      else s
    | none => s

/-- SYNC_WAKE_PULSE (08 R247; 09 Table 9.5): 512 ticks or more in DORMANT or WATCH. -/
def execSyncWakePulse (tk : Tick) (low : Nat) (s : State) : Host.Outcome State Fault Refusal :=
  runAt tk s fun s =>
    if s.dormant ∧ s.inCascade ∧ 512 ≤ low ∧ s.pwr.waking = none then startWake (5, 3, some (s.pnat 0x111)) s else s

/-- Has a profile an admissible set (04 R545)? -/
def State.profileReady (s : State) (p : Nat) : Bool :=
  profileOk s.part s.params s.linkRate s.casc.driveCounts (profileOf s.part s.params p)

/-- Node memory at the return from WATCH or DORMANT (08 R235): retained content re-seeds Plane, lost content is a
touch-path restart with acquisition. -/
def returnNodes (badRegions : Nat) (s : State) : State :=
  let held := s.pwr.nodesHeld && badRegions == 0
  let s := if s.pwr.nodesHeld && badRegions != 0 then tally 0x406 (d48 [(16, badRegions)]) s else s
  let s := { s with pwr := { s.pwr with nodesRetained := held, nodesHeld := true } }
  if held then { s with plane := { s.plane with reseedAll := true } }
  else touchRestart (loseBaselines { s with
    plane := { Plane.initial with dets := s.plane.dets, detAt := s.plane.detAt, detCfg := s.plane.detCfg }
    trk := { Tracker.initial with sillSwipe := s.trk.sillSwipe }
    mem := { s.mem with refsHeld := [none, none, none, none] } })

/-- PD1 and PD4 are ready, 4 beats after they powered up: the margins start anew, the detectors are reset, the Tenon
ports start bring-up (02 R55; 05 R154; 09 R262). -/
def domainsUp (s : State) : State :=
  { s with
    time := { s.time with vcoreMv := 900, margins := [], frameMargin := none }
    plane := { s.plane with
      dets := (List.range 8).map fun n => Det.load (s.param (0x680 + n)) (s.plane.dets.getD n .fresh).gain
      detCfg := (List.range 8).map fun n => s.param (0x680 + n)
      detAt := (List.range 8).map fun n => Det.load (s.param (0x680 + n)) (s.plane.dets.getD n .fresh).gain
      detIn := [], detNew := [], detT := s.now }
    casc := { s.casc with
      ports := s.casc.ports.map fun (p : Port) =>
        if p.phase = .fault ∨ !s.inCascade then p else { Port.initial with phase := .bringup, upFrom := some s.now } }
    pwr := { s.pwr with pd1 := true, pd4 := true } }

/-- The wake check runs on a Sill wake into scanning, on the tile that serves the host (08 R242, R247). -/
def checkWanted (cause : Nat) (s : State) : Bool :=
  s.casc.role != .member && (cause == 1 || cause == 2 || cause == 5)

/-- PD1 and PD4 are ready after a wake: the state is reached, and scanning starts (08 R233 to R236, R242). -/
def wakeReady (w : Wake) (badRegions : Nat) (s : State) : State :=
  let (cause, target, profile) := w
  let old := s.pwr.st.toNat
  let s := returnNodes badRegions (domainsUp (stopSill s))
  let go := match profile with | some p => s.profileReady p | none => false
  let check := go && checkWanted cause s
  let s := { s with
    boot := { s.boot with discovered := false }
    pwr := { s.pwr with
      waking := none, st := BitVec.ofNat 2 target, wakeCause := BitVec.ofNat 3 cause, entryT := none
      hostAsleep := s.pwr.hostAsleep && cause != 3, idleFrom := s.now, wakeCheck := check, checkFailed := false
      checkHead := s.report.head, checkRecs := s.report.items.length, checkFrom := none, checkFrames := 0 } }
  let s := tally 0x403 (d48 [(8, old), (8, target), (8, cause)]) s
  let s := raise 23 (pd5Check (busWake s))
  let s := (List.range 16).foldl (fun s n => startTimer n none s) s
  match profile with
  | some p => if go then startScan p false .waitPump s else s
  | none => s

/-! ## Sill scan (08 R238 to R241) -/

/-- A Sill parameter in force since the entry. -/
def State.snat (s : State) (id : Nat) : Nat := nIn s.part s.pwr.latched id

/-- Is a group measured? -/
def Sill.live (g : Sill) : Bool := g.enabled && !g.faulty

/-- The next window from an instant: the first group due whose window ends by the next period start; groups that
do not fit are skipped in this period (08 R239). -/
def pickWindow (s : State) (t next : Time) : List Nat → Option (Nat × Time) × List Nat
  | [] => (none, [])
  | g :: r =>
    let e := tAdd t (256 * byteAt (s.sillEntry g) 0)
    if (s.pwr.sills.getD g .idle).live && reached next e then (some (g, e), r) else pickWindow s t next r

/-- Measure the next group due from an instant. -/
def nextWindow (t : Time) (s : State) : State :=
  match s.pwr.periodT with
  | some next =>
    let r := pickWindow s t next s.pwr.todo
    { s with pwr := { s.pwr with window := r.1, todo := r.2 } }
  | none => s

/-- SILL_PERIOD_START (08 R238): armed groups come first (R239), then the others in ascending order. -/
def execSillPeriodStart (tk : Tick) (s : State) : Host.Outcome State Fault Refusal :=
  runAt tk s fun s =>
    match s.pwr.periodT with
    | some p =>
      if s.pwr.st = 1 ∧ reached s.now p ∧ s.pwr.window = none ∧ s.pwr.waking = none then
        let live := (List.range 8).filter fun g => (s.pwr.sills.getD g .idle).live
        let armed := live.filter fun g => (s.pwr.sills.getD g .idle).armed
        let rest := live.filter fun g => !(s.pwr.sills.getD g .idle).armed
        nextWindow p { s with pwr := { s.pwr with periodT := some (tAdd p (256 * s.snat 0x400)), todo := armed ++ rest } }
      else s
    | none => s

/-- What a reading does to its group: the group, whether it is an onset, and whether the detection is confirmed
(08 R239). -/
def sillRead (threshold confirm shift count : Nat) (g : Sill) : Sill × Bool × Bool :=
  let g := { g with last := count }
  if g.acq < 4 then
    let sum := g.acqSum + count
    ({ g with acq := g.acq + 1, acqSum := sum, above := false, b := if g.acq = 3 then 64 * (sum : Int) else g.b }, false, false)
  else
    let d : Int := g.b / 256 - (count : Int)
    let hit := decide ((threshold : Int) ≤ d)
    if g.armed then
      let n := g.confirms + 1
      let done := hit && decide (confirm ≤ n)
      ({ g with confirms := n, above := hit, armed := hit && !done }, false, done)
    else if hit then
      let onset := !g.above
      ({ g with above := true, armed := onset && decide (1 < confirm), confirms := 1 }, onset, onset && decide (confirm ≤ 1))
    else
      ({ g with above := false, b := g.b + asr (256 * (count : Int) - g.b) (if d < 0 then 2 else shift) }, false, false)

/-- The run of onsets after a new one (08 R241). -/
def swipeRun (gap : Nat) (run : List (Nat × Time)) (g : Nat) (t : Time) : List (Nat × Time) :=
  match run.getLast? with
  | none => [(g, t)]
  | some (p, tp) =>
    let near := decide (since t tp < 256 * gap) && (g == p + 1 || p == g + 1)
    let way : Int := (g : Int) - p
    let goes := match run with
      | a :: b :: _ => (b.1 : Int) - a.1 == way
      | _ => true
    if near && goes then run ++ [(g, t)] else if near then [(p, tp), (g, t)] else [(g, t)]

/-- The SILL_SWIPE record of a run (08 Table 8.5). -/
def swipeRecord (s : State) (run : List (Nat × Time)) : Gest :=
  let a := run.headD (0, 0)
  let z := run.getLast?.getD (0, 0)
  let n : Int := run.length
  let x := signed 16 (a.1 + 256 * s.tileNo)
  let flags := bitOf (bitAt (s.pnat 0x311) 10) 4
  ⟨10, 0xFF, gestBytes 10 0xFF flags x z.1 (if a.1 < z.1 then n else -n) (ticksMs (since z.2 a.2) : Nat) (s.stampOf z.2)⟩

/-- An onset feeds the run; a run of swipe_groups onsets is a SILL_SWIPE and wakes (08 R241; 07 R217). -/
def sillOnset (g : Nat) (t : Time) (s : State) : State :=
  if s.snat 0x404 ≠ 1 then s
  else
    let run := swipeRun (s.snat 0x406) s.pwr.run g t
    let s := { s with pwr := { s.pwr with run := run } }
    if s.snat 0x405 ≤ run.length then
      let swipeRec := if bitAt (s.pnat 0x310) 10 then some (swipeRecord s run) else none
      startWake (2, 3, some (s.pnat 0x111)) { s with trk := { s.trk with sillSwipe := swipeRec } }
    else s

/-- A count out of range disables the group; with every group disabled the chip goes to DORMANT (08 R240,
Table 8.2). -/
def sillFault (g count : Nat) (s : State) : State :=
  let s := { s with pwr := { s.pwr with
    sills := modAt s.pwr.sills g fun (q : Sill) => { q with faulty := true, armed := false, last := count } } }
  let s := tally 0x407 (d48 [(8, g), (8, 0), (16, count)]) s
  if s.pwr.sills.any (·.live) then s
  else
    let s := tally 0x403 (d48 [(8, s.pwr.st.toNat), (8, 0), (8, 10)]) s
    stopSill { s with pwr := { s.pwr with st := 0 } }

/-- One reading of a group at the end of its window. -/
def sillReading (g : Nat) (t : Time) (edges : Nat) (s : State) : State :=
  let count := satAt 65535 edges
  if count = 65535 ∨ count < 16 then nextWindow t (sillFault g count s)
  else
    let v := s.sillEntry g
    let r := sillRead (fieldAt v 2 2) (s.snat 0x402) (s.snat 0x403) count (s.pwr.sills.getD g .idle)
    let s := { s with pwr := { s.pwr with
      sills := s.pwr.sills.set g r.1, todo := if r.1.armed then g :: s.pwr.todo else s.pwr.todo } }
    let s := if r.2.1 then sillOnset g t s else s
    let s := if r.2.2 ∧ s.snat 0x404 = 0 then startWake (1, 3, some (s.pnat 0x111)) s else s
    if s.pwr.waking.isSome then s else nextWindow t s

/-- SILL_READING (08 R239). -/
def execSillReading (tk : Tick) (group edges : Nat) (s : State) : Host.Outcome State Fault Refusal :=
  runAt tk s fun s =>
    match s.pwr.window with
    | some (g, t) =>
      if s.pwr.st = 1 ∧ g = group ∧ reached s.now t ∧ (s.pwr.waking = none ∨ wakeBeat s) then
        sillReading g t edges { s with pwr := { s.pwr with window := none } }
      else s
    | none => s

/-! ## Wake check (08 R242) -/

/-- Does the check succeed at the first frame group (08 R242)? -/
def trivialCheck (s : State) : Bool := s.pnat 0x407 == 0 || s.pnat 0x311 / 2 % 512 == 0

/-- The check fails: the report ring's write pointer returns to its value at the wake, what was held for the host is dropped,
and scanning ends; the entry follows once it has (08 Table 8.6). -/
def failCheck (s : State) : State :=
  askStop (tally 0x405 (d48 [(8, s.pwr.wakeCause.toNat), (16, satAt 65535 s.pwr.checkFrames)])
    { s with
      report := { s.report with items := s.report.items.take s.pwr.checkRecs, head := s.pwr.checkHead }
      trk := { s.trk with heldSources := 0, withheld := 0, queue := [], ended := [] }
      pwr := { s.pwr with checkFailed := true } })

/-- Has the window of the check passed with no contact live? -/
def checkOver (s : State) : Bool :=
  s.pwr.wakeCheck && !s.pwr.checkFailed && s.trk.contacts.isEmpty &&
    match s.pwr.checkFrom with
    | some t => reached s.now (tAdd t (msTicks (s.pnat 0x407)))
    | none => false

/-- WAKE_CHECK_TIMEOUT (08 R242). -/
def execWakeCheckTimeout (tk : Tick) (s : State) : Host.Outcome State Fault Refusal :=
  runAt tk s fun s => if checkOver s ∧ !trivialCheck s then failCheck s else s

/-! ## Host sleep and idle (08 R233, R243, R244, R544) -/

/-- HSLEEP_RISE (08 R243, R244). -/
def execHsleepRise (tk : Tick) (s : State) : Host.Outcome State Fault Refusal :=
  runAt tk s fun s =>
    if s.pwr.hsleep then s
    else
      let was := s.asleep
      let s := { s with pwr := { s.pwr with hsleep := true } }
      if was then s else fallAsleep s

/-- The host is awake again. -/
def wakeHost (s : State) : State :=
  if s.asleep then s else { s with pwr := { s.pwr with sleepFrom := none, sleepDue := false } }

/-- HSLEEP_FALL (08 R243). -/
def execHsleepFall (tk : Tick) (s : State) : Host.Outcome State Fault Refusal :=
  runAt tk s fun s => wakeHost { s with pwr := { s.pwr with hsleep := false } }

/-- The later of two instants, the second possibly absent. -/
def laterOf (a : Time) : Option Time → Time
  | some b => if reached b a then b else a
  | none => a

/-- IDLE_TIMEOUT (08 Table 8.2): no contact is live, and the idle time has run. A member follows its master (R247). A contact
seeded in the same frame still ends the request (Table 8.7), so an entry begins after the frame's tracker (idleStop). -/
def execIdleTimeout (tk : Tick) (s : State) : Host.Outcome State Fault Refusal :=
  runAt tk s fun s =>
    let late := fun (from_ : Time) (sec : Nat) => sec != 0 && reached s.now (tAdd from_ (8388608 * sec))
    if s.scan.phase ≠ .frames ∨ s.casc.role = .member ∨ !s.trk.contacts.isEmpty ∨ s.pwr.wakeCheck ∨ s.pwr.entry.isSome ∨ s.pwr.next.isSome then s
    else if s.pwr.st = 3 ∧ late s.pwr.idleFrom (s.pnat 0x409) then askDoze 8 s
    else if s.pwr.st = 2 ∧ s.asleep ∧ late (laterOf s.pwr.idleFrom s.pwr.sleepFrom) (s.pnat 0x40A) then
      (if s.trust.boundary then s else { s with pwr := { s.pwr with entry := some ⟨1, 8, none⟩, next := none } })
    else s

end Sys2Proof.Machine
end

