-- ==== Sys2Proof/Machine/Cascade.lean ====
section
/-! DEFINITION. Chapter 09: the Tenon ports, enumeration, joining, plans, the messages between tiles, SYNC, and
member loss. -/

namespace Sys2Proof.Machine

/-! ## Grid and plan (09 R256 to R259, R273, R279, R280) -/

def State.member (s : State) (t : Nat) : Member := s.casc.members.getD t .none

def State.modMember (s : State) (t : Nat) (f : Member → Member) : State :=
  { s with casc := { s.casc with members := modAt s.casc.members t f } }

/-- What this tile says of itself. -/
def ownCap (s : State) : TileCap := ⟨s.part.code, s.part.maxTiles, s.pnat 0xC00, s.pnat 0xC01⟩

/-- Capability of a joined tile or of the master itself. -/
def capOf (s : State) (t : Nat) : Option TileCap :=
  if t = 0 then some (ownCap s) else if (s.member t).joined then some (s.member t).cap else none

/-- The governing drive_count of a tile-row and sense_count of a tile-column (09 R258). -/
def rowCount (s : State) (r : Nat) : Nat :=
  match (List.range 4).findSome? fun c => capOf s (4 * r + c) with | some k => k.driveCount | none => s.pnat 0xC00
def colCount (s : State) (c : Nat) : Nat :=
  match (List.range 4).findSome? fun r => capOf s (4 * r + c) with | some k => k.senseCount | none => s.pnat 0xC01

/-- Does a tile match its tile-row and tile-column (09 R258)? -/
def geometryOk (s : State) (t : Nat) (k : TileCap) : Bool :=
  let row := (List.range 4).findSome? fun c => if 4 * (t / 4) + c = t then none else capOf s (4 * (t / 4) + c)
  let col := (List.range 4).findSome? fun r => if 4 * r + t % 4 = t then none else capOf s (4 * r + t % 4)
  (match row with | some q => q.driveCount == k.driveCount | none => true) &&
    (match col with | some q => q.senseCount == k.senseCount | none => true)

/-- A tile is refused (09 R298, R299). -/
def refuse (t reason : Nat) (s : State) : State :=
  let s := if t < 16 then s.modMember t fun m => { m with refused := true, joined := false, waiting := false, reason := reason } else s
  tally 0x504 (d48 [(8, t), (8, reason)]) (cascadeRecord 3 t 0xFF reason s)

/-- The most tiles that may join: the smallest max_tiles of the master and every placed tile (09 R257). -/
def tileLimit (s : State) : Nat :=
  ((s.casc.members.filter (·.placed)).map (·.cap.maxTiles)).foldl min s.part.maxTiles

/-- A tile joins (09 R298, R299). -/
def joinOne (t : Nat) (s : State) : State :=
  let s := s.modMember t fun m => { m with joined := true, refused := false, reason := 0, missed := 0, ready := false, imgGot := s.casc.imgFormed }
  tally 0x503 (d48 [(8, t), (16, s.casc.planId.toNat)]) (cascadeRecord 1 t 0xFF 0 s)

/-- Placed tiles join in ascending tile number, or are refused (09 R257, R258, R273). -/
def joinTile (s : State) (t : Nat) : State :=
  let m := s.member t
  if !m.placed || t = 0 then s
  else if s.casc.cols ≤ t % 4 ∨ s.casc.rows ≤ t / 4 then refuse t 8 s
  else if tileLimit s ≤ s.joinedTiles.length + 1 then refuse t 5 s
  else if !geometryOk s t m.cap then refuse t 4 s
  else joinOne t s

/-- The grid of an enumeration (09 R273). -/
def gridOfPlaced (s : State) : Nat × Nat :=
  let placed := 0 :: ((List.range 16).filter fun t => (s.member t).placed)
  let v := s.param 0x502
  let dim := fun (want : Nat) (have_ : Nat) => if want = 0 then have_ else want
  (dim (byteAt v 0) (maxNat (placed.map (· % 4)) + 1), dim (byteAt v 1) (maxNat (placed.map (· / 4)) + 1))

/-- Parameters of the master that apply to every tile (09 R276). -/
def sharedParams (s : State) : List (Nat × List Byte) := s.params.filter fun e => isShared e.1

/-- The plan that the master forms for a profile (09 R279). -/
def planBody (profile : Nat) (s : State) : PlanBody :=
  { planId := (s.casc.planId.toNat + 1) % 65536, cols := s.casc.cols, rows := s.casc.rows
    codeLog := (profileOf s.part s.params profile).codeLog
    driveCounts := (List.range s.casc.rows).map (rowCount s), senseCounts := (List.range s.casc.cols).map (colCount s)
    rate := s.pnat 0x500, firstFrame := 0, params := sharedParams s
    present := s.presentMap ||| 1 }

/-- The first tile-row whose plan is not valid (09 R280). -/
def badRow (b : PlanBody) : Option Nat :=
  (List.range b.driveCounts.length).find? fun r => !planRowOk (2 ^ b.codeLog) b.driveCounts.length r (b.driveCounts.getD r 0)

/-- No baseline is in force until phase 1, on the third frame (06 R159). -/
def freshBase (s : State) : State :=
  { s with base := { s.base with
      nodes := s.base.nodes.map fun c => c.map fun (n : BNode) => { BNode.blank with b := n.b }
      drive := s.base.drive.map fun (l : BLine) => { BLine.blank with b := l.b }
      sense := s.base.sense.map fun (l : BLine) => { BLine.blank with b := l.b }
      delta := [], water := [], inForce := false, blockAt := 0, rests := [], judge := [], ownPhase := [], absorbDue := []
      scarDue := [], releaseDue := [], latched := s.params
      acq := .wait 2 (match s.base.acq with | .wait _ f => f | _ => false) } }

/-- A plan is in force: a touch-path restart with baselines kept (09 R279, R294); a tile that has re-joined acquires anew
(R293). A new tenon_rate gives a new cascade_gap from the next frame start (R278, R301). -/
def applyPlan (b : PlanBody) (s : State) : State :=
  let s := { s with
    scan := { s.scan with profChange := s.scan.profChange || (s.inFrames && s.casc.rate != b.rate) }
    casc := { s.casc with
      planId := BitVec.ofNat 16 b.planId, planValid := true, cols := b.cols, rows := b.rows, codeLog := b.codeLog
      driveCounts := b.driveCounts, senseCounts := b.senseCounts, rate := b.rate, nextPlan := none
      firstFrame := s.scan.frameCount.toNat, alone := false, rejoining := false
      ports := s.casc.ports.map fun (p : Port) => if p.phase = .run then { p with rate := BitVec.ofNat 2 b.rate } else p } }
  touchRestart s

/-- The acquisition of a tile that has re-joined (09 R293). -/
def acquireAnew (s : State) : State := if s.casc.rejoining then freshBase s else s

/-- A plan waits for its first frame, while frames run or where it names one to come, and is in force at once otherwise. Only
a re-join's names one to come: its tile acquires anew (09 R293). -/
def takePlan (b : PlanBody) (s : State) : State :=
  let s := { s with casc := { s.casc with rejoining := s.casc.rejoining || decide (0 < b.firstFrame) } }
  if s.inFrames ∨ 0 < b.firstFrame then { s with casc := { s.casc with nextPlan := some b } }
  else applyPlan b (acquireAnew s)

/-- The plan at a frame start (09 R293, R294). -/
def planAtFrame (s : State) : State :=
  match s.casc.nextPlan with
  | some b =>
    if b.firstFrame = 0 then applyPlan b (acquireAnew s)
    else { s with casc := { s.casc with nextPlan := some { b with firstFrame := b.firstFrame - 1 } } }
  | none => s

/-- The master forms a plan and sends it; an invalid one is recorded and changes nothing, and is answered with
false (09 R280). -/
def formPlan (profile : Nat) (s : State) : Bool × State :=
  let b := planBody profile s
  match badRow b with
  | some r => (false, tally 0x507 (d48 [(16, s.casc.planId.toNat), (8, 1), (8, r)]) s)
  | none =>
    let s := sendMsg 5 0xFF (.plan b) s
    let s := takePlan b s
    let s := { s with casc := { s.casc with planId := BitVec.ofNat 16 b.planId } }
    (true, tally 0x507 (d48 [(16, b.planId), (8, 0), (8, 0xFF)]) (cascadeRecord 6 0xFF 0xFF 0 s))

/-- The master scans its own tile alone, with DEGRADED (09 R280; 18 Table 18.3). -/
def goAlone (s : State) : State :=
  { s with casc := { s.casc with
      alone := true, degraded := true, planValid := false, enumT := none, closedT := none
      members := s.casc.members.map fun m => { m with joined := false } } }

/-- Does a tile fit the plan in force? -/
def fitsPlan (s : State) (t : Nat) (k : TileCap) : Bool :=
  s.casc.planValid && decide (t % 4 < s.casc.senseCounts.length) && decide (t / 4 < s.casc.driveCounts.length) &&
    k.driveCount == s.casc.driveCounts.getD (t / 4) 0 && k.senseCount == s.casc.senseCounts.getD (t % 4) 0

/-- CASCADE_PLAN mode 0 finds no valid plan: the plan in force stays, over the tiles that fit it, and the reply is BAD_PARAM
(09 R280). -/
def keepPlan (s : State) : State :=
  let cols := s.casc.senseCounts.length
  let rows := s.casc.driveCounts.length
  finishOp 0x49 stBadParam [] { s with casc := { s.casc with
    cols := cols, rows := rows, replan := false, enumT := none, closedT := none
    alone := !s.casc.planValid, degraded := s.casc.degraded || !s.casc.planValid
    members := (List.range 16).map fun t =>
      let m := s.member t
      if fitsPlan s t m.cap then m else { m with joined := false } } }

/-- The profile that the cascade starts with. -/
def startProfile (s : State) : Nat :=
  match s.casc.resume with
  | some p => p
  | none => if s.scan.phase = .stopped then s.pnat 0x111 else s.scan.profile

/-- Scanning resumes where a CASCADE_PLAN ended it (09 R294). -/
def resumeScan (s : State) : State :=
  match s.casc.resume with
  | some p => startScan p false .waitPump { s with casc := { s.casc with resume := none } }
  | none => s

/-- No valid plan can be formed: at boot the master goes on alone, at CASCADE_PLAN with the plan in force (09 R280). -/
def noPlan (s : State) : State := resumeScan (if s.casc.replan then keepPlan s else goAlone s)

/-- Every joined member is ready, or given up: the master sends PLAN and TIME (09 R275, R280, R294). -/
def launch (s : State) : State :=
  let r := formPlan (startProfile s) s
  let s := { r.2 with casc := { r.2.casc with closedT := none } }
  if r.1 then resumeScan (sendMsg 6 0xFF (.time s.now.toNat) { s with casc := { s.casc with replan := false } })
  else noPlan s

/-- Are the members ready that the first frame waits for? -/
def allReady (s : State) : Bool := s.casc.closedT.isSome && s.joinedTiles.all fun t => (s.member t).ready

/-- Launch when nothing is left to wait for. -/
def tryLaunch (s : State) : State := if allReady s then launch s else s

/-- May the frames of a cascade begin (09 R275; 18 R505)? A member with a plan whose first frame is still to come counts the
frame pulses towards it (R293). -/
def cascadeReady (s : State) : Bool :=
  match s.casc.role with
  | .standalone => true
  | .master => s.casc.planValid || s.casc.alone
  | .member => s.casc.planValid || s.casc.nextPlan.isSome

/-! ## Image delivery (09 R274) -/

/-- Chunks of 4,092 bytes with their offsets. -/
def chunksOf : Nat → Nat → List Byte → List (Nat × List Byte)
  | 0, _, _ => []
  | n + 1, o, bs => if bs.isEmpty then [] else (o, bs.take 4092) :: chunksOf n (o + 4092) (bs.drop 4092)

/-- The verified image in force goes to a destination. -/
def sendImage (dest : Nat) (s : State) : State :=
  match s.mem.bootSlot with
  | some slot =>
    let img := s.slotBytes slot
    (chunksOf (img.length / 4092 + 1) 0 img).foldl (fun s c => sendMsg 3 dest (.bytes (leBytes 4 c.1 ++ c.2)) s) s
  | none => s

/-- Enumeration closes (09 R273, R274). Where the plan of the tiles that would join is not valid, none joins, but for those
that fit the plan that stays in force (R280). -/
def closeEnum (s : State) : State :=
  let g := gridOfPlaced s
  let s := { s with casc := { s.casc with enumT := none, closedT := some s.now, cols := g.1, rows := g.2 } }
  let u := (List.range 16).foldl joinTile s
  match badRow (planBody (startProfile u) u) with
  | some r =>
    let settled := fun (s : State) (t : Nat) =>
      let m := u.member t
      if m.refused then refuse t m.reason s
      else if m.joined && s.casc.replan && fitsPlan s t m.cap then joinOne t s
      else s
    noPlan (tally 0x507 (d48 [(16, s.casc.planId.toNat), (8, 1), (8, r)]) ((List.range 16).foldl settled s))
  | none => tryLaunch (if u.joinedTiles.isEmpty then u else sendImage 0xFF u)

/-- ENUM_WINDOW_CLOSE (09 R273). -/
def execEnumWindowClose (tk : Tick) (s : State) : Host.Outcome State Fault Refusal :=
  runAt tk s fun s =>
    match s.casc.enumT with
    | some t => if s.casc.role = .master ∧ reached s.now (tAdd t (256 * s.pnat 0x506)) then closeEnum s else s
    | none => s

/-- MEMBER_READY_TIMEOUT (09 R275; 18 Table 18.3): members not ready are absent; a master whose crystal does not
run after 1 s scans alone. -/
def execMemberReadyTimeout (tk : Tick) (s : State) : Host.Outcome State Fault Refusal :=
  runAt tk s fun s =>
    if s.casc.role ≠ .master then s
    else match s.casc.closedT, s.boot.releaseT with
    | some t, _ =>
      if reached s.now (tAdd t (32768 * 256)) then
        let late := s.joinedTiles.filter fun t => !(s.member t).ready
        launch (late.foldl (fun s t => s.modMember t fun m => { m with joined := false, reason := 1 }) s)
      else s
    | none, some t =>
      if !s.ownSource ∧ !s.casc.planValid ∧ s.casc.enumT = none ∧ !s.casc.alone ∧ s.boot.phase = .done ∧
          reached s.now (tAdd t 8388608) then goAlone s
      else s
    | none, none => s

/-! ## Ports (09 R261 to R265) -/

def State.modPort (s : State) (p : Nat) (f : Port → Port) : State :=
  { s with casc := { s.casc with ports := modAt s.casc.ports p f } }

def State.port (s : State) (p : Nat) : Port := s.casc.ports.getD p .initial

/-- REROUTED follows the routes to the joined tiles (09 Table 9.15, Table 9.12 cause 7). -/
def checkRoutes (s : State) : State :=
  let alt := s.casc.role == .master && s.joinedTiles.any fun t => match routeTo s t with | some (_, b) => b | none => false
  if alt = s.casc.rerouted then s
  else cascadeRecord 7 0xFF 0xFF 0 { s with casc := { s.casc with rerouted := alt } }

/-- The master begins enumeration once each of its ports is in RUN or has spent 64 beats in bring-up (09 R271),
its crystal running (18 R505). -/
def enumCheck (s : State) : State :=
  let settled := fun (p : Port) => p.phase == .run || p.phase == .fault ||
    (p.phase == .bringup && match p.upFrom with | some t => reached s.now (tAdd t 16384) | none => false)
  if s.casc.role = .master ∧ s.boot.phase = .done ∧ s.ownSource ∧ !s.casc.planValid ∧ !s.casc.alone ∧
      s.casc.enumT = none ∧ s.casc.closedT = none ∧ s.casc.ports.all settled then startEnum s
  else s

/-- DI and SI inversion of a trial: none, SI, DI, both (09 R262). -/
def inversion (n : Nat) : Bool × Bool := (decide (2 ≤ n % 4), n % 2 == 1)

/-- TENON_POLARITY_TRIAL (09 R262): 8 beats of one state have passed. -/
def execTenonPolarityTrial (tk : Tick) (port : Fin 4) (s : State) : Host.Outcome State Fault Refusal :=
  runAt tk s fun s =>
    let p := s.port port
    match p.upFrom with
    | some t =>
      if p.phase = .bringup ∧ s.pwr.pd1 ∧ reached s.now (tAdd t (2048 * (p.tried + 1))) then
        let v := inversion (p.tried + 1)
        enumCheck (s.modPort port fun q => { q with tried := q.tried + 1, diInv := v.1, siInv := v.2 })
      else s
    | none => s

/-- A member's SILL_SWIPE leaves for the master once a port towards it runs (08 R241; 09 R296). -/
def sendSwipe (s : State) : State :=
  match s.trk.sillSwipe with
  | some g =>
    if s.casc.role = .member ∧ (routeTo s 0).isSome then
      sendMsg 0x0E 0 (.bytes g.bytes) { s with trk := { s.trk with sillSwipe := none } }
    else s
  | none => s

/-- A master that wakes into scanning tells the tiles its state and profile before its first frame (08 R247). -/
def sendState (s : State) : State :=
  if s.casc.role = .master ∧ s.casc.planValid ∧ s.scanning ∧ !s.inFrames then sendMsg 0x0B 0xFF (.direct (directBody s)) s else s

/-- TENON_RUN (09 R262, R271, R293): the port runs; a tile that is placed sends ENUM by it again. -/
def execTenonRun (tk : Tick) (port : Fin 4) (s : State) : Host.Outcome State Fault Refusal :=
  runAt tk s fun s =>
    let p := s.port port
    if p.phase = .bringup ∧ s.pwr.pd1 then
      let inv := bitOf p.diInv 1 + bitOf p.siInv 0
      let rate := if s.casc.planValid then s.casc.rate else 0
      let s := s.modPort port fun q => { q with phase := .run, rate := BitVec.ofNat 2 rate, upFrom := none }
      let s := tally 0x505 (d48 [(8, port), (8, inv), (8, rate)]) (cascadeRecord 4 (s.casc.tile.getD 0xFF) port inv s)
      let s := sendState (sendSwipe (checkRoutes s))
      let placed := match s.casc.role with
        | .master => s.casc.planValid || s.casc.enumT.isSome || s.casc.closedT.isSome
        | .member => s.casc.tile.isSome
        | .standalone => false
      if placed && (port.val == 1 || port.val == 2) then
        let own := s.casc.tile.getD 0
        sendMsg 1 0xFF (.enum (own % 4) (own / 4)) s
      else enumCheck s
    else s

/-- TENON_PORT_DOWN (09 R263). -/
def execTenonPortDown (tk : Tick) (port : Fin 4) (kind : TenonError) (s : State) : Host.Outcome State Fault Refusal :=
  runAt tk s fun s =>
    if s.portRun port then
      let k := match kind with | .parity => 1 | .credit => 2 | .disconnect => 3
      let s := s.modPort port fun _ => { Port.initial with upFrom := some (tAdd s.now 128) }
      let s := { s with casc := { s.casc with relink := s.casc.relink || s.casc.tile.isSome } }
      checkRoutes (tally 0x506 (d48 [(8, port), (8, k)]) (cascadeRecord 5 (s.casc.tile.getD 0xFF) port 0 s))
    else s

/-- TENON_BRINGUP_RESTART (09 R263). -/
def execTenonBringupRestart (tk : Tick) (port : Fin 4) (s : State) : Host.Outcome State Fault Refusal :=
  runAt tk s fun s =>
    match (s.port port).upFrom with
    | some t =>
      if (s.port port).phase = .down ∧ s.pwr.pd1 ∧ reached s.now t then
        s.modPort port fun q => { q with phase := .bringup, upFrom := some s.now, tried := 0 }
      else s
    | none => s

/-- TENON_MESSAGE_CRC_FAIL (09 R264): a message whose CRC fails is discarded and counted. -/
def execTenonMessageCrcFail (tk : Tick) (rx : WireMsg) (s : State) : Host.Outcome State Fault Refusal :=
  runAt tk s fun s =>
    if s.portRun rx.port ∧ !wireOk rx.bytes then { s with tel := { s.tel with tenonCrc := satAt 0xFFFFFFFF (s.tel.tenonCrc + 1) } } else s

/-- A port enters FAULT until the next reset (09 R265, R271). -/
def faultPort (p : Nat) (s : State) : State :=
  checkRoutes (cascadeRecord 9 (s.casc.tile.getD 0xFF) p 0 (s.modPort p fun q => { q with phase := .fault }))

/-- Ports by which a tile passes a broadcast on (09 R266). -/
def passPorts (s : State) (inPort : Nat) : List Nat :=
  let first := decide (s.casc.tile.getD 0 / 4 = 0)
  if first && inPort == 3 then [1, 2].filter s.portRun
  else if !first && inPort == 0 then [2].filter s.portRun
  else []

/-- A message arrives (09 R265, R266): a pairing mismatch faults the port; one for another tile goes on; one for
this tile, or a broadcast, is taken. -/
def receive (h : MsgHdr) (type : Nat) (payload : TenonBody) (take : State → State) (s : State) : State :=
  let p := h.inPort.val
  if s.casc.role = .standalone ∨ !s.portRun p then s
  else if h.port ≠ (p + 2) % 4 then faultPort p s
  else
    let m : TenonMsg := ⟨type, h.dest, h.src, h.seq, [], payload⟩
    if type = 1 then take s
    else if h.dest = 0xFF then
      let on := passPorts s p
      take (if on.isEmpty then s else { s with casc := { s.casc with out := s.casc.out ++ [{ m with ports := on }] } })
    else if s.casc.tile = some h.dest then take s
    else if s.casc.tile.isNone then s
    else sendOne m s

/-- The ACK of a message (09 R267). -/
def sendAck (h : MsgHdr) (type : Nat) (s : State) : State :=
  sendMsg 4 h.src (.bytes (leBytes 1 type ++ leBytes 1 h.seq)) s

/-! ## Enumeration (09 R271, R272) -/

/-- A member takes a position from an ENUM on port `p`: it replies and sends ENUM on; when it had lost its link, it sends
JOIN (09 R271, R293). -/
def takePosition (p c r : Nat) (s : State) : State :=
  let joins := s.casc.relink && s.casc.tile == some (4 * r + c)
  let s := { s with casc := { s.casc with
    tile := some (4 * r + c), relink := false, enumPorts := [p], rejoining := s.casc.rejoining || joins } }
  let s := if joins then sendMsg 0x10 0 (.join (ownCap s)) s else sendMsg 2 0 (.enumReply (ownCap s) c r) s
  sendMsg 1 0xFF (.enum c r) s

/-- A position beyond column or row 3 leaves a member unplaced; it answers by the port on which the ENUM came, and the master
refuses it with reason 8 (09 R271). -/
def stayUnplaced (p c r : Nat) (s : State) : State :=
  let m := newMsg 2 0 (.enumReply (ownCap s) c r) { s with casc := { s.casc with tile := none, enumPorts := [] } }
  { m.2 with casc := { m.2.casc with out := m.2.casc.out ++ [{ m.1 with ports := [p] }] } }

/-- A member meets an ENUM on port `p` that implies a position (09 R271). The
position that it has already is confirmed once more when the port brings it a second time, which the flood of a new
enumeration does (R294; log 81). -/
def memberEnum (p c r : Nat) (s : State) : State :=
  let take := fun (s : State) => if 3 < c ∨ 3 < r then stayUnplaced p c r s else takePosition p c r s
  match s.casc.tile with
  | none => take s
  | some t =>
    if t % 4 = c ∧ t / 4 = r then
      if s.casc.relink || s.casc.enumPorts.contains p then takePosition p c r s
      else { s with casc := { s.casc with enumPorts := p :: s.casc.enumPorts } }
    else if t % 4 ≤ c ∧ t / 4 ≤ r then take { s with casc := { s.casc with relink := false } }
    else faultPort p s

/-- A tile that becomes a member leaves its own slots and pointer alone (14 R434). The rule does not say what becomes of work
on them that is under way. DESIGN CHOICE (log 104): a session closes, its commands end with MEMORY_FAULT, and a boot that
verifies a slot waits for the master's image. -/
def leaveSlots (s : State) : State :=
  let slot := (sessionTarget s).getD 0
  let data := fun (d : Deferred) => if d.opcode = 0x53 then d.par.take 4 else leBytes (if d.opcode = 0x52 then 1 else 8) slot
  let s := (s.running.filter fun d => within 0x52 0x54 d.opcode).foldl (fun s d => finish (some d) stMemoryFault (data d) s) s
  let s := closeSession false s
  { s with boot := { s.boot with
      verifySlot := none
      phase := if s.boot.phase = .verifying then .waitImage else s.boot.phase } }

/-- A master that receives ENUM on W or N becomes a member (09 R272): it stops driving CLK32_IO and SYNC at once, and
leaves WAKE low (01 R18). -/
def demote (s : State) : State :=
  let s := tally 0x508 0 (if s.scan.phase = .stopped then s else endScan s)
  let s := leaveSlots s
  { s with
    pwr := { s.pwr with syncLow := none }
    attn := { s.attn with wake := .low, wakeDue := none }
    time := { s.time with
      clk32 := false
      declared := false, takeoverDue := s.time.crystalRunning, crystalRunning := false, sourceFault := true, sourceCause := 1 }
    casc := { s.casc with
      role := .member, tile := none, members := List.replicate 16 Member.none, planValid := false, nextPlan := none
      enumT := none, closedT := none, redo := false, resume := none, alone := false, cols := 0, rows := 0
      replan := false, linksDown := [], enumPorts := [], told := 0
      ackWait := [], orders := [], syncNext := none, passNext := none } }

/-- ENUM (09 R271, R272). -/
def execEnum (tk : Tick) (hdr : MsgHdr) (col row : Nat) (s : State) : Host.Outcome State Fault Refusal :=
  runAt tk s (receive hdr 1 (.enum col row) fun s =>
    let p := hdr.inPort.val
    let at0 := if p = 3 then (col + 1, row) else (col, row + 1)
    if p = 1 ∨ p = 2 then s
    else match s.casc.role with
    | .master => memberEnum p at0.1 at0.2 (demote s)
    | .member => memberEnum p at0.1 at0.2 s
    | .standalone => s)

/-- TIME and PLAN of a re-join leave once the image is delivered, which its ACKs show (09 R293). -/
def sendPlan (t : Nat) (s : State) : State :=
  if (s.member t).planDue && !(s.casc.ackWait.any fun w => w.msg.type == 3 && w.msg.dest == t) then
    let s := s.modMember t fun m => { m with planDue := false }
    let s := sendMsg 6 t (.time s.now.toNat) s
    sendMsg 5 t (.plan { planBody (startProfile s) s with
      planId := s.casc.planId.toNat, rate := s.casc.rate, codeLog := s.casc.codeLog, firstFrame := 2 }) s
  else s

/-- A member that was lost, or has booted afresh, comes back (09 R257, R293). -/
def rejoin (t : Nat) (k : TileCap) (s : State) : State :=
  let m := s.member t
  let fits := k.driveCount == s.casc.driveCounts.getD (t / 4) 0 && k.senseCount == s.casc.senseCounts.getD (t % 4) 0 &&
    (!m.placed || m.cap.partCode == k.partCode) && decide (t % 4 < s.casc.cols) && decide (t / 4 < s.casc.rows)
  let s := s.modMember t fun m => { m with placed := true, cap := if m.placed then m.cap else k }
  if !fits then refuse t 4 s
  else if tileLimit s ≤ s.joinedTiles.length + 1 then refuse t 5 s
  else
    let s := s.modMember t fun m => { m with
      joined := true, refused := false, waiting := false, reason := 0, missed := 0, ready := false, planDue := true
      imgGot := s.casc.imgFormed }
    let s := sendPlan t (sendImage t s)
    tally 0x503 (d48 [(8, t), (16, s.casc.planId.toNat)]) (cascadeRecord 1 t 0xFF 0 s)

/-- A tile asks to come back: at once, or with CASCADE_PLAN mode 2 (09 R293). -/
def askRejoin (t : Nat) (k : TileCap) (s : State) : State :=
  if t = 0 ∨ 15 < t then s
  else if (s.member t).joined then s
  else if s.pnat 0x504 = 1 then s.modMember t fun m => { m with waiting := true, offer := k }
  else rejoin t k s

/-- A tile answers while enumeration is open; a new answer restarts enum_window (09 R271, R273). -/
def placeTile (t : Nat) (cap : TileCap) (s : State) : State :=
  let m := s.member t
  if m.placed && m.cap == cap then s
  else
    let s := s.modMember t fun m => { m with placed := true, cap := cap }
    { s with casc := { s.casc with enumT := some s.now } }

/-- ENUM_REPLY (09 R271, R273). -/
def execEnumReply (tk : Tick) (hdr : MsgHdr) (cap : TileCap) (col row : Nat) (s : State) :
    Host.Outcome State Fault Refusal :=
  runAt tk s (receive hdr 2 (.enumReply cap col row) fun s =>
    if s.casc.role ≠ .master then s
    else if 3 < col ∨ 3 < row then refuse 0xFF 8 s
    else
      let t := 4 * row + col
      match s.casc.enumT with
      | some _ => placeTile t cap s
      | none => if s.casc.planValid then askRejoin t cap s else s)

/-- JOIN (09 R293); while enumeration is open it is the tile's answer. -/
def execJoin (tk : Tick) (hdr : MsgHdr) (cap : TileCap) (s : State) : Host.Outcome State Fault Refusal :=
  runAt tk s (receive hdr 0x10 (.join cap) fun s =>
    if s.casc.role ≠ .master ∨ 15 < hdr.src then s
    else if s.casc.enumT.isSome then placeTile hdr.src cap s
    else if s.casc.planValid then askRejoin hdr.src cap s
    else s)

/-! ## Plan, time, orders (09 R275 to R277; 02 R63) -/

/-- Take the parameters that the master holds for every tile, those that it does not send at their defaults (09 R276). A change to a field of the running profile other
than its image stream acts at the next frame start (04 R121). -/
def takeShared (ps : List (Nat × List Byte)) (s : State) : State :=
  let t := applyRecords s.part (s.params.filter fun e => !isShared e.1) ps
  let now := profileOf s.part t s.scan.profile
  let old := { profileOf s.part s.params s.scan.profile with imageMode := now.imageMode, imageRate := now.imageRate }
  { s with params := t, scan := { s.scan with profChange := s.scan.profChange || (s.inFrames && old != now) } }

/-- PLAN (09 R279, R293, R294): a member takes it; a member that does not scan starts its start sequence, with baselines
kept where there are any. -/
def execPlan (tk : Tick) (hdr : MsgHdr) (body : PlanBody) (s : State) : Host.Outcome State Fault Refusal :=
  runAt tk s (receive hdr 5 (.plan body) fun s =>
    if s.casc.role ≠ .member then s
    else
      let s := sendAck hdr 5 s
      let s := takePlan body (takeShared body.params { s with casc := { s.casc with told := body.present } })
      if s.scan.phase = .stopped ∧ s.boot.phase = .done then startScan (s.pnat 0x111) (!s.base.inForce) .waitPump s
      else startStep s)

/-- TIME (02 R63): a member holds the difference to master time. -/
def execTime (tk : Tick) (hdr : MsgHdr) (masterT : Nat) (s : State) : Host.Outcome State Fault Refusal :=
  runAt tk s (receive hdr 6 (.time masterT) fun s =>
    if s.casc.role = .member then
      { s with time := { s.time with masterDiff := BitVec.ofNat 56 masterT - s.now } }
    else s)

/-- The master's order of a power state, with the profile that the master runs in it (08 R247). An entry that it ordered and
no longer orders is dropped. Boundary-scan test mode holds the tile in ACTIVE (15 R459). -/
def powerOrder (target profile : Nat) (s : State) : State :=
  if s.trust.boundary then s
  else if target < 2 then (if s.pwr.entry.isSome then s else askEntry target 5 none s)
  else
    let dropped : Bool := match s.pwr.entry with | some e => e.cause == 5 | none => false
    let s := if dropped then { s with pwr := { s.pwr with entry := none } } else s
    if s.pwr.st.toNat ≠ target then { s with pwr := { s.pwr with next := some (target, 5, profile) } }
    else
      let s := { s with pwr := { s.pwr with next := none } }
      if dropped ∧ s.scan.phase = .stopped then startScan profile false .waitPump s else s

/-- A member carries out what DIRECT orders (09 Table 9.4, R277, R285). -/
def takeDirect (b : DirectBody) (s : State) : State :=
  let s := takeShared b.params s
  let s := { s with
    scan := { s.scan with
      namedSet := some b.activeSet, nextLevel := if b.level = s.scan.level then none else some b.level
      nextProfile := if b.profile = s.scan.profile then none else some b.profile }
    casc := { s.casc with probeFrom := b.probe, told := b.present }
    bench := { s.bench with snapModes := if b.snap.isEmpty then s.bench.snapModes else b.snap } }
  let s := if b.absorb.isEmpty then s else absorbLocal b.absorb s
  let s := b.envTemp.foldl (fun s e => if within 2 3 e.1 then tempReading e.1 e.2 s else s) s
  let s := b.envHumid.foldl (fun s e => if within 2 3 e.1 then humidReading e.1 e.2 s else s) s
  match b.power with
  | some p => powerOrder p b.profile s
  | none => s

/-- DIRECT (09 R277). -/
def execDirect (tk : Tick) (hdr : MsgHdr) (body : DirectBody) (s : State) : Host.Outcome State Fault Refusal :=
  runAt tk s (receive hdr 0x0B (.direct body) fun s => if s.casc.role = .member then takeDirect body s else s)

/-- REPORT (09 R277, R284, R291). -/
def execReport (tk : Tick) (hdr : MsgHdr) (body : ReportBody) (s : State) : Host.Outcome State Fault Refusal :=
  runAt tk s (receive hdr 0x0A (.report body) fun s =>
    if s.casc.role = .master ∧ (s.member hdr.src).joined then
      if body.imageBad then tryLaunch (refuse hdr.src 6 s)
      else tryLaunch (s.modMember hdr.src fun m => { m with
        missed := 0, reported := true, ready := m.ready || body.ready, metrics := body.metrics, headNum := body.headNum
        headDen := body.headDen, sat := body.sat, levels := body.levels, noiseMax := body.noiseMax, peaks := body.peaks
        pieces := body.pieces, keys := body.keys, more := body.more, water := body.water })
    else s)

/-! ## Scarf (09 R281 to R283) -/

/-- The cross deltas of this frame are added to the border nodes, and belong to the same global nodes. -/
def mergeCross (s : State) : State :=
  let d := s.casc.cross.foldl (fun (g : Grid Int) (e : Int × Int × Int) =>
    gridMod g [s.toLocal (e.1, e.2.1)] fun _ v => clamp16 (v + e.2.2)) s.base.delta
  { s with base := { s.base with delta := d }, casc := { s.casc with cross := [] } }

/-- A strip node (09 R282, Table 9.8): ABSENT where the frame gives it no value; its increment where the block's end formed
one (06 R168). -/
def stripNode (s : State) (film : List Node) (p : Node) : StripNode :=
  let n := s.bnode p
  let flags := bitOf (s.water p) 0 + bitOf (s.marked p) 1 + bitOf (n.st == .frozen) 2 + bitOf (s.cnode p).interp 3 +
    bitOf (s.cnode p).hold 4
  ⟨s.delta p, flags, if blockDue s then nodeInc s film p else none⟩

/-- The nodes of a block, columns first. -/
def blockNodes (s : State) (x0 nx y0 ny : Nat) : List Node :=
  (List.range nx).flatMap fun (i : Nat) => (List.range ny).map fun (j : Nat) =>
    (((x0 + i : Nat) : Int), ((s.topRows + y0 + j : Nat) : Int))

/-- Own nodes towards a neighbour at (dc, dr): 6 columns, 6 rows, or a 6 × 6 corner. -/
def edgeNodes (s : State) (dc dr : Int) : List Node :=
  let w := s.front.senseCount
  let h := s.front.driveCount
  let x := if dc = 0 then (0, w) else if 0 < dc then (w - 6, 6) else (0, 6)
  let y := if dr = 0 then (0, h) else if 0 < dr then (h - 6, 6) else (0, 6)
  blockNodes s x.1 x.2 y.1 y.2

/-- Neighbours within the grid as (tile, dc, dr). -/
def neighbours (s : State) : List (Nat × Int × Int) :=
  let c : Int := (s.casc.tile.getD 0 % 4 : Nat)
  let r : Int := (s.casc.tile.getD 0 / 4 : Nat)
  ([(0, -1), (1, 0), (0, 1), (-1, 0), (-1, -1), (1, -1), (1, 1), (-1, 1)] : List (Int × Int)).filterMap fun d =>
    let x := c + d.1
    let y := r + d.2
    if 0 ≤ x ∧ 0 ≤ y ∧ x < (s.casc.cols : Nat) ∧ y < (s.casc.rows : Nat) then some ((4 * y + x).toNat, d.1, d.2) else none

/-- Strips and corner blocks leave after the merge (09 R282). -/
def sendStrips (s : State) : State :=
  let film := if blockDue s then filmNodes s else []
  (neighbours s).foldl (fun s n =>
    let type := if n.2.1 = 0 ∨ n.2.2 = 0 then 8 else 9
    sendMsg type n.1 (.strip ((edgeNodes s n.2.1 n.2.2).map (stripNode s film))) s) s

/-- The cross nodes of the neighbours' border rows leave (09 R281): for each column, rows ascending. -/
def sendCross (s : State) : State :=
  let t := s.casc.tile.getD 0
  let rows := fun (j0 : Nat) => (List.range s.front.senseCount).flatMap fun (x : Nat) =>
    (List.range 4).map fun (i : Nat) => s.delta ((x : Int), ((j0 + i : Nat) : Int))
  let s := if 0 < s.topRows then sendMsg 7 (t - 4) (.cross (rows 0)) s else s
  if 0 < s.botRows then sendMsg 7 (t + 4) (.cross (rows (s.topRows + s.front.driveCount))) s else s

/-- The deltas are merged: the WATER marks are formed on them and the frame's tests follow, then the strips leave (09 R281,
R282). -/
def afterMerge (s : State) : State :=
  let s := { s with base := { s.base with water := formWater s }, casc := { s.casc with merged := true } }
  sendStrips (frameTests s)

/-- Cross deltas that have come for this frame, and those that it waits for. -/
def crossWanted (s : State) : Nat := (s.topRows + s.botRows) * s.front.senseCount

/-- SCARF_CROSS (09 R281): deltas of this tile's border rows as its neighbour sees them. -/
def takeCross (src : Nat) (deltas : List Int) (s : State) : State :=
  let above := decide (src < s.casc.tile.getD 0)
  let o := s.origin
  let row0 := o.2 + if above then 0 else s.front.driveCount - 4
  let mine := (List.range deltas.length).map fun (i : Nat) =>
    (((o.1 + i / 4 : Nat) : Int), ((row0 + i % 4 : Nat) : Int), deltas.getD i 0)
  let s := { s with casc := { s.casc with cross := s.casc.cross ++ mine } }
  if s.scan.stage = .combined ∧ !s.casc.merged ∧ crossWanted s ≤ s.casc.cross.length then afterMerge (mergeCross s) else s

/-- SCARF_CROSS. -/
def execScarfCross (tk : Tick) (hdr : MsgHdr) (deltas : List Int) (s : State) : Host.Outcome State Fault Refusal :=
  runAt tk s (receive hdr 7 (.cross deltas) fun s =>
    if (s.scan.stage = .started ∨ s.scan.stage = .decoded ∨ s.scan.stage = .combined) ∧ !s.casc.merged then
      takeCross hdr.src deltas s
    else s)

/-- Global nodes of the block that a neighbour sends towards this tile. -/
def farNodes (s : State) (src : Nat) : List Node :=
  let own := s.casc.tile.getD 0
  let o := s.originOf src
  let w := s.casc.senseCounts.getD (src % 4) 0
  let h := s.casc.driveCounts.getD (src / 4) 0
  let span := fun (mine far n : Nat) => if mine = far then (0, n) else if mine < far then (0, 6) else (n - 6, 6)
  let x := span (own % 4) (src % 4) w
  let y := span (own / 4) (src / 4) h
  (List.range x.2).flatMap fun (i : Nat) => (List.range y.2).map fun (j : Nat) =>
    (((o.1 + x.1 + i : Nat) : Int), ((o.2 + y.1 + j : Nat) : Int))

/-- Strip and corner nodes received before the tracker begins; later ones are ABSENT (09 R283). -/
def takeStrip (src : Nat) (nodes : List StripNode) (s : State) : State :=
  if s.scan.stage = .none ∨ s.scan.stage = .tracked ∨ s.scan.stage = .written then s
  else
    let at0 := farNodes s src
    let ns := (List.range (min at0.length nodes.length)).map fun i =>
      let p := at0.getD i (0, 0)
      let n := nodes.getD i ⟨0, 16, none⟩
      SeamNode.mk p.1 p.2 n.delta n.flags n.inc
    { s with casc := { s.casc with seam := s.casc.seam ++ ns } }

/-- SCARF_STRIP (09 R282). -/
def execScarfStrip (tk : Tick) (hdr : MsgHdr) (nodes : List StripNode) (s : State) : Host.Outcome State Fault Refusal :=
  runAt tk s (receive hdr 8 (.strip nodes) (takeStrip hdr.src nodes))

/-- SCARF_CORNER (09 R282). -/
def execScarfCorner (tk : Tick) (hdr : MsgHdr) (nodes : List StripNode) (s : State) : Host.Outcome State Fault Refusal :=
  runAt tk s (receive hdr 9 (.strip nodes) (takeStrip hdr.src nodes))

/-! ## Records, acknowledgements, images (09 R267, R274, R290, R296) -/

/-- A cascade event record of a member: the master notes the links that it names, and writes the record with the bitmaps of
Table 9.12 as they stand (09 R266, R296, R298). -/
def memberEvent (bs : List Byte) (s : State) : State :=
  let link := (byteAt bs 2, byteAt bs 3)
  let rest := s.casc.linksDown.filter fun e => e != link
  let s := match byteAt bs 1 with
    | 4 => { s with casc := { s.casc with linksDown := rest } }
    | 5 => { s with casc := { s.casc with linksDown := link :: rest } }
    | 9 => { s with casc := { s.casc with linksDown := link :: rest } }
    | _ => s
  faultRecord (bs.take 4 ++ leBytes 2 s.presentMap ++ leBytes 2 s.absentMap ++ slice bs 8 1 ++
    leBytes 1 (s.casc.planId.toNat % 256) ++ bs.drop 10) (raise 13 s)

/-- A member's record reaches the host's rings with the source of its kind (09 R296). -/
def memberRecord (bs : List Byte) (s : State) : State :=
  match byteAt bs 0 with
  | 5 => postLevel (16 * byteAt bs 27 + byteAt bs 1) bs s
  | 7 => faultRecord bs (raise 12 s)
  | 9 => memberEvent bs s
  | 4 =>
    let g : Gest := ⟨byteAt bs 1, byteAt bs 2, bs⟩
    { s with trk := { s.trk with sillSwipe := some (s.trk.sillSwipe.getD g) } }
  | _ => faultRecord bs (if byteAt bs 1 = 0x0A then raise 20 s else s)

/-- EVENT (09 R296). -/
def execEvent (tk : Tick) (hdr : MsgHdr) (rec : List Byte) (s : State) : Host.Outcome State Fault Refusal :=
  runAt tk s (receive hdr 0x0E (.bytes rec) fun s => if s.casc.role = .master then memberRecord rec s else s)

/-- Forwarded opcodes that are deferred, in some form (12 Tables 12.5 to 12.16). -/
def deferredForward : List Nat := [0x02, 0x18, 0x19, 0x29, 0x40, 0x41, 0x42, 0x58, 0x71, 0x72]

/-- The command of a tile that a reply record answers, by the tag and the opcode of the embedded packet; an acceptance answers
none (09 R295; 12 R385). DESIGN CHOICE (log 103): of two with the same tag and opcode the first is answered, but the second by the
sole reply to a deferred opcode, which is the refusal of a tag in use (R363). -/
def forwardOf (s : State) (tile : Nat) (rec : List Byte) : Option Deferred :=
  let ds := s.running.filter fun d =>
    d.opcode == 0x4A && byteAt d.par 0 == tile && byteAt d.par 5 == byteAt rec 1 && byteAt d.par 4 == byteAt rec 5
  if byteAt rec 8 = 1 then none
  else if byteAt rec 8 = 0 ∧ 1 < ds.length ∧ deferredForward.contains (byteAt rec 5) then ds[1]?
  else ds.head?

/-- FORWARD_REPLY (09 R295; 12 R385). -/
def execForwardReply (tk : Tick) (hdr : MsgHdr) (rec : List Byte) (s : State) : Host.Outcome State Fault Refusal :=
  runAt tk s (receive hdr 0x0D (.bytes rec) fun s =>
    if s.casc.role = .master then finish (forwardOf s hdr.src rec) stOk rec (sendAck hdr 0x0D s) else s)

/-- CASCADE_FORWARD_TIMEOUT (09 R295). -/
def execCascadeForwardTimeout (tk : Tick) (tag : Byte) (s : State) : Host.Outcome State Fault Refusal :=
  runAt tk s fun s =>
    match s.running.find? fun d => d.opcode == 0x4A && d.tag == tag.toNat with
    | some d => if reached s.now (tAdd d.t (32768 * 256)) then finish (some d) stTimeout [] s else s
    | none => s

/-- Bytes of an image arrive at an offset; a chunk at 0 begins anew. -/
def takeChunk (offset : Nat) (bytes : List Byte) (s : State) : State :=
  let old := if offset = 0 then [] else s.casc.imageRx
  let head := (old ++ List.replicate (offset - old.length) 0).take offset
  { s with casc := { s.casc with imageRx := head ++ bytes ++ old.drop (offset + bytes.length) } }

/-- Is a received image whole (14 R430)? -/
def imageWhole (img : List Byte) : Bool :=
  decide (64 ≤ img.length) && decide (128 + imgPayloadLen img ≤ img.length)

/-- IMAGE_CHUNK (09 R274): a member verifies the image once it is whole, the one that it boots from or a later one. -/
def execImageChunk (tk : Tick) (hdr : MsgHdr) (offset : Nat) (bytes : List Byte) (s : State) :
    Host.Outcome State Fault Refusal :=
  runAt tk s (receive hdr 3 (.bytes (leBytes 4 offset ++ bytes)) fun s =>
    if s.casc.role ≠ .member then s
    else
      let s := takeChunk offset bytes (sendAck hdr 3 s)
      if !imageWhole s.casc.imageRx then { s with casc := { s.casc with imageDue := none } }
      else if s.boot.phase = .waitImage then { s with boot := { s.boot with phase := .verifying } }
      else if s.boot.phase = .done then { s with casc := { s.casc with imageDue := some s.now } }
      else s)

/-- ACK (09 R267). -/
def execAck (tk : Tick) (hdr : MsgHdr) (type seq : Byte) (s : State) : Host.Outcome State Fault Refusal :=
  runAt tk s (receive hdr 4 (.bytes [type, seq]) fun s =>
    sendPlan hdr.src { s with casc := { s.casc with
      ackWait := s.casc.ackWait.filter fun w =>
        !(w.msg.type == type.toNat && w.msg.seq == seq.toNat && w.msg.dest == hdr.src) } })

/-! ## Member loss (09 R291, R292) -/

/-- The forwards to a lost member end (12 R385, Table 12.18). -/
def failForwards (t : Nat) (s : State) : State :=
  (s.running.filter fun d => d.opcode == 0x4A && byteAt d.par 0 == t).foldl
    (fun s d => finish (some d) stMemberAbsent [] s) s

/-- A member is lost: its contacts are cancelled, its nodes are ABSENT, then the records, and the forwards to it end
(09 R292). -/
def memberLost (t reason : Nat) (s : State) : State :=
  let s := { s with trk := { s.trk with ownerDue := s.trk.ownerDue.filter fun e => e.2 != t } }
  let s := (s.trk.contacts.filter fun c => c.owner == t).foldl (fun s c => endContact c.id 4 s) s
  let far := farNodes s t
  let s := s.modMember t fun m => { m with joined := false, reported := false, ready := false, planDue := false, reason := reason, peaks := [], pieces := [], keys := [] }
  let s := { s with casc := { s.casc with
    seam := s.casc.seam.filter fun n => !far.contains (n.col, n.row)
    imageIn := s.casc.imageIn.filter fun e => e.1 != t
    ackWait := s.casc.ackWait.filter fun w => w.msg.dest != t } }
  tryLaunch (checkRoutes (failForwards t (tally 0x502 (d48 [(8, t), (8, reason)]) (cascadeRecord 2 t 0xFF reason s))))

/-- MEMBER_LOST (09 R291): without a report for member_timeout frames, or without a route. The spec does not say by what the
master tells a member that has lost SYNC or CLK32, which sends no REPORT, from one without data: the command names reason 1 or
3 (Table 9.12; log 81). -/
def execMemberLost (tk : Tick) (tile reason : Nat) (s : State) : Host.Outcome State Fault Refusal :=
  runAt tk s fun s =>
    let noData := (reason == 1 || reason == 3) && decide (s.pnat 0x503 ≤ (s.member tile).missed)
    let noRoute := decide (reason = 2) && (routeTo s tile).isNone
    if s.casc.role = .master ∧ (s.member tile).joined ∧ (noData || noRoute) then memberLost tile reason s else s

/-- ACK_TIMEOUT (09 R267, R291): sent again up to 3 times; then the member is lost. -/
def execAckTimeout (tk : Tick) (dest type seq : Nat) (s : State) : Host.Outcome State Fault Refusal :=
  runAt tk s fun s =>
    let mine := fun (w : AckWait) => w.msg.dest == dest && w.msg.type == type && w.msg.seq == seq
    match s.casc.ackWait.find? mine with
    | some w =>
      if !reached s.now (tAdd w.sentT (256 * 256)) then s
      else if w.resends < 3 then
        sendOne w.msg { s with casc := { s.casc with
          ackWait := s.casc.ackWait.map fun q => if mine q then { q with sentT := s.now, resends := q.resends + 1 } else q } }
      else
        let s := { s with casc := { s.casc with ackWait := s.casc.ackWait.filter fun q => !mine q } }
        if s.casc.role = .master ∧ (s.member dest).joined then memberLost dest 2 s else s
    | none => s

/-! ## SYNC (09 R269, R270) -/

/-- Instants at which passes after the first start in the frame in progress. -/
def passInstants (s : State) : List Time :=
  ((List.range s.prof.passes).map fun i => tAdd s.scan.frameT (s.passStart i)).filter fun t => t != s.scan.frameT

/-- Does the schedule hold a frame, or a pass of the frame in progress, at an instant (09 R269)? The first frame of a
start is the master's to place. -/
def scheduled (frame : Bool) (t : Time) (s : State) : Bool :=
  if frame then
    (s.scan.phase == .waitFrame && cascadeReady s) || (s.scan.phase == .frames && t == tAdd s.scan.slotT s.scan.frameTicks)
  else s.scan.phase != .stopped && s.scan.stage == .started && (passInstants s).contains t

/-- SYNC_ANNOUNCE (09 R269): the master pulls SYNC low from 64 ticks before a scheduled frame or pass. -/
def execSyncAnnounce (tk : Tick) (frame : Bool) (s : State) : Host.Outcome State Fault Refusal :=
  runAt tk s fun s =>
    let t := tAdd s.now 64
    if s.casc.role = .master ∧ scheduled frame t s then
      { s with
        pwr := { s.pwr with syncLow := some (tAdd s.now (if frame then 24 else 8)) }
        casc := { s.casc with
          syncNext := if frame then some t else s.casc.syncNext, passNext := if frame then none else some t } }
    else s

/-- What a tile does to the SYNC line (09 R268). -/
inductive SyncDrive where
  | low
  | high
  | released
  deriving DecidableEq, Repr

/-- SYNC as this tile drives it now: low to the end of a pulse; then the master drives it high for 4 ticks and leaves it
to the pull-up (09 R268). -/
def syncDrive (s : State) : SyncDrive :=
  match s.pwr.syncLow with
  | some e =>
    if !reached s.now e then .low
    else if s.casc.role == .master && !reached s.now (tAdd e 4) then .high
    else .released
  | none => .released

/-- Which frame of the schedule a pulse belongs to, counted from the latest one: the nearest. -/
def pulseFrame (p t : Time) (ticks : Nat) : Nat := (2 * since t p + ticks) / (2 * max ticks 1)

/-- The frame in progress is mismatched: it counts once (09 R270). -/
def syncMismatch (s : State) : State :=
  if s.casc.syncMiss then s else { s with casc := { s.casc with syncMiss := true, syncBad := s.casc.syncBad + 1 } }

/-- A frame pulse announces an instant (09 R270). The schedule goes on whether pulses come or not: a frame without its
pulse, and one whose pulse begins on another tick, is mismatched. A frame that was not mismatched ends the run of mismatched
ones. While SYNC is lost, two consecutive pulses frame_ticks apart re-lock it. -/
def framePulse (t : Time) (s : State) : State :=
  let ticks := s.scan.frameTicks
  let last := s.casc.syncPulseT
  let s0 := { s with casc := { s.casc with syncPulseT := some t } }
  let lock := fun (s : State) => { s with casc := { s.casc with
    syncLost := false, syncBad := 0, syncMiss := false, syncLocked := true, syncNext := some t, syncFrameT := some t } }
  if s.casc.syncLost then
    if last.map (fun p => tAdd p ticks) = some t then
      levelRelock (touchRestart (lock { s0 with scan := { s0.scan with phase := .waitFrame, stage := .none, stopAt := none } }))
    else s0
  else if !s.casc.syncLocked then lock s0
  else match s.casc.syncFrameT with
  | none => lock s0
  | some p =>
    let j := pulseFrame p t ticks
    let sched := tAdd p (j * ticks)
    let run := (if s.casc.syncMiss || j == 0 then s.casc.syncBad else 0) + (j - 1)
    let s := { s0 with casc := { s0.casc with
      syncBad := run, syncMiss := s.casc.syncMiss && j == 0, syncNext := some t, syncFrameT := some sched } }
    if 0 < j ∧ t = sched then s else syncMismatch s

/-- SYNC_PULSE (09 Table 9.5, R270): classified by the ticks it reads low on the CLK32 tick scale; the instant is 64 ticks
after the first of them. While CLK32 is lost there is no such scale: its loss governs (Table 9.11). -/
def execSyncPulse (tk : Tick) (low : Nat) (s : State) : Host.Outcome State Fault Refusal :=
  runAt tk s fun s =>
    let t := s.now - BitVec.ofNat 56 low + 64
    if s.casc.role ≠ .member ∨ s.dormant ∨ !cascadeReady s ∨ !s.time.cascadeLocked then s
    else if within 16 40 low then framePulse t s
    else if within 4 15 low then
      let s := if (passInstants s).contains t then s else syncMismatch s
      { s with casc := { s.casc with passNext := some t } }
    else if 41 ≤ low then syncMismatch s
    else s

/-- SYNC_LOST (09 R270): two mismatched frames in a row, or no frame pulse for two frames. -/
def execSyncLost (tk : Tick) (s : State) : Host.Outcome State Fault Refusal :=
  runAt tk s fun s =>
    let silent : Bool := match s.casc.syncFrameT with
      | some p => reached s.now (tAdd p (2 * s.scan.frameTicks))
      | none => false
    if s.casc.role = .member ∧ s.casc.syncLocked ∧ !s.casc.syncLost ∧ (2 ≤ s.casc.syncBad ∨ silent) then
      tally 0x509 (d48 [(16, 2)]) (stopDriving { s with casc := { s.casc with syncLost := true } })
    else s

/-! ## Commands of the cascade (09 R294, R300) -/

/-- CASCADE_MAP data (09 R300). -/
def cascadeMapData (s : State) : List Byte :=
  let n := s.casc.cols * s.casc.rows
  let tiles := (List.range 16).filter fun t => decide (t % 4 < s.casc.cols) && decide (t / 4 < s.casc.rows)
  let entry := fun (t : Nat) =>
    let m := s.member t
    let cap := if t = 0 then ownCap s else m.cap
    let st := if t = 0 ∨ m.joined then 0 else if m.refused then 2 else 1
    leBytes 1 t ++ leBytes 1 cap.partCode ++ leBytes 1 st ++ leBytes 1 (if st = 0 then 0 else m.reason) ++
      leBytes 2 cap.driveCount ++ leBytes 2 cap.senseCount
  leBytes 1 (s.casc.cols + 16 * s.casc.rows) ++ leBytes 1 (s.lenLog - 5) ++ leBytes 2 s.casc.planId.toNat ++
    leBytes 2 s.presentMap ++ leBytes 2 s.absentMap ++ (tiles.take n).flatMap entry

/-- CASCADE_PLAN accepted (09 R294); an invalid plan is answered with BAD_PARAM (R280). -/
def cascadePlan (tag mode : Nat) (s : State) : State :=
  match mode with
  | 0 =>
    let on := s.scanning && s.scan.phase != .stopping
    askStop { s with casc := { s.casc with redo := true, replan := true, resume := if on then some s.scan.profile else none } }
  | 1 =>
    let r := formPlan (startProfile s) s
    if r.1 then r.2 else finishTag tag stBadParam [] r.2
  | _ =>
    let ts := (List.range 16).filter fun t => (s.member t).waiting
    ts.foldl (fun s t => rejoin t (s.member t).offer s) s

/-- CASCADE_PLAN_COMPLETE (09 R294): the plan is in force. -/
def execCascadePlanComplete (tk : Tick) (s : State) : Host.Outcome State Fault Refusal :=
  runAt tk s fun s =>
    if s.casc.nextPlan = none ∧ !s.casc.redo ∧ s.casc.enumT = none ∧ s.casc.closedT = none then
      finishOp 0x49 stOk (leBytes 2 s.casc.planId.toNat) s
    else s

end Sys2Proof.Machine
end

