-- ==== Sys2Proof/Machine/Frame.lean ====
section
/-! DEFINITION. The frame as a whole: its start with everything that acts there (04 R102 to R121; 08 R233; 06
R186), the combine, the tracker's step, the image stream and snapshots (05 R140; 11 R344; 09 R290), and the frame
group (07 R220 to R225). -/

namespace Sys2Proof.Machine

/-! ## Frame start (04 R102) -/

/-- Pending line faults act, returns that are due are made, and forced lines follow their bitmaps (03 R87, R89,
R90). -/
def linesAtFrame (s : State) : State :=
  let s := flushFaults s
  let due := (s.front.lines.filter fun e => e.2.nextCause != 0).map (·.1)
  let s := due.foldl (fun s w => let l := s.line w; s.setLine w { l with cause := l.nextCause, nextCause := 0 }) s
  applyForced s.front.forcedBy (flushReturns s)

/-- What is still to come after a transition to a state: one to another state, or the profile of one to that state, which is
none of Table 8.2 but a switch of profile (08 R233; 04 R121). -/
def restOfNext (st p : Nat) (s : State) : State :=
  match s.pwr.next with
  | some (st', _, p') =>
    if st' = st then { s with
      pwr := { s.pwr with next := none }
      scan := { s.scan with nextProfile := if p' = p then s.scan.nextProfile else some p' } }
    else s
  | none => s

/-- A transition between DOZE and ACTIVE at the frame start (08 R233). -/
def powerStep (s : State) : State :=
  match s.dueNext with
  | some (st, cause, p) =>
    let old := s.pwr.st.toNat
    let s := restOfNext st p { s with pwr := { s.pwr with
      st := BitVec.ofNat 2 st, ordered := none, wakeCause := BitVec.ofNat 3 (if cause ≤ 6 then cause else 0) } }
    if old = st then s else tallyBy (powerOrigin cause) 0x403 (d48 [(8, old), (8, st), (8, cause)]) (restartIdle s)
  | none => s

/-- Node memory came back from retention: baselines resume, or are discarded when the temperature has moved by
more than 5 degrees (06 R186). -/
def resumeBase (s : State) : State :=
  if !s.plane.reseedAll || !s.base.inForce then s
  else if (s.base.tComp - s.base.tRetained).natAbs ≤ 1280 then applyFactor s.base.tApplied s
  else
    let s := tally 0x20B (d48 [(16, unsigned 16 s.base.tRetained), (16, unsigned 16 s.base.tComp)]) s
    touchRestart (loseBaselines s)

/-- Does a change of profile restart the touch path (04 R121)? -/
def restartsTouch (a b : Profile) : Bool :=
  a.codeLog != b.codeLog || a.selfPass != b.selfPass || a.passes != b.passes || a.temporal != b.temporal

/-- Parameters and profile of the frame take effect (04 R121, R126; 03 R78; 06 Table 6.4). `first` names the first
frame of a start, `fresh` one by SCAN_START or at boot. -/
def latchParams (first fresh : Bool) (s : State) : State :=
  let old := s.scan.latched
  let p := nextProf s
  let was := s.prof
  let prof := profileOf s.part s.params p
  let ticks := nextTicks first s
  let s := if !first && s.dueNext.isNone && (s.scan.nextProfile.isSome || s.scan.profChange) then
      tallyBy (if s.casc.role = .member then 3 else 1) 0x105 (d48 [(8, s.scan.profile), (8, p), (32, ticks)]) s
    else s
  let s := { s with scan := { s.scan with latched := s.params, profile := p, nextProfile := none, profChange := false, frameTicks := ticks } }
  if fresh then touchRestart (freshBase s)
  else
    let q0 := nIn s.part old 0xC0C
    let q1 := s.fnat 0xC0C
    let s := if q0 = q1 then s else touchRestart (scaleBase (qrefUnits q0) (qrefUnits q1) s)
    let legacy := nIn s.part old 0x120 != s.fnat 0x120 || pIn s.part old 0x121 != pIn s.part s.params 0x121
    let s := if legacy then touchRestart (freshBase s) else s
    if restartsTouch was prof && !s.plane.reseedAll then touchRestart s else s

/-- The active set of the frame: the slot change, then the named set, refilled where it is not admissible (04 R112,
R113). -/
def setAtFrame (s : State) : State :=
  { s with scan := { s.scan with
      slotChange := none, namedSet := none
      activeSet := resolveSet s.scan.latched s.scan.frameTicks s.prof s } }

/-- The swing level of the frame (04 R115 to R117; 03 R67; 19 R518): the profile's highest one when the profile is
new, else the decided one, within the levels of the profile. `clean` names a frame that finds no baseline in
force, whose level is no change of level (log 16). -/
def levelAtFrame (clean switched : Bool) (s : State) : State :=
  let s := if s.front.fallbackDue then
      { s with front := { s.front with vdrvFallback := true, fallbackDue := false, vdrvGood := 0 } }
    else s
  let top := topLevel s s.prof
  let bot := bottomLevel s s.prof
  let want := if switched then top else s.scan.nextLevel.getD s.scan.level
  let ok := (s.commonLevels.filter fun l => decide (l ≤ want)).foldl max 0
  let new := if top < ok then top else if ok < bot then bot else ok
  let old := s.scan.level
  let s := { s with scan := { s.scan with nextLevel := none, level := new, driveRange := false } }
  if clean || new = old then { s with scan := { s.scan with lowRun := if clean then 0 else s.scan.lowRun } }
  else
    tally 0x103 (d48 [(8, old), (8, new), (16, s.rail new)])
      (scaleLevel old new { s with scan := { s.scan with driveRange := true, lowRun := 0 } })

/-- The image stream starts, goes on or ends by the profile of the frame (05 R141). -/
def imageAtFrame (s : State) : State :=
  let i := s.plane.img
  let p := s.prof
  if p.imageMode = 0 then { s with plane := { s.plane with img := .initial } }
  else if i.on && i.mode == p.imageMode && i.rate == p.imageRate then s
  else { s with plane := { s.plane with
      img := { ImageAcc.initial with on := true, mode := p.imageMode, rate := p.imageRate } } }

/-- Acquisition counts the frames that it waits for; a dropped frame is not one of them (06 R159). -/
def acqAtFrame (s : State) : State :=
  match s.base.acq with
  | .wait (n + 1) f => if s.scan.dropped then s else { s with base := { s.base with acq := .wait n f } }
  | _ => s

/-- What belongs to one frame alone starts anew. DESIGN CHOICE (log 79): a change of a key whose first frame is dropped (17
R491) acts in the next frame that is not. -/
def clearFrame (s : State) : State :=
  { s with
    scan := { s.scan with
      stage := .started, passesStarted := 0, passTs := [], passes := [], headNum := 0, headDen := 1, satSeen := false
      probed := false, overRows := [], dropped := false, gapDone := false }
    front := { s.front with selfValid := false }
    base := { s.base with phase1 := false, forcedNow := false, acquiring := false }
    trk := { s.trk with
      keySkip := ((if s.scan.dropped then s.trk.keySkip else []) ++ s.trk.keyChanges).eraseDups, keyChanges := []
      refused := 0, tooMany := false }
    casc := { s.casc with
      seam := [], cross := [], merged := false, probeNow := s.casc.probeFrom
      members := s.casc.members.map fun (m : Member) => { m with reported := false } } }

/-- The frame counter advances (02 R47). -/
def countFrame (s : State) : State :=
  let n := s.scan.frameCount + 1
  let s := { s with scan := { s.scan with frameCount := n, wrapped := decide (n = 0) } }
  if n = 0 then tally 0x107 0 s else s

/-- A frame starts at an instant; DESIGN CHOICE (log 90): TIME_VALID falls with TIMEBASE_FAULT, by the Story Pole's fault too;
everything pending taking effect in the order of 04 Table 4.5 and 06 Table 6.4. -/
def startFrame (at0 : Time) (s : State) : State :=
  let first := s.scan.phase == .waitFrame
  let fresh := first && s.scan.startDetect
  let s := if first then s else dozeBarred s
  let s := if first then s else acqAtFrame s
  let s := linesAtFrame (planAtFrame s)
  let s := if first then resumeBase s else s
  let switched := first || nextProf s != s.scan.profile
  let clean := fresh || (first && !s.base.inForce)
  let s := levelAtFrame clean switched (setAtFrame (powerStep (sourcesAtFrame (latchBase (latchParams first fresh s)))))
  let s := imageAtFrame (countFrame (clearFrame s))
  let s := { s with
    scan := { s.scan with phase := .frames, frameT := at0, slotT := at0, timeValid := !s.tbFault, startDetect := false }
    casc := { s.casc with syncNext := none, passNext := none }
    pwr := { s.pwr with checkFrom := if s.pwr.wakeCheck && s.pwr.checkFrom.isNone then some at0 else s.pwr.checkFrom } }
  let s := if first then restartIdle s else s
  let s := if first then finishOp 0x10 stOk (leBytes 4 s.scan.frameTicks ++ activeBytes s.scan.activeSet) s else s
  frameTriggers s

/-- Do this tile's frames start at the instants that SYNC carries (02 R62)? A master that scans alone has no tile to
lead. -/
def State.followsSync (s : State) : Bool := s.inCascade && !s.casc.alone

/-- The instant at which a frame is due now, if one is: at the end of the slot; in a cascade at the instant that
SYNC announced, on the master too (04 R103; 02 R62; 09 R269). -/
def frameDue (s : State) : Option Time :=
  if !cascadeReady s then none
  else match s.scan.phase with
  | .waitFrame => if s.followsSync then announced s else some s.now
  | .frames =>
    if s.scan.stage = .none ∨ s.scan.stage = .written then
      if s.casc.role = .member then announced s
      else
        let t := tAdd s.scan.slotT s.scan.frameTicks
        if reached s.now t && (!s.followsSync || announced s == some t) then some t else none
    else none
  | _ => none
where
  /-- The announced instant, once it has come. -/
  announced (s : State) : Option Time :=
    match s.casc.syncNext with
    | some t => if reached s.now t && !s.casc.syncLost && s.scan.stopAt.isNone then some t else none
    | none => none

/-- Does a member's plan name a first frame that is still to come (09 R293)? -/
def awaitsFrame (s : State) : Bool :=
  s.scan.phase == .waitFrame && (match s.casc.nextPlan with | some b => decide (0 < b.firstFrame) | none => false)

/-- A frame of the cascade passes by before the member's first. -/
def passFrame (s : State) : State :=
  { s with casc := { s.casc with
      syncNext := none, nextPlan := s.casc.nextPlan.map fun b => { b with firstFrame := b.firstFrame - 1 } } }

/-- FRAME_START (04 R102): at the due instant; a start that SCAN_STOP or an entry ends goes no further (Table
4.5). -/
def execFrameStart (tk : Tick) (s : State) : Host.Outcome State Fault Refusal :=
  runAt tk s fun s =>
    if s.scan.phase = .waitFrame ∧ startEnds s then abortStart s
    else match frameDue s with
    | some t => if awaitsFrame s then passFrame s else startFrame t s
    | none => s

/-- One more slot of ACTIVE, delivered or lost (17 R492, R493). -/
def countSlot (overrun ecc : Bool) (s : State) : State :=
  if s.pwr.st ≠ 3 then s
  else
    let t := s.tel
    { s with tel := { t with
        scheduled := sat32 (t.scheduled + 1)
        lostOverrun := if overrun then sat32 (t.lostOverrun + 1) else t.lostOverrun
        lostEcc := if ecc then sat32 (t.lostEcc + 1) else t.lostEcc
        today := (t.today.1 + 1, t.today.2 + (if overrun || ecc then 1 else 0)) } }

/-- FRAME_SLOT_SKIP (02 R58, R48): the next slot comes while the frame's records are not complete. -/
def execFrameSlotSkip (tk : Tick) (s : State) : Host.Outcome State Fault Refusal :=
  runAt tk s fun s =>
    let t := tAdd s.scan.slotT s.scan.frameTicks
    let late := s.scan.stage == .decoded || s.scan.stage == .combined || s.scan.stage == .tracked
    if s.scan.phase = .frames ∧ late ∧ reached s.now t then
      countSlot true false { s with scan := { s.scan with slotT := t } }
    else s

/-- DETECTION_SELF_PASS (03 R83): against the self baselines of the selected reference, when one is usable. A pass whose
values R73 makes invalid decides nothing, and the orders stay (log 78). -/
def execDetectionSelfPass (tk : Tick) (drive : List SelfMeas) (sense : GuardedSense) (s : State) : Host.Outcome State Fault Refusal :=
  runAt tk s fun s =>
    if s.scan.phase = .waitDetect ∧ cascadeReady s then
      if startEnds s then abortStart s
      else
        let ref := match selectRef s (s.pnat 0x206) with | .ok n => some (s.refBytes n) | .error _ => none
        let s := if guardBad sense.guardDev then guardEvent sense.guardDev s else detectOrders ref drive sense.lines s
        { s with scan := { s.scan with phase := .waitFrame } }
    else s

/-! ## Combine and tracker (05 R134; 06 R156; 07 R198) -/

/-- The deltas of a frame of a cascade: phase 1 comes first, the cross deltas leave, and the tests follow the merge
(09 R281). -/
def cascadeDeltas (s : State) : State :=
  let s := match phase1Due s with
    | some f => frameDeltas (phase1 f s)
    | none => frameDeltas s
  let s := sendCross s
  if crossWanted s ≤ s.casc.cross.length then afterMerge (mergeCross s) else s

/-- PLANE_COMBINE (05 R134): combined values, temporal response, noise, deltas and tests, but for a dropped frame
(17 R491). -/
def planeCombine (ecc : List EccErr) (s : State) : State :=
  let s := eccErrors ecc (clearAlarm (decisionMetrics s) s)
  let s :=
    if s.scan.dropped then s
    else
      let s := frameNoise (detListen (touchPath s))
      if s.inCascade then cascadeDeltas s
      else
        let s := frameDeltas s
        if (phase1Due s).isSome then s else frameTests s
  { s with scan := { s.scan with stage := .combined } }

/-- PLANE_COMBINE. -/
def execPlaneCombine (tk : Tick) (ecc : List EccErr) (s : State) : Host.Outcome State Fault Refusal :=
  runAt tk s fun s => if s.scan.stage = .decoded then planeCombine ecc s else s

/-- TRACKER_FRAME (07 R198): cross deltas that have not come are not waited for (09 R281). -/
def execTrackerFrame (tk : Tick) (s : State) : Host.Outcome State Fault Refusal :=
  runAt tk s fun s =>
    if s.scan.stage = .combined then
      trackerFrame (if s.inCascade && !s.casc.merged && !s.scan.dropped then afterMerge (mergeCross s) else s)
    else s

/-! ## Images (05 R140; 11 R344, Tables 11.7, 11.8; 09 R290; 12 R381) -/

/-- Values of a frame's image with their INTERP marks, in the order of 06 Table 6.2. -/
def imageValues (mode : Nat) (s : State) : List (Int × Bool) :=
  let node := fun (f : Node → Int) => s.ownNodes.map fun p => (f p, (s.cnode p).interp)
  match mode with
  | 1 => node s.delta
  | 2 => node fun p => (s.cnode p).value
  | _ =>
    let axis := fun (l : List SelfVal) (n : Nat) => (List.range n).map fun i =>
      let v := l.getD i ⟨0xFFFF, false⟩
      ((v.value : Int), v.interp)
    axis s.front.selfDrive s.front.driveCount ++ axis s.front.selfSense s.front.senseCount

/-- A bitmap, bit i of byte j for element 8j + i. -/
def bitmapBytes (bs : List Bool) : List Byte :=
  (List.range (ceilDiv bs.length 8)).map fun j =>
    BitVec.ofNat 8 (sumNat ((List.range 8).map fun i => bitOf (bs.getD (8 * j + i) false) i))

/-- The payload of an image, without padding. -/
def imagePayload (mode : Nat) (vals : List (Int × Bool)) (s : State) : List Byte :=
  match mode with
  | 1 => (List.zip vals s.ownNodes).flatMap fun e =>
      leSigned 2 e.1.1 ++ leBytes 1 ((stripNode s [] e.2).flags % 8 + bitOf e.1.2 3)
  | 2 => vals.flatMap (fun e => leSigned 3 e.1) ++ bitmapBytes (vals.map (·.2))
  | _ => vals.flatMap (fun e => leBytes 2 e.1.toNat) ++ bitmapBytes (vals.map (·.2))

/-- One entry of the image ring (11 Table 11.7). -/
def imageEntry (mode tile flags frames drops count time : Nat) (payload : List Byte) (s : State) : List Byte :=
  let dims := if s.inCascade && s.casc.planValid then
      (s.casc.senseCounts.getD (tile % 4) s.front.senseCount, s.casc.driveCounts.getD (tile / 4) s.front.driveCount)
    else (s.front.senseCount, s.front.driveCount)
  let o := if s.inCascade then s.originOf tile else (0, 0)
  let body := padTo 4 payload
  [1] ++ leBytes 1 mode ++ leBytes 1 (if s.inCascade then tile else 0) ++ leBytes 1 flags ++
    leBytes 4 (32 + body.length) ++ leBytes 4 count ++ leBytes 2 frames ++ leBytes 2 drops ++ leBytes 8 time ++
    leBytes 2 dims.1 ++ leBytes 2 dims.2 ++ leBytes 2 o.1 ++ leBytes 2 o.2 ++ body

/-- An image is dropped (11 R344; 09 R290). -/
def dropImage (s : State) : State := raise 7 { s with link := { s.link with imageFull := true } }

/-- An entry is written whole, or dropped; the answer says which (11 R344). -/
def putImage (e : List Byte) (s : State) : Bool × State :=
  if e.length ≤ s.image.free s.imageSize then
    (true, raise 6 { s with image := s.image.put s.imageSize ⟨e, .plain⟩, link := { s.link with imageFull := false } })
  else (false, dropImage s)

/-- An entry of the stream: the drops since the previous one, saturating (11 Table 11.7). -/
def putStream (tile : Nat) (payload : List Byte) (s : State) : State :=
  let i := s.plane.img
  let r := putImage (imageEntry i.mode tile i.lastFlags (2 ^ i.rate) i.drops i.lastCount i.lastTime payload s) s
  let drops := if r.1 then 0 else satAt 65535 (i.drops + 1)
  { r.2 with plane := { r.2.plane with img := { r.2.plane.img with drops := drops } } }

/-- An entry of a snapshot. -/
def putSnap (tile : Nat) (payload : List Byte) (q : Snap) (s : State) : Snap × State :=
  let r := putImage (imageEntry q.mode tile q.flags 1 0 q.count q.time payload s) s
  ({ q with left := q.left - 2 ^ tile, written := if r.1 then q.written + 2 ^ tile else q.written }, r.2)

/-- Pieces of at most 512 bytes (09 Table 9.4). -/
def imagePieces : Nat → List Byte → List (List Byte)
  | 0, _ => []
  | n + 1, bs => if bs.isEmpty then [] else bs.take 512 :: imagePieces n (bs.drop 512)

/-- A member's image leaves for the master. -/
def sendTileImage (payload : List Byte) (s : State) : State :=
  (imagePieces (payload.length / 512 + 1) payload).foldl (fun s c => sendMsg 0x0F 0 (.bytes c) s) s

/-- This tile's number. -/
def State.ownTile (s : State) : Nat := s.casc.tile.getD 0

/-- The stream has formed one image more, which only the streaming tiles send (09 R290). -/
def formedOne (s : State) : State :=
  let n := s.casc.imgFormed + 1
  { s with casc := { s.casc with
      imgFormed := n
      members := (List.range s.casc.members.length).map fun t =>
        let m := s.casc.members.getD t .none
        if tileStreams s t then m else { m with imgGot := n } } }

/-- The image stream takes a completed frame; every 2^n frames an image leaves (05 R140). -/
def streamFrame (s : State) : State :=
  let i := s.plane.img
  if !i.on then s
  else
    let vals := imageValues i.mode s
    let add := fun (k : Nat) (v : Int × Bool) =>
      if i.count = 0 then v else (i.sums.getD k 0 + v.1, i.interp.getD k false || v.2)
    let acc := (List.range vals.length).map fun k => add k (vals.getD k (0, false))
    let warming := i.warming || s.warming
    let valid := i.timeValid && s.scan.timeValid
    if i.count + 1 < 2 ^ i.rate then
      { s with plane := { s.plane with img := { i with
          count := i.count + 1, sums := acc.map (·.1), interp := acc.map (·.2), warming := warming, timeValid := valid } } }
    else
      let mean := acc.map fun e => (roundUpHalf e.1 (2 ^ i.rate), e.2)
      let time := s.frameStamp - BitVec.ofNat 56 (s.scan.frameTicks * (2 ^ i.rate - 1) / 2)
      let s := formedOne { s with plane := { s.plane with img := { i with
        count := 0, sums := [], interp := [], warming := false, timeValid := true
        lastCount := s.scan.frameCount.toNat, lastTime := time.toNat, lastFlags := imageFlags warming valid } } }
      if !tileStreams s s.ownTile then s
      else
        let payload := imagePayload i.mode mean s
        if s.casc.role = .member then sendTileImage payload s else putStream s.ownTile payload s

/-- This tile's part of one snapshot (12 R381). -/
def snapOne (s : State) (q : Snap) : State :=
  let payload := imagePayload q.mode (imageValues q.mode s) s
  if s.casc.role = .member then
    let s := if tileStreams s s.ownTile then sendTileImage payload s else s
    finishOp 0x29 stOk (leBytes 4 s.scan.frameCount.toNat ++ leBytes 2 (2 ^ s.ownTile)) s
  else
    let r := if bitAt q.left s.ownTile && q.count == s.scan.frameCount.toNat then putSnap s.ownTile payload q s else (q, s)
    { r.2 with bench := { r.2.bench with snaps := r.2.bench.snaps ++ [r.1] } }

/-- Every snapshot of the completed frame: a master's have been ordered with its DIRECT, and every other tile's begin here. -/
def snapFrame (s : State) : State :=
  let qs := if s.casc.role = .master then s.bench.snaps else s.bench.snapModes.map (newSnap s)
  let keep := if s.casc.role = .master then [] else s.bench.snaps
  qs.foldl snapOne { s with bench := { s.bench with
    snapModes := if s.casc.role = .master then s.bench.snapModes else [], snaps := keep } }

/-- The snapshot to which the next image of a tile belongs: one that awaits it, once the images of the stream that stand
before it have come (09 R290; 12 R381). -/
def snapOf (t : Nat) (s : State) : Option Nat :=
  findIdx? (fun (q : Snap) => bitAt q.left t && decide (q.after ≤ (s.casc.members.getD t .none).imgGot)) s.bench.snaps

/-- One image of the stream more has come from a tile, or is lost. -/
def streamGot (t : Nat) (s : State) : State :=
  { s with casc := { s.casc with members := modAt s.casc.members t fun m =>
      { m with imgGot := max (m.imgGot + 1) s.casc.imgFormed } } }

/-- A tile's image does not come whole (09 R290): a snapshot's counts as dropped, one of the stream in `drops`. -/
def loseImage (t : Nat) (s : State) : State :=
  match snapOf t s with
  | some i =>
    { dropImage s with bench := { s.bench with snaps := modAt s.bench.snaps i fun q => { q with left := q.left - 2 ^ t } } }
  | none =>
    let s := dropImage (streamGot t s)
    { s with plane := { s.plane with img := { s.plane.img with drops := satAt 65535 (s.plane.img.drops + 1) } } }

/-- A part of a tile's image arrives; the whole image becomes an entry, of the snapshot that it belongs to or of the stream
(09 R290; 12 R381). -/
def takeImageData (t : Nat) (bytes : List Byte) (first last : Bool) (s : State) : State :=
  let old := s.casc.imageIn.find? fun e => e.1 == t
  let s := if first && old.isSome then loseImage t s else s
  let have_ := if first then [] else match old with | some e => e.2 | none => []
  let rest := s.casc.imageIn.filter fun e => e.1 != t
  if !first && old.isNone then s
  else if !last then { s with casc := { s.casc with imageIn := rest ++ [(t, have_ ++ bytes)] } }
  else
    let s := { s with casc := { s.casc with imageIn := rest } }
    match snapOf t s with
    | some i =>
      match s.bench.snaps[i]? with
      | some q =>
        let r := putSnap t (have_ ++ bytes) q s
        { r.2 with bench := { r.2.bench with snaps := r.2.bench.snaps.set i r.1 } }
      | none => s
    | none => if s.plane.img.on then putStream t (have_ ++ bytes) (streamGot t s) else streamGot t s

/-- IMAGE_DATA (09 R290). -/
def execImageData (tk : Tick) (hdr : MsgHdr) (bytes : List Byte) (first last : Bool) (s : State) :
    Host.Outcome State Fault Refusal :=
  runAt tk s (receive hdr 0x0F (.bytes bytes) fun s =>
    if s.casc.role = .master ∧ (s.member hdr.src).joined then takeImageData hdr.src bytes first last s else s)

/-- The status of a snapshot (12 R381). -/
def snapStatus (q : Snap) : Nat :=
  if q.written = q.wanted then stOk else if q.written = 0 then stOverflow else stPartial

/-- IMAGE_SNAPSHOT_COMPLETE (12 R381): a tile image that has not come by then counts as dropped. -/
def execImageSnapshotComplete (tk : Tick) (s : State) : Host.Outcome State Fault Refusal :=
  runAt tk s fun s =>
    match s.bench.snaps with
    | q :: rest =>
      if bitAt q.left s.ownTile ∧ s.scan.stage = .tracked then s
      else finishOp 0x29 (snapStatus q) (leBytes 4 q.count ++ leBytes 2 q.written)
        { s with bench := { s.bench with snaps := rest } }
    | [] => s

/-! ## Records of a frame group (07 R202, R213, R220 to R224) -/

/-- A contact record (07 R202, Table 7.1). -/
def contactRec (c : Contact) (state : Nat) (x y : Int) (t : Time) : List Byte :=
  let flags := bitOf c.suspect 7 + bitOf c.wet 6 + bitOf c.seam 5 + bitOf c.present 4 + c.gen.toNat
  [2] ++ leBytes 1 c.id ++ leBytes 1 state ++ leBytes 1 flags ++ leSigned 2 x ++ leSigned 2 y ++ leBytes 2 c.z ++
    leBytes 1 c.major ++ leBytes 1 c.minor ++ leBytes 4 t.toNat

/-- Contact records of a group, in ascending id; none in the first two frames after a restart (07 R203, R205,
R223). -/
def contactRecs (s : State) : List (List Byte) :=
  if s.noContacts then []
  else
    let live := s.trk.contacts.map fun c =>
      let r := reported s c
      (c.id, contactRec c r.1 r.2.1 r.2.2 s.trk.stamp)
    let ended := s.trk.ended.map fun c => (c.id, contactRec c c.state c.rx c.ry c.stamp)
    (sortBy (fun a b => decide (a.1 < b.1)) (live ++ ended)).map (·.2)

/-- Did a transition of the key fall in the frame of the stamp? -/
def turnedNow (s : State) (k : Key) : Bool := decide (0 < k.changes) && k.stamp == s.trk.stamp

/-- Keys that owe a record, in ascending index. -/
def owedKeys (s : State) : List (Nat × Key) :=
  sortBy (fun a b => decide (a.1 < b.1)) (s.trk.keys.filter fun e => decide (0 < e.2.changes))

/-- A key record (07 Table 7.4). -/
def keyRec (i : Nat) (k : Key) : List Byte :=
  [3] ++ leBytes 1 i ++ leBytes 1 (bitOf k.isOn 0) ++ leBytes 1 (k.tFlags + bitOf k.withheld 4) ++
    leSigned 2 k.tValue ++ leBytes 1 (satAt 255 k.changes) ++ [0] ++ leBytes 4 (if k.isOn then 0 else k.onTime) ++
    leBytes 4 k.stamp.toNat

/-- The frame's gestures in the order recognised, by code and id within a frame (07 R220). -/
def frameGests (s : State) : List Gest :=
  sortBy (fun a b => decide (a.code < b.code) || (a.code == b.code && decide (a.id < b.id))) s.trk.gests

/-- Gestures of a group: SILL_SWIPE first, then the queue, then the frame's own (07 R224; 08 R241). -/
def groupGests (s : State) : List Gest := s.trk.sillSwipe.toList ++ s.trk.queue ++ frameGests s

/-- Flags of the frame itself (07 Table 7.8). -/
def frameFlags (s : State) : Nat :=
  let far := if s.inCascade then s.casc.members.filter fun m => m.joined && m.reported else []
  bitOf s.scan.timeValid 0 + bitOf s.base.tempFallback 1 + bitOf s.scan.wrapped 2 + bitOf s.warming 3 +
    bitOf s.scan.noiseAlarm 4 + bitOf s.scan.driveRange 5 + bitOf (decide (0 < s.linesOut)) 6 +
    bitOf (s.ownNodes.any s.water || far.any (·.water)) 7 +
    bitOf s.base.unchecked 8 + bitOf s.base.acquiring 9 + bitOf s.base.condRisk 10 +
    bitOf (s.inCascade && s.casc.degraded) 11 + bitOf (decide (0 < s.trk.refused) || s.trk.tooMany || far.any (·.more)) 13

/-- Flags of a group: those of its own frame with those of the withheld ones (07 R223). -/
def groupFlags (s : State) : Nat :=
  let own := frameFlags s
  let valid := bitAt own 0 && (s.trk.withheld == 0 || s.trk.heldValid)
  (own ||| s.trk.heldFlags) / 2 * 2 + bitOf valid 0 + bitOf (decide (0 < s.trk.withheld)) 12 +
    bitOf (decide (0 < s.trk.lost)) 14

/-- The largest n_s of the frame over the joined tiles (07 Table 7.7). -/
def groupNoise (s : State) : Nat :=
  if s.casc.role = .master then
    (s.casc.members.filter fun m => m.joined && m.reported).foldl (fun n m => max n m.noiseMax) s.base.noiseMax
  else s.base.noiseMax

/-- The frame header (07 Table 7.7). -/
def frameHeader (contacts keys gests : Nat) (s : State) : List Byte :=
  [1] ++ leBytes 1 s.scan.profile ++ leBytes 2 32 ++ leBytes 4 s.scan.frameCount.toNat ++ leBytes 8 s.scan.frameT.toNat ++
    leBytes 4 (groupFlags s) ++ activeBytes s.scan.activeSet ++ leBytes 1 s.scan.level ++ leBytes 1 contacts ++
    leBytes 2 keys ++ leBytes 1 gests ++ leBytes 1 (satAt 255 s.trk.withheld) ++ leBytes 2 (groupNoise s)

/-- A frame is withheld (07 R223 to R225). -/
def withhold (size : Nat) (s : State) : State :=
  let s := if s.trk.withheld = 0 then
      tally 0x109 (d48 [(16, satAt 65535 (s.report.free s.reportSize)), (16, satAt 65535 size)]) s
    else s
  let all := s.trk.queue ++ frameGests s
  let own := frameFlags s
  let s := { s with trk := { s.trk with
    withheld := s.trk.withheld + 1
    heldFlags := s.trk.heldFlags ||| own
    heldValid := (s.trk.withheld == 0 || s.trk.heldValid) && bitAt own 0
    queue := all.take 16, gests := [], lost := s.trk.lost + (all.length - 16)
    keys := s.trk.keys.map fun e => if turnedNow s e.2 then (e.1, { e.2 with withheld := true }) else e } }
  if s.pwr.st = 3 then { s with tel := { s.tel with withheld := sat32 (s.tel.withheld + 1) } } else s

/-- What a written group leaves: reported positions, freed ids, keys with nothing owed (07 R199, R213, R223). A
group without contact records leaves the positions of the last one that had them. -/
def afterGroup (s : State) : State :=
  let contact := fun (c : Contact) =>
    if s.noContacts then (if c.fresh then c else { c with rx := c.wx, ry := c.wy })
    else
      let r := reported s c
      { c with fresh := false, rx := r.2.1, ry := r.2.2, wx := r.2.1, wy := r.2.2 }
  let key := fun (k : Key) =>
    if k.changes = 0 then k
    else { k with
      changes := 0, withheld := false, wroteT := k.stamp.toNat % 2 ^ 32, wroteOn := if k.isOn then 0 else k.onTime }
  { s with trk := { s.trk with
      contacts := s.trk.contacts.map contact, ended := if s.noContacts then s.trk.ended else []
      keys := s.trk.keys.map fun e => (e.1, key e.2)
      gests := [], queue := [], sillSwipe := none, lost := 0, withheld := 0, heldFlags := 0, heldValid := true } }

/-- Does a gesture carry WAKE? -/
def Gest.wake (g : Gest) : Bool := bitAt (byteAt g.bytes 3) 4

/-- A gesture with WAKE has been written: the wake check succeeds, and WAKE is pulsed for a sleeping host (08 R242,
R243). -/
def wakeGesture (s : State) : State :=
  let s := wakeCheckPass s
  if s.asleep then wakeAsk 2 (groupOf 4) s else s

/-- The group is written: its records, then its sources (07 R220, R222). -/
def putGroup (s : State) : State :=
  let cs := contactRecs s
  let ks := (owedKeys s).map fun e => keyRec e.1 e.2
  let gs := groupGests s
  let s := if 0 < s.trk.lost then tally 0x10A (d48 [(8, satAt 255 s.trk.lost)]) s else s
  let recs := frameHeader cs.length ks.length gs.length s :: (cs ++ ks ++ gs.map (·.bytes))
  let s := recs.foldl (fun (s : State) r => { s with report := s.report.put s.reportSize ⟨r, .plain⟩ }) s
  let s := raise 5 (afterGroup s)
  let s := if cs.isEmpty then s else raise 2 s
  let s := if ks.isEmpty then s else raise 3 s
  let s := if gs.isEmpty then s else raise 4 s
  let s := if gs.any Gest.wake then wakeGesture s else s
  if s.pwr.wakeCheck && trivialCheck s then wakeCheckPass s else s

/-- Size of the group that this frame would write. -/
def groupSize (s : State) : Nat :=
  32 + 16 * ((contactRecs s).length + (owedKeys s).length + (groupGests s).length)

/-- The frame's group is written or withheld (07 R223); a wake check whose window has passed with no contact live
ends (08 Table 8.6). DESIGN CHOICE (log 80): the frame that completes after the check's failure, when the write pointer has
returned, writes no group. -/
def writeGroup (s : State) : State :=
  if s.pwr.checkFailed then { s with trk := { s.trk with gests := [] } }
  else
  let s := { s with pwr := { s.pwr with checkFrames := s.pwr.checkFrames + 1 } }
  let size := groupSize s
  let s := if size + s.fnat 0x309 ≤ s.report.free s.reportSize then putGroup s else withhold size s
  if checkOver s then failCheck s else s

/-- The margin of the frame (02 R54, R56, R57). -/
def takeMargin (pct : Nat) (s : State) : State :=
  let low := decide (pct < 20)
  let s := { s with
    time := { s.time with frameMargin := some pct }
    tel := { s.tel with
      marginMin := min s.tel.marginMin pct
      marginLow := if low then sat32 (s.tel.marginLow + 1) else s.tel.marginLow } }
  if low && s.time.vcoreMv == 900 then tally 0x401 (d48 [(8, pct), (16, 900)]) s else s

/-- Frames of ACTIVE by kind (17 R492, R494). -/
def countKinds (s : State) : State :=
  if s.pwr.st ≠ 3 then s
  else { s with tel := { s.tel with
      degraded := if s.inCascade && s.casc.degraded then sat32 (s.tel.degraded + 1) else s.tel.degraded
      fallbackTimed := if s.scan.timeValid then s.tel.fallbackTimed else sat32 (s.tel.fallbackTimed + 1) } }

/-- The frame's records are complete: images, the group, the counts (04 R123; 07 R220; 17 R492). A dropped frame
writes nothing. -/
def frameGroup (pct : Nat) (s : State) : State :=
  let s := takeMargin pct (clearAlarm (decisionMetrics s) s)
  if s.scan.dropped then
    countSlot false true { s with scan := { s.scan with stage := .written }, trk := { s.trk with gests := [], refused := 0 } }
  else
    let s := snapFrame (streamFrame (flushFrame s))
    let s := if s.casc.role = .member then s else writeGroup s
    countSlot false false (countKinds { s with
      plane := { s.plane with since := s.plane.since + 1 }
      scan := { s.scan with stage := .written } })

/-- FRAME_GROUP_WRITE (07 R220). -/
def execFrameGroupWrite (tk : Tick) (marginPct : Nat) (s : State) : Host.Outcome State Fault Refusal :=
  runAt tk s fun s => if s.scan.stage = .tracked then frameGroup marginPct s else s

end Sys2Proof.Machine
end

