-- ==== Sys2Proof/Machine/Gap.lean ====
section
/-! DEFINITION. Chapter 17: the housekeeping gap and its tasks, the availability day and the telemetry period;
chapter 19: the thermal comparator and the VDD low warning. -/

namespace Sys2Proof.Machine

/-! ## Tasks of the gap (17 R488, R489, R491) -/

/-- The die sensor, once every 32,768 beats (06 R175). -/
def gapDie (v : Int) (s : State) : State :=
  if dieDue s then dieReading v s else s

/-- The pump's level in mV (03 Table 3.2). -/
def State.pumpMv (s : State) : Nat :=
  match s.pnat 0xC0E with | 0 => 5000 | 1 => 6500 | _ => 8000

/-- A pump that had been given up measures within 3 % of its level: its levels are available (18 Table 18.3). -/
def gapPump (vdrvMv : Nat) (s : State) : State :=
  if s.front.driveSource = 1 ∧ s.front.vdrvFallback ∧ 97 * s.pumpMv ≤ 100 * vdrvMv ∧ 100 * vdrvMv ≤ 103 * s.pumpMv then
    { s with front := { s.front with pumpSettled := true, vdrvFallback := false } }
  else s

/-- The excluded line next in order at or after a place among the lines in use, or the first one (03 R86). -/
def nextExcluded (s : State) : Option Nat :=
  let ws := s.usedLines
  let out := (List.range ws.length).filter fun i => (s.line (ws.getD i 0)).cause != 0
  match out.find? fun i => decide (s.front.rollExcl ≤ i) with
  | some i => some i
  | none => out.head?

/-- The line that the gap tests: its word, and the two counters of the rolling check once it is tested (03 R71,
R86). A line in Excluded state is tested in any case, the others with bit 1 of self_check. -/
def rollLine (s : State) : Option (Nat × Nat × Nat) :=
  let ws := s.usedLines
  let n := ws.length
  match ws.find? fun w => (s.line w).underTest with
  | some w => some (w, s.front.rollNext, s.front.rollExcl)
  | none =>
    if n = 0 ∨ !bitAt (s.fnat 0xC0F) 1 then none
    else if s.scan.frameCount.toNat % 2 = 1 then
      let i := s.front.rollNext % n
      some (ws.getD i 0, (i + 1) % n, s.front.rollExcl)
    else (nextExcluded s).map fun i => (ws.getD i 0, s.front.rollNext, (i + 1) % n)

/-- The rolling check of one line; a line that the gap did not reach stays next. -/
def gapRoll (tests : List LineTest) (s : State) : State :=
  match rollLine s with
  | none => s
  | some (w, next, excl) =>
    match tests.find? fun t => t.line == w with
    | none => s
    | some t =>
      let s := flushFaults (testLines false [t] s)
      { s with front := { s.front with rollNext := next, rollExcl := excl } }

/-- Event 0x0B03: a converter departs by more than 5 % from its factory value and keeps its last good one. The spec
does not say what the event's value is: a free value (log 2). -/
def calEvent (unit channel : Nat) (s : State) : State :=
  let d := s.draw
  tally 0xB03 (d48 [(8, unit), (8, channel), (16, d.1)]) d.2

/-- Is a ratio in 1/1000 out of its range of 5 %? -/
def calBad (ratio : Nat) : Bool := decide (ratio < 950) || decide (1050 < ratio)

/-- One sense converter is calibrated, in ascending order; a ratio out of range is not applied (17 R489). -/
def gapSenseCal (ratio : Nat) (s : State) : State :=
  if s.pnat 0xB01 = 0 then s
  else
    let ch := s.tel.calNext
    let s := if calBad ratio then calEvent 1 ch s
      else { s with front := { s.front with senseCal := s.front.senseCal.set ch ratio } }
    { s with tel := { s.tel with calNext := (ch + 1) % s.part.senseLines } }

/-- The scrubber (17 R491). -/
def gapScrub (ecc : List EccErr) (s : State) : State :=
  let s := eccErrors ecc s
  let size := 128 * s.part.nodeKib
  let at1 := s.tel.scrubAt + s.pnat 0xB00
  if at1 < size then { s with tel := { s.tel with scrubAt := at1 } }
  else { s with tel := { s.tel with scrubAt := at1 - size, scrubPasses := sat32 (s.tel.scrubPasses + 1) } }

/-- Level calibration: the reference at gains 1 and 128, while PD5 is on and nothing converts (17 R489). -/
def gapLevelCal (ratios : List Nat) (s : State) : State :=
  if s.pnat 0xB02 = 0 ∨ !s.part.hasLevel ∨ !s.lvl.pd5 ∨ !s.lvl.queue.isEmpty ∨ s.lvl.running.isSome then s
  else (List.range 2).foldl (fun s i =>
    let r := ratios.getD i 1000
    if calBad r then calEvent 2 i s
    else { s with lvl := { s.lvl with levelCal := s.lvl.levelCal.set i r } }) s

/-- Do 8 beats remain before the next frame's first code chip (02 R33; 17 Table 17.1)? With no further frame there is
none to keep clear of. -/
def vcoreClear (s : State) : Bool :=
  s.scan.phase != .frames || reached (tAdd s.scan.slotT s.scan.frameTicks) (tAdd s.now 2048)

/-- The VCORE step (02 R54): the latest frame's margin decides. A step that would fall within 8 beats of the next
frame's first code chip is not taken (R33); its margin still counts among the last 16. -/
def gapVcore (s : State) : State :=
  match s.time.frameMargin with
  | none => s
  | some m =>
    let ms := (m :: s.time.margins).take 16
    let mv := s.time.vcoreMv
    let new :=
      if !vcoreClear s then mv
      else if m < 20 then min 900 (mv + 20)
      else if ms.length = 16 ∧ ms.all (fun q => decide (30 ≤ q)) then max 600 (mv - 10)
      else mv
    { s with time := { s.time with frameMargin := none, margins := ms, vcoreMv := new } }

/-! ## Supply and temperature (19 R518 to R520) -/

/-- A supply or thermal condition is set or cleared: its record follows the change (19 R520). -/
def setThermal (cause : Nat) (set : Bool) (s : State) : State :=
  supplyRecord cause set { s with boot :=
    match cause with
    | 1 => { s.boot with vddLow := set }
    | 2 => { s.boot with thermalWarn := set }
    | _ => { s.boot with thermalClamp := set } }

/-- The thermal comparator (19 R518). The clamp's end is THERMAL_CLAMP_CLEAR. -/
def gapThermal (tj : Int) (s : State) : State :=
  let s := { s with boot := { s.boot with tj := tj, coolGaps := if tj < 100 * 256 then s.boot.coolGaps + 1 else 0 } }
  let s := if 100 * 256 ≤ tj ∧ !s.boot.thermalWarn then setThermal 2 true s
    else if tj < 95 * 256 ∧ s.boot.thermalWarn then setThermal 2 false s else s
  if 115 * 256 ≤ tj ∧ !s.boot.thermalClamp then setThermal 3 true s else s

/-- Has the clamp been cool for 64 consecutive gaps? -/
def clampOver (s : State) : Bool := s.boot.thermalClamp && decide (64 ≤ s.boot.coolGaps)

/-- THERMAL_CLAMP_CLEAR (19 R518): with amp_auto 0 the level returns to the highest available at the next frame
boundary. -/
def execThermalClampClear (tk : Tick) (s : State) : Host.Outcome State Fault Refusal :=
  runAt tk s fun s =>
    if clampOver s then
      let s := setThermal 3 false s
      if s.prof.ampAuto then s else { s with scan := { s.scan with nextLevel := some (topLevel s s.prof) } }
    else s

/-- The VDD low warning changes; its record needs PD1 on (19 R519, R520; log 60). -/
def setVddLow (set : Bool) (s : State) : State :=
  if s.boot.vddLow = set then s
  else if s.attnOn then setThermal 1 set s
  else { s with boot := { s.boot with vddLow := set } }

/-- VDD_LOW_WARNING_SET (19 R519): VDD has stayed below its falling threshold for 1 beat. -/
def execVddLowWarningSet (tk : Tick) (s : State) : Host.Outcome State Fault Refusal :=
  runAt tk s fun s => setVddLow true s

/-- VDD_LOW_WARNING_CLEAR (19 R519): above its clear threshold for 64 beats. -/
def execVddLowWarningClear (tk : Tick) (s : State) : Host.Outcome State Fault Refusal :=
  runAt tk s fun s => setVddLow false s

/-! ## The gap (17 R488) -/

/-- One fuse step of a gap, while scanning runs (15 R456). -/
def gapFuse (blown : Bool) (s : State) : State := if s.trust.work.isEmpty then s else fuseStep blown s

/-- The tasks in their fixed order, after the die sensor, the rail and the comparators. -/
def gapTasks (i : GapIn) (s : State) : State :=
  gapFuse i.fuseBlown (gapVcore (gapLevelCal i.levelCal (gapScrub i.ecc (gapSenseCal i.senseCal (gapRoll i.tests
    (gapThermal i.tj (gapPump i.vdrvMv (measureRail i.railMv i.vdrvMv (gapDie i.dieTemp s)))))))))

/-- HOUSEKEEPING_GAP (17 R488): once after each frame whose records are complete. -/
def execHousekeepingGap (tk : Tick) (inp : GapIn) (s : State) : Host.Outcome State Fault Refusal :=
  runAt tk s fun s =>
    if s.scan.stage = .written ∧ !s.scan.gapDone then
      gapTasks inp { s with scan := { s.scan with gapDone := true } }
    else s

/-! ## Availability and telemetry (17 R493) -/

/-- Beats of a day. -/
def dayBeats : Nat := 2831155200

/-- AVAILABILITY_DAY_END: the day's counts become a bucket, the latest 30 are kept. -/
def execAvailabilityDayEnd (tk : Tick) (s : State) : Host.Outcome State Fault Refusal :=
  runAt tk s fun s =>
    if s.pwr.pd4 ∧ reached s.now (tAdd s.tel.dayFrom (256 * dayBeats)) then
      let s := { s with tel := { s.tel with
        days := (s.tel.today :: s.tel.days).take 30, today := (0, 0), dayFrom := tAdd s.tel.dayFrom (256 * dayBeats) } }
      let alarm := s.pnat 0xB04
      if alarm ≠ 0 ∧ alarm < lossPpb s.tel then raise 24 s else s
    else s

/-- TELEMETRY_PERIOD: every telemetry_period minutes. -/
def execTelemetryPeriod (tk : Tick) (s : State) : Host.Outcome State Fault Refusal :=
  runAt tk s fun s =>
    let d := 256 * 32768 * 60 * s.pnat 0xB03
    if s.pwr.pd4 ∧ s.pnat 0xB03 ≠ 0 ∧ reached s.now (tAdd s.tel.periodFrom d) then
      raise 24 { s with tel := { s.tel with periodFrom := tAdd s.tel.periodFrom d } }
    else s

end Sys2Proof.Machine
end

