-- ==== Sys2Proof/Machine/Boot.lean ====
section
/-! DEFINITION. Chapter 18: the resets, their release, and the boot up to scanning or recovery; the loss of VDD
(08 R246); application of an image (14 R433). -/

namespace Sys2Proof.Machine

/-! ## What a reset leaves (18 R503, Table 18.2) -/

/-- Chapter 09 after a reset: no port, no member, no plan; the role stays until the release samples the straps. -/
def cascReset (c : Cascade) : Cascade :=
  { Cascade.initial with role := c.role, tile := if c.role = .member then none else some 0 }

/-- Chapter 14 after a reset: flash work ends, a save under way leaves its slot without an image; what discovery
and verification found stays over a warm reset only. -/
def memReset (warm : Bool) (s : State) : Mem :=
  let s := closeSession true s
  let s := s.mem.saving.foldl (fun s e => dropSave e.1 e.2 s) s
  let m := { s.mem with
    failSeen := false, saving := [], begun := none, refsHeld := [none, none, none, none]
    slotState := (List.range 2).map fun t => if s.mem.spoiled.contains t then 2 else s.mem.slotState.getD t 0 }
  if warm then m
  else { Mem.initial with
    flash := m.flash, spoiled := m.spoiled, led := m.led, snapPlace := m.snapPlace, logErases := m.logErases
    snapDue := m.snapDue, snapTally := m.snapTally }

/-- Chapter 15 after a reset: fuses stay; test unlock and what counts since the boot end; fuse work stays over a
warm reset (15 R455, R456). -/
def trustReset (warm : Bool) (t : Trust) : Trust :=
  { t with
    verdictA := if warm then t.verdictA else 0xFF
    verdictB := if warm then t.verdictB else 0xFF
    verdictTenon := if warm then t.verdictTenon else 0xFF
    unlocked := false, boundary := false, failures := 0, challenge := none, answered := [], privateSeen := false
    work := if warm then t.work else [], retry := false, advanceFrom := if warm then t.advanceFrom else none, stepT := none }

/-- Chapter 08 after a reset: the domains are off; STATE reads the old one until the release. -/
def powerReset (p : Power) : Power := { Power.initial with st := p.st, wakeCause := p.wakeCause, hsleep := p.hsleep }

/-- A reset takes effect: the internal reset is held from now (18 R503). -/
def resetState (kind : ResetKind) (s : State) : State :=
  let warm := kind == .warm
  let s := cutWork false (poleOff s)
  { s with
    time := { s.time with vcoreMv := 900, margins := [], frameMargin := none }
    front := .initial, scan := .initial, plane := .initial, base := .initial, trk := .initial
    pwr := powerReset s.pwr
    casc := cascReset s.casc
    lvl := .initial, link := .initial, attn := .initial
    cmd := .empty, report := .empty, image := .empty, record := .empty
    bench := .initial
    params := if warm then s.params else []
    bus := { Bus.initial with vbrT := s.now }
    mem := memReset warm s
    trust := trustReset warm s.trust
    tally := { s.tally with logReady := warm && s.tally.logReady, checkedT := none }
    tel := if warm then s.tel else { Tel.initial with clearedAt := s.now, dayFrom := s.now, periodFrom := s.now }
    boot := { Boot.initial with
      phase := .held, kind := kind, heldT := some s.now, tj := s.boot.tj
      straps := s.boot.straps, recoverLow := warm && s.boot.recoverLow
      discovered := warm, discoveryFailed := warm && s.boot.discoveryFailed } }

/-- A loss of VDD cuts the operations of the memory port (14 R444); nothing is left for the reset to complete. -/
def lostVdd (s : State) : State :=
  let s := if 0 < s.mem.size then cutDrain (cutWork true s) else s
  { s with pwr := { s.pwr with pd1 := false } }

/-- PD0 lost both supplies: time, calendar and the retention memory start from nothing; flash and fuses stay
(18 Table 18.2). -/
def coldState (s : State) : State :=
  let c := resetState .powerUp (lostVdd s)
  { c with
    time := .initial, tally := .initial
    trust := { c.trust with unlockedEver := false, verdictT := 0, ir := 2 }
    pwr := { Power.initial with hsleep := s.pwr.hsleep }
    bus := .initial, tel := .initial
    boot := { c.boot with heldT := some 0 } }

/-- POWER_ON_RESET (18 R496): a supply was out of regulation and is back; without VBK, PD0 has powered up anew. -/
def execPowerOnReset (tk : Tick) (vbk : Bool) (s : State) : Host.Outcome State Fault Refusal :=
  runAt tk s fun s =>
    if vbk then
      let r := resetState .vddReturn (lostVdd s)
      { r with trust := { r.trust with ir := 2 } }
    else coldState s

/-- RESET_N_LOW (18 R497): low for `ns` nanoseconds; between 1 µs and 10 µs the spec leaves open whether it is a
reset (log 2). A reset already held is held on; without VDD nothing runs. -/
def execResetNLow (tk : Tick) (ns : Nat) (s : State) : Host.Outcome State Fault Refusal :=
  runAt tk s fun s =>
    let d := s.draw
    let s := if within 1000 9999 ns then d.2 else s
    if s.pwr.onVbk ∨ s.boot.heldT = none ∧ s.boot.phase = .held then s
    else if 10000 ≤ ns ∨ (1000 ≤ ns ∧ d.1 % 2 = 1) then resetState .boot s
    else s

/-- VDD_LOSS (08 R246): PD1 to PD5 are cut; PD0 goes on from VBK, or is lost as well. Without VDD no VIO pin drives
anything (19 R511): CLK32_IO is driven again at the release. -/
def execVddLoss (tk : Tick) (vbk : Bool) (s : State) : Host.Outcome State Fault Refusal :=
  runAt tk s fun s =>
    if s.pwr.onVbk then (if vbk then s else { (coldState s) with boot := { (coldState s).boot with heldT := none } })
    else if !vbk then { (coldState s) with boot := { (coldState s).boot with heldT := none } }
    else
      let old := s.pwr.st.toNat
      let s := lostVdd s
      let s := { s with pwr := { s.pwr with pd2 := false, pd4 := false } }
      let s := tally 0x404 (d48 [(8, old)]) s
      let s := if old = 0 then s else tally 0x403 (d48 [(8, old), (8, 0), (8, 11)]) s
      let s := resetState .vddReturn s
      { s with
        time := { s.time with clk32 := false }
        pwr := { s.pwr with st := 0, onVbk := true }
        boot := { s.boot with heldT := none } }

/-! ## RESET takes effect (12 R370; 15 R466) -/

/-- The kind that a RESET's kind byte names now. -/
def resetKindOf (k : Nat) (s : State) : ResetKind :=
  match k with
  | 0 => if s.link.mode = 2 then .boot else .warm
  | 1 => .boot
  | _ => .recovery

/-- The reset of an armed RESET. -/
def takeReset (k : Nat) (s : State) : State := resetState (resetKindOf k s) s

/-- RESET_REPLY_TIMEOUT (12 R370): 32,768 beats after the reply was written. -/
def execResetReplyTimeout (tk : Tick) (s : State) : Host.Outcome State Fault Refusal :=
  runAt tk s fun s =>
    match s.bench.resetArmed with
    | some (k, some t) => if reached s.now (tAdd t (32768 * 256)) then takeReset k s else s
    | _ => s

/-! ## The release (18 R498; 09 R254, R255) -/

/-- The role that the straps give. -/
def roleOf (part : Part) (mode : BitVec 2) : Role :=
  if !part.hasCascade then .standalone
  else match mode.toNat with
  | 1 => .master
  | 2 => .member
  | _ => .standalone

/-- The straps are sampled. The time status field stays (02 Table 2.1); a tile that changes between its own crystal
and CLK32 waits for the declaration of its new source. A master whose crystal has been declared running drives CLK32_IO
(02 R60), and a tile that is no member holds no difference to master time (R63). Event 0x0501 carries the straps and the
part code (09 Table 9.13). -/
def sampleStraps (mode : BitVec 2) (recoverN : Bool) (s : State) : State :=
  let m := if s.part.hasCascade then mode else 0
  let role := roleOf s.part m
  let swap := (role == .member) != (s.casc.role == .member)
  let own := (s.ownSource || s.time.declared) && s.casc.role != .member
  let s := { s with
    time := { s.time with
      declared := s.time.declared && !swap, takeoverDue := s.time.takeoverDue && !swap
      clk32 := role == .master && (s.time.clk32 || own), masterDiff := if role = .member then s.time.masterDiff else 0 }
    casc := { s.casc with role := role, tile := if role = .member then none else some 0 }
    boot := { s.boot with straps := m, recoverLow := !recoverN } }
  if m = 3 then tally 0x501 (d48 [(8, m.toNat), (8, s.part.code)]) s else s

/-- INTERNAL_RESET_RELEASE (18 R498): 4 beats after the later of the two instants. -/
def execInternalResetRelease (tk : Tick) (mode : BitVec 2) (recoverN : Bool) (s : State) :
    Host.Outcome State Fault Refusal :=
  runAt tk s fun s =>
    match s.boot.phase, s.boot.heldT with
    | .held, some t =>
      if reached s.now (tAdd t 1024) then
        let old := s.pwr.st.toNat
        let s := if s.boot.kind = .warm then s else sampleStraps mode recoverN s
        let s := { s with
          boot := { s.boot with phase := .released, releaseT := some s.now, heldT := none }
          link := { s.link with busy := true, mode := 1 }
          time := { s.time with stage := .waitEdge, vcoreMv := 900 }
          pwr := { s.pwr with
            st := 3, wakeCause := 6, onVbk := false, wakeT := s.now
            waking := if old < 2 then some (6, 3, none) else none } }
        if old = 3 then s else tally 0x403 (d48 [(8, old), (8, 3), (8, 6)]) s
      else s
    | _, _ => s

/-! ## PD1 and PD4 are ready -/

/-- Is the reset to end in recovery whatever discovery finds (15 R463)? -/
def recoverFirst (s : State) : Option Nat :=
  if s.boot.recoverLow then some 1 else if s.boot.kind = .recovery then some 4 else none

/-- PD1 and PD4 are ready 4 beats after a release: discovery and node-memory initialisation start; an arrival from
DORMANT or WATCH makes WAKE_EVENT pending (18 Table 18.1; 08 R233). -/
def bootReady (s : State) : State :=
  let woke := s.pwr.waking.isSome
  let s := domainsUp s
  let ports := if (recoverFirst s).isSome then Cascade.initial.ports else s.casc.ports
  let s := { s with
    casc := { s.casc with ports := ports }
    pwr := { s.pwr with waking := none, nodesHeld := true, idleFrom := s.now }
    boot := { s.boot with phase := .starting } }
  if woke then raise 23 s else s

/-- PD1_PD4_READY (08 R236; 18 R498): 4 beats after a wake or a release. -/
def execPd1Pd4Ready (tk : Tick) (badRegions : Nat) (s : State) : Host.Outcome State Fault Refusal :=
  runAt tk s fun s =>
    match s.boot.phase, s.boot.releaseT, s.pwr.waking with
    | .released, some t, _ => if reached s.now (tAdd t 1024) then bootReady s else s
    | .done, _, some w => if reached s.now (tAdd s.pwr.wakeT 1024) then wakeReady w badRegions s else s
    | _, _, _ => s

/-! ## Application of an image (14 R433; 12 R394; 11 R341) -/

/-- A summary event of an application: the first ID and the count. -/
def applyEvent (code : Nat) (ids : List Nat) (s : State) : State :=
  match ids with
  | [] => s
  | id :: _ => tallyBy 2 code (d48 [(16, id), (16, satAt 65535 ids.length)]) s

/-- The records of an image that this tile applies; a standalone tile is tile 0 (09 R274). -/
def ownRecords (s : State) (img : List Byte) : List (Nat × List Byte) :=
  if s.part.hasCascade then scopedRecords (s.casc.tile.getD 0) 0xFF (imgRecords img) else imgRecords img

/-- The image's records in the parameter region (14 R433; 12 R394). -/
def applyRecordsOf (img : List Byte) (s : State) : State :=
  let rs := ownRecords s img
  let r := imageRecords s (imageCounts s rs) [] rs [] []
  let u := imageRules s.part r.1
  let s := applyEvent 0xA04 r.2.2 (applyEvent 0xA03 r.2.1 { s with params := u.1 })
  u.2.foldl (fun s id => tallyBy 2 0xA05 (d48 [(16, id)]) s) s

/-- A HOLDOFF_Gn value into the group's RW fields (11 Table 11.4). -/
def Group.load (g : Group) (v : Nat) : Group :=
  { g with priority := BitVec.ofNat 3 (v / 65536), scale := BitVec.ofNat 2 (v / 256), count := BitVec.ofNat 8 v }

/-- The attention registers take their parameters' values (11 R341, R353). -/
def loadAttn (s : State) : State :=
  { s with attn := { s.attn with
      enable := BitVec.ofNat 25 (s.pnat 0x810)
      global := s.pnat 0x811 == 1
      base := BitVec.ofNat 32 (s.pnat 0x812)
      stride := BitVec.ofNat 2 (s.pnat 0x813)
      wakeGroups := BitVec.ofNat 8 (s.pnat 0x814)
      groups := (List.range 8).map fun g => (s.attn.groups.getD g .initial).load (s.pnat (0x818 + g)) } }

/-- The units take up the parameters: line counts, partner entries, temperature and humidity sources, detectors,
Level triggers, PD5 (03 R82; 13 R420; 06 R176; 05 R154; 10 R313, R317). -/
def unitsUp (s : State) : State :=
  let seen := fun (e : Nat) => if s.entryUsed e then ⟨1, 0, 0, s.ownLow, 0⟩ else Partner.unused
  let s := { s with
    front := { s.front with driveCount := s.pnat 0xC00, senseCount := s.pnat 0xC01, driveSource := s.pnat 0xC0D }
    base := { s.base with latched := s.params }
    bus := { s.bus with partners := (List.range 32).map seen } }
  let s := takeHumidSource (takeTempSource s)
  let s := (List.range 8).foldl detLoad s
  let s := { s with plane := { s.plane with detAt := s.plane.dets } }
  let s := (List.range 16).foldl (fun s n => startTimer n none s) s
  busWake (refbufWritten (pd5Check s))

/-- Scanning starts with active_profile, as SCAN_START would (18 R501, R504, R505); a member starts its sequence in
any case, and reports ready after its line check. -/
def bootScan (s : State) : State :=
  let p := s.pnat 0x111
  if s.casc.role = .member ∨ s.profileReady p then startScan p true .waitCheck s else s

/-- The boot is over: BUSY clears and MODE reads 0 (18 Table 18.1). -/
def bootDone (s : State) : State :=
  bootScan (unitsUp { s with
    boot := { s.boot with phase := .done }
    link := { s.link with busy := false, mode := 0 }
    pwr := { s.pwr with idleFrom := s.now, sleepFrom := if s.pwr.hsleep then some s.now else none } })

/-- A verified image is applied, from a slot or from the Tenon link (14 R433, R434; 15 R453). -/
def applyImage (slot : Option Nat) (img : List Byte) (s : State) : State :=
  let s := applyRecordsOf img s
  let s := { s with mem := { s.mem with
    bootSlot := slot, keySlot := some (imgKeySlot img), rollback := imgRollback img, headerDigest := imgHeaderDigest img } }
  bootDone (planFuses img (loadAttn s))

/-! ## Node memory, discovery, verification, recovery -/

/-- NODE_MEMORY_INIT_COMPLETE (18 R500, R504): the rings are empty; a warm reset ends its boot here. -/
def execNodeMemoryInitComplete (tk : Tick) (s : State) : Host.Outcome State Fault Refusal :=
  runAt tk s fun s =>
    if (s.boot.phase = .starting ∨ s.boot.phase = .verifying ∨ s.boot.phase = .waitImage) ∧ !s.boot.nodeInit then
      let s := { s with
        boot := { s.boot with nodeInit := true }
        cmd := .empty, report := .empty, image := .empty, record := .empty }
      if s.boot.kind = .warm then bootDone (if s.tally.unavailable then clearRetention s else s) else s
    else s

/-- The slot to verify first (14 R435): the one that a usable pointer names, else slot A; and whether the pointer is
usable. -/
def pointerSlot (s : State) : Nat × Bool :=
  match bootPointer s.mem.flash with
  | some e => if ptrUsable s e && decide (byteAt e 8 < 2) then (byteAt e 8, true) else (0, false)
  | none => (0, false)

/-- The states of the slots before their verification: one spoiled by a session is invalid, one never written is empty, and
what another one reads as is not stated (log 2). -/
def slotStates (s : State) : State :=
  let a := s.draw
  let b := a.2.draw
  let st := fun (slot d : Nat) => if s.mem.spoiled.contains slot then 2 else if s.slotBytes slot = [] then 0 else d % 3
  { b.2 with mem := { b.2.mem with slotState := [st 0 a.1, st 1 b.1] } }

/-- Discovery has ended at a boot: the ledger, the recorder, whose drain and boot records come first, then the event of
discovery (log 18); then verification, a member's wait, or recovery (14 R427, R434, R435; 16 R478; 18 R505, R507). A member
need not have a flash. DESIGN CHOICE (log 58): one without the SFDP signature counts as not fitted. -/
def bootDiscovered (f : Sfdp) (s : State) : State :=
  let s := discoverFlash f s
  let ok := decide (0 < s.mem.size)
  let member : Bool := s.casc.role == .member
  let s := if ok then loadLedger s else s
  let s := if ok && !member then slotStates s else s
  let s := tellFlash f (tallyBoot { s with mem := { s.mem with verifyT := s.now } })
  let s := if ok then checkStructures s else s
  let cause := match recoverFirst s with
    | some 1 => some 1
    | c => if ok || (member && !sfdpSigned f) then c else some 3
  let s := { s with boot := { s.boot with recoveryDue := cause } }
  if s.casc.role = .member then
    { s with boot := { s.boot with
        phase := if cause.isSome then .starting else if imageWhole s.casc.imageRx then .verifying else .waitImage } }
  else if ok then
    { s with boot := { s.boot with phase := .verifying, verifySlot := some ((pointerSlot s).1, false) } }
  else s

/-- DISCOVERY_COMPLETE (14 R426, R427): at a boot, or after a wake. -/
def execDiscoveryComplete (tk : Tick) (sfdp : Sfdp) (s : State) : Host.Outcome State Fault Refusal :=
  runAt tk s fun s =>
    if s.boot.discovered ∨ !s.pwr.pd1 then s
    else if s.boot.phase = .starting then bootDiscovered sfdp s
    else if s.boot.phase = .done then tellFlash sfdp (discoverFlash sfdp s)
    else s

/-- The valid slot to boot from when no pointer is usable: higher rollback, then higher build, then slot A (14
R435). -/
def bestSlot (s : State) : Option Nat :=
  let img := s.slotBytes
  let better := fun (a b : Nat) =>
    decide (imgRollback (img b) < imgRollback (img a)) ||
      (imgRollback (img a) == imgRollback (img b) && decide (imgBuild (img b) < imgBuild (img a)))
  match s.mem.slotState with
  | [1, 1] => if better 1 0 then some 1 else some 0
  | [1, _] => some 0
  | [_, 1] => some 1
  | _ => none

/-- The boot's choice once no more slots are to be verified; in recovery nothing is applied (14 R435; 15 R464). Event 0x0A06 gives
the slot booted from, and as its reason the verdict on the pointer's slot (14 Table 14.10; log 105). -/
def chooseSlot (pick : Option Nat) (s : State) : State :=
  let s := { s with boot := { s.boot with verifySlot := none } }
  if s.boot.recoveryDue.isSome ∨ s.boot.phase = .done then s
  else match pick with
  | none => { s with boot := { s.boot with recoveryDue := some 2 } }
  | some n =>
    let p := pointerSlot s
    let why := if p.1 = 0 then s.trust.verdictA else s.trust.verdictB
    let s := if p.2 && p.1 != n then tally 0xA06 (d48 [(8, n), (8, why)]) s else s
    applyImage (some n) (s.slotBytes n) s

/-- Does a slot's image fail by its magic or its payload digest (14 Table 14.7)? A slot that holds nothing has none. -/
def slotUnread (img : List Byte) : Bool :=
  !img.isEmpty && !(img.take 4 == [0x4B, 0x4C, 0x54, 0x50] && slice img 32 32 == sha256 (imgPayload img))

/-- A slot has been verified (14 R435; 15 R450, R452); one whose check fails after the second read is a read failure (14
R442). -/
def slotVerified (n : Nat) (second readOk : Bool) (s : State) : State :=
  let img := s.slotBytes n
  let v := if readOk then imgVerdict s.part s.trust img else 1
  let s := takeVerdict n v (imgKeySlot img) s
  let s := if !readOk ∨ slotUnread img then flashFail (.readFail (slotBase n)) s else s
  let spoiled := s.mem.spoiled.contains n
  let s := s.setSlot n (if v = 0 then 1 else if img = [] ∧ !spoiled then 0 else 2)
  let s := { s with mem := { s.mem with spoiled := if img = [] then s.mem.spoiled else s.mem.spoiled.erase n } }
  let p := pointerSlot s
  let usable := if second then p.2 && p.1 != n else p.2
  if usable ∧ v = 0 then chooseSlot (some n) s
  else if !second then { s with boot := { s.boot with verifySlot := some (1 - n, true) } }
  else chooseSlot (if usable then (if v = 0 then some n else none) else bestSlot s) s

/-- A member tells the master that it refuses the image (09 R274). -/
def refuseImage (s : State) : State :=
  sendMsg 0x0A 0 (.report
    { metrics := [], headNum := 0, headDen := 1, sat := false, levels := [], noiseMax := 0, peaks := [], pieces := [], keys := []
      more := false, water := false, ready := false, imageBad := true }) s

/-- A member has verified the image that the master delivered: applied, or refused with reason 6 (09 R274; 15
R452). -/
def memberVerified (s : State) : State :=
  let img := s.casc.imageRx
  let v := imgVerdict s.part s.trust img
  let s := takeVerdict 2 v (imgKeySlot img) s
  if v = 0 then applyImage none img s
  else refuseImage { s with boot := { s.boot with phase := .waitImage } }

/-! ## What a write of parameters sets off -/

/-- Keys whose entry a write has made other than the one in force (07 R210). -/
def changedKeys (s : State) : List Nat :=
  (List.range 256).filter fun k => keyEntry s.part s.params k != keyEntry s.part s.scan.latched k

/-- The changed keys of a write are noted for the next frame start. -/
def noteKeys (s : State) : State :=
  let new := (changedKeys s).filter fun k => !s.trk.keyChanges.contains k
  { s with trk := { s.trk with keyChanges := s.trk.keyChanges ++ new } }

/-- In a cascade a profile with another code length needs a plan of its own (09 R279). -/
def planFor (p : Nat) (s : State) : State :=
  if s.casc.role = .master ∧ s.casc.planValid ∧ (profileOf s.part s.params p).codeLog ≠ s.casc.codeLog then
    (formPlan p s).2
  else s

/-- doze_profile is in effect at once: DOZE, or the transition to it that waits, goes on with the profile that it names
now (08 R229, R252); frames change at the next frame start (04 R121). -/
def dozeProfile (p : Nat) (s : State) : State :=
  if s.dozes then
    planFor p (match s.pwr.next with
      | some (st, cause, _) => { s with pwr := { s.pwr with next := some (st, cause, p) } }
      | none => { s with scan := { s.scan with nextProfile := some p } })
  else s

/-- A change to a field of the running profile takes effect at the next frame start as a switch of profile does (04
R121). -/
def noteProfile (old : PTab) (s : State) : State :=
  if s.inFrames && profileOf s.part old s.scan.profile != profileOf s.part s.params s.scan.profile then
    { s with scan := { s.scan with profChange := true } }
  else s

/-- What the write of an ID sets off at once, with its value before. -/
def paramEffect (id : Nat) (old : List Byte) (s : State) : State :=
  let n := s.pnat id
  let changed := decide (s.param id ≠ old)
  if id = 0x20F then tempReading 3 (signed 16 n) s
  else if id = 0x210 then humidReading 3 (n : Int) s
  else if id = 0x380 ∨ id = 0x381 then noteKeys s
  else if within 0x600 0x60F id then (if changed then slotWritten (id - 0x600) s else s)
  else if id = 0x408 then (if changed then dozeProfile n s else s)
  else if id = 0x610 then (if changed then refbufWritten (lvlWritten id old s) else s)
  else if id = 0x613 ∨ within 0x640 0x64F id then (if changed then lvlWritten id old s else s)
  else if within 0x620 0x62F id then (if changed then triggerWritten (id - 0x620) old s else s)
  else if within 0x680 0x687 id then (if changed then detectorWritten (id - 0x680) s else s)
  else if within 0x700 0x7FF id then busWritten id old s
  else if id = 0xC07 ∨ id = 0xC08 then { s with front := { s.front with forcedBy := 1 } }
  else s

/-- The IDs of some records, each once. -/
def idsOf (rs : List (Nat × List Byte)) : List Nat :=
  (rs.map (·.1)).foldl (fun l i => if l.contains i then l else l ++ [i]) []

/-- A new table takes effect, with what the written IDs set off. -/
def storeTable (ids : List Nat) (t : PTab) (s : State) : State :=
  let before := s.params
  ids.foldl (fun s id => paramEffect id (pIn s.part before id) s) { s with params := t }

/-- A whole table has taken the place of another: what each ID whose value changed sets off (05 R149; 10 R303, R313). -/
def tableEffects (before : PTab) (s : State) : State :=
  let ids := (before ++ s.params).foldl (fun l r => if l.contains r.1 then l else l ++ [r.1]) []
  (ids.filter fun id => pIn s.part before id != s.param id).foldl (fun s id => paramEffect id (pIn s.part before id) s) s

/-- A member that has booted verifies an image delivered at a re-join or a new enumeration: applied, and the tile reports
ready, or refused with reason 6 (09 R274, R293, R294; 15 R452). Fuses change once per boot (15 R453). -/
def laterVerified (s : State) : State :=
  let img := s.casc.imageRx
  let v := imgVerdict s.part s.trust img
  let s := takeVerdict 2 v (imgKeySlot img) { s with casc := { s.casc with imageDue := none } }
  if v = 0 then
    let s := tableEffects s.params (applyRecordsOf img s)
    reportReady { s with mem := { s.mem with
      bootSlot := none, keySlot := some (imgKeySlot img), rollback := imgRollback img, headerDigest := imgHeaderDigest img } }
  else refuseImage s

/-- IMAGE_VERIFICATION_COMPLETE (15 R450). -/
def execImageVerificationComplete (tk : Tick) (readOk : Bool) (s : State) : Host.Outcome State Fault Refusal :=
  runAt tk s fun s =>
    if !s.pwr.pd1 then s
    else match s.boot.verifySlot with
    | some (n, second) => slotVerified n second readOk s
    | none =>
      if s.casc.role ≠ .member then s
      else if s.boot.phase = .verifying then memberVerified s
      else match s.casc.imageDue with
      | some t => if s.imageWaits t then s else laterVerified s
      | none => s

/-- Recovery mode is entered (15 R463, R464). -/
def enterRecovery (cause : Nat) (s : State) : State :=
  tally 0xA15 (d48 [(8, cause)]) { s with
    params := []
    boot := { s.boot with phase := .done, recovery := cause, recoveryDue := none }
    link := { s.link with busy := false, mode := 2 }
    casc := { s.casc with ports := Cascade.initial.ports }
    mem := { s.mem with bootSlot := none, keySlot := none, rollback := 0, headerDigest := List.replicate 32 0 } }

/-- RECOVERY_ENTRY (15 R463; 18 R507): at the later of the end of discovery and of node-memory initialisation. -/
def execRecoveryEntry (tk : Tick) (s : State) : Host.Outcome State Fault Refusal :=
  runAt tk s fun s =>
    match s.boot.recoveryDue with
    | some c => if s.boot.nodeInit ∧ s.boot.phase ≠ .done then enterRecovery c s else s
    | none => s

end Sys2Proof.Machine
end

