-- ==== Sys2Proof/Machine/Link.lean ====
section
/-! DEFINITION. Chapter 11: the link operations, the register window, claims and DONE, hold-offs and the WAKE pin. -/

namespace Sys2Proof.Machine

/-! ## Served transactions (11 R330, R337, R338) -/

/-- Does the host link answer (01 R18; 08 R245; 18 R502)? -/
def State.linkOn (s : State) : Bool := s.attnOn && s.casc.role != .member

/-- Has a transaction come as far as the end of its header, bit 31 of the vector, the whole leader? -/
def extHeader : Extent → Bool
  | .short => false
  | _ => true

def extClaim : Extent → Bool
  | .short => false
  | .header => false
  | _ => true

def extStatus : Extent → Bool
  | .status => true
  | .full => true
  | _ => false

/-- Bytes of a source's vector spacing (11 Table 11.4). -/
def strideBytes (stride : BitVec 2) : Nat := 4 * 2 ^ stride.toNat

/-- Is source `a` chosen before source `b` (11 R346)? -/
def chosenBefore (attn : Attn) (a b : Nat) : Bool :=
  let pri := fun (x : Nat) => (attn.groups.getD (groupOf x) .initial).priority.toNat
  decide (pri b < pri a) ||
    (pri a == pri b && (decide (groupOf a < groupOf b) || (groupOf a == groupOf b && decide (a < b))))

/-- The source that a leader delivers; none while BUSY (11 R338, R346). -/
def chosen (s : State) : Option Nat :=
  if s.link.busy then none else bestBy (chosenBefore s.attn) (deliverables s)

/-- The vector of a source (11 R346). -/
def vectorOf (a : Attn) (src : Nat) : Nat := a.base.toNat + src * strideBytes a.stride

/-- The bit of CLEARED_BEFORE_SERVICE of a source. -/
def clearCbs (src : Nat) (a : Attn) : Attn :=
  match findIdx? (· == src) levelSources with
  | some i => { a with cbs := setBit a.cbs i false }
  | none => a

/-- A claim (11 R337, R347 to R349): in service, not pending, and its group's hold-off starts. -/
def claim (src : Nat) (s : State) : State :=
  let g := groupOf src
  let a := clearCbs src s.attn
  { s with attn := { a with
      pending := setBit a.pending src false
      inService := setBit a.inService src true
      claimed := if a.active.getLsbD src then setBit a.claimed src true else a.claimed
      vector := BitVec.ofNat 32 (vectorOf a src)
      groups := modAt a.groups g fun (h : Group) => { h with
        holdEnd := if h.count = 0 then none else some (tAdd s.now (h.count.toNat * 2 ^ h.scale.toNat * 256))
        holdScale := h.scale } } }

/-- The leader of a transaction: vector and status byte, both formed at the end of the header, then the claim;
CRC_ERROR clears once the status byte has gone out (11 R330, R337, Table 11.2). -/
def leader (refused : Bool) (ext : Extent) (s : State) : List Byte × State :=
  if !extHeader ext then ([], s)
  else
    let src := chosen s
    let vec := match src with | some x => vectorOf s.attn x | none => 0
    let st := statusByte s refused
    let s := { s with link := { s.link with status := BitVec.ofNat 8 st } }
    let s := match src with
      | some x => if extClaim ext then claim x s else s
      | none => s
    let s := if extStatus ext then { s with link := { s.link with crcError := false } } else s
    let bytes := leBytes 4 vec ++ leBytes 1 st
    (if extStatus ext then bytes else if extClaim ext then bytes.take 3 else [], s)

/-- What the chip shifted out. -/
def shifted (bs : List Byte) (s : State) : State := { s with link := { s.link with out := bs } }

/-- Every transaction but READ_ID ends a wake check (08 R242); PUSH_CMD and WRITE_REG clear HOST_ASLEEP (R244). -/
def linkActivity (wakes : Bool) (s : State) : State :=
  let s := wakeCheckPass s
  if wakes then wakeHost { s with pwr := { s.pwr with hostAsleep := false } } else s

/-- A discarded host-to-chip transaction (11 R333, R334, Table 11.13). -/
def discardLink (op kind : Nat) (s : State) : State :=
  tally 0x801 (d48 [(8, op), (8, kind)]) { s with link := { s.link with crcError := true } }

/-- An unanswered transaction shifts nothing out. -/
def onLink (s : State) (f : State → State) : State := if s.linkOn then f s else shifted [] s

/-! ## The register window (11 R339 to R341, R347, R348) -/

/-- TIMEBASE_LO latches TIMEBASE_HI (11 R340; 02 R38). -/
def latchTime (s : State) : State :=
  { s with time := { s.time with hiLatch := BitVec.ofNat 24 (s.now.toNat / 2 ^ 32) } }

/-- TALLY_SEQ_LO latches TALLY_SEQ_HI (11 R340). -/
def latchSeq (s : State) : State := { s with link := { s.link with seqHi := BitVec.ofNat 16 s.tally.epoch } }

/-- TIMEBASE_LO_READ (11 R340). -/
def execTimebaseLoRead (tk : Tick) (s : State) : Host.Outcome State Fault Refusal :=
  runAt tk s fun s => if s.linkOn then latchTime s else s

/-- TALLY_SEQ_LO_READ (11 R340). -/
def execTallySeqLoRead (tk : Tick) (s : State) : Host.Outcome State Fault Refusal :=
  runAt tk s fun s => if s.linkOn then latchSeq s else s

/-- W1C of ATTN_PENDING: an active level source stays pending and is acknowledged (11 R347; 08 R231); a bit that
hardware sets at the same instant stays set, wherever the queue has it (00 R9, 02 Table 2.6). -/
def writePending (v : Word) (s : State) : State :=
  let w : BitVec 25 := v.truncate 25
  { s with attn := { s.attn with
      pending := s.attn.pending &&& ~~~(w &&& ~~~s.attn.active &&& ~~~s.justPend)
      acked := s.attn.acked ||| (w &&& s.attn.active) } }

/-- W1C of CLEARED_BEFORE_SERVICE (11 R348; 00 R9). -/
def writeCbs (v : Word) (s : State) : State :=
  { s with attn := { s.attn with cbs := s.attn.cbs &&& ~~~((v >>> 8).truncate 6 &&& ~~~s.justCbs) } }

/-- Does every source's vector lie in 1 to 0xFFFFFFFF (11 R341)? -/
def vectorsOk (base : Nat) (stride : BitVec 2) : Bool :=
  decide (0 < base) && decide (base + 24 * strideBytes stride ≤ 0xFFFFFFFF)

/-- VECTOR_BASE (11 R341). -/
def writeBase (v : Word) (s : State) : State :=
  let b := v &&& 0xFFFFFFE0#32
  if vectorsOk b.toNat s.attn.stride then { s with attn := { s.attn with base := b } } else s

/-- VECTOR_STRIDE (11 R341). -/
def writeStride (v : Word) (s : State) : State :=
  let d : BitVec 2 := v.truncate 2
  if vectorsOk s.attn.base.toNat d then { s with attn := { s.attn with stride := d } } else s

/-- HOLDOFF_Gn (11 Table 11.4): a running hold-off goes on as it is. -/
def writeHoldoff (g : Nat) (v : Word) (s : State) : State :=
  { s with attn := { s.attn with groups := modAt s.attn.groups g fun (h : Group) => h.load v.toNat } }

/-- The registers without a behaviour of their own: ATTN_ENABLE, ATTN_GLOBAL, ATTN_WAKE_GROUPS (11 R339). -/
def writePlain (addr : Nat) (v : Word) (s : State) : State :=
  match addr with
  | 0x10 => { s with attn := { s.attn with enable := v.truncate 25 } }
  | 0x14 => { s with attn := { s.attn with global := v.getLsbD 0 } }
  | 0x88 => { s with attn := { s.attn with wakeGroups := v.truncate 8 } }
  | _ => s

/-- One word written; RO and reserved addresses ignore it (11 R333; 00 R10). -/
def writeWord (addr : Nat) (v : Word) (s : State) : State :=
  let a := addr / 4 * 4
  if 0x60 ≤ a ∧ a < 0x80 then writeHoldoff ((a - 0x60) / 4) v s
  else match a with
  | 0x04 => writeCbs v s
  | 0x0C => writePending v s
  | 0x18 => writeBase v s
  | 0x1C => writeStride v s
  | _ => writePlain a v s

/-- May a register be written now (11 R338)? -/
def State.linkWrites (s : State) : Bool := s.linkOn && !s.link.busy

/-- ATTN_PENDING_WRITE (11 R347). -/
def execAttnPendingWrite (tk : Tick) (value : Word) (s : State) : Host.Outcome State Fault Refusal :=
  runAt tk s fun s => if s.linkWrites then writePending value s else s

/-- CLEARED_BEFORE_SERVICE_WRITE (11 R348): bits 13:8 of the word written to LINK_STATUS. -/
def execClearedBeforeServiceWrite (tk : Tick) (value : Word) (s : State) : Host.Outcome State Fault Refusal :=
  runAt tk s fun s => if s.linkWrites then writeCbs value s else s

/-- VECTOR_BASE_WRITE (11 R341). -/
def execVectorBaseWrite (tk : Tick) (value : Word) (s : State) : Host.Outcome State Fault Refusal :=
  runAt tk s fun s => if s.linkWrites then writeBase value s else s

/-- VECTOR_STRIDE_WRITE (11 R341). -/
def execVectorStrideWrite (tk : Tick) (value : Word) (s : State) : Host.Outcome State Fault Refusal :=
  runAt tk s fun s => if s.linkWrites then writeStride value s else s

/-- HOLDOFF_WRITE (11 R341). -/
def execHoldoffWrite (tk : Tick) (group : Fin 8) (value : Word) (s : State) : Host.Outcome State Fault Refusal :=
  runAt tk s fun s => if s.linkWrites then writeHoldoff group value s else s

/-- REGISTER_WRITE (11 R339). -/
def execRegisterWrite (tk : Tick) (addr : BitVec 16) (value : Word) (s : State) : Host.Outcome State Fault Refusal :=
  runAt tk s fun s => if s.linkWrites then writePlain (addr.toNat / 4 * 4) value s else s

/-! ## Link operations (11 Table 11.1) -/

/-- Is a burst's word count in range? The spec does not cover another one; it is refused, as an invalid length is
(log 61). -/
def burstOk (n : Nat) : Bool := within 1 32 n

/-- Addresses of a burst (11 R332). -/
def burst (addr n : Nat) : List Nat := (List.range n).map fun i => (addr / 4 * 4 + 4 * i) % 65536

/-- READ_REG (11 R332, R340): every word is taken at the last bit of the header. -/
def readReg (addr words : Nat) (ext : Extent) (s : State) : State :=
  if !extHeader ext then shifted [] (linkActivity false s)
  else
    let s := linkActivity false s
    let bad := !burstOk words
    let as := if bad then [] else burst addr words
    let s := if as.contains 0x40 then latchTime s else s
    let s := if as.contains 0x4C then latchSeq s else s
    let view := { s with link := { s.link with status := BitVec.ofNat 8 (statusByte s bad) } }
    let body := as.flatMap fun a => leBytes 4 (regRead view a)
    let r := leader bad ext s
    shifted (if ext = .full ∧ !bad then r.1 ++ body ++ crcBytes (r.1 ++ body) else r.1) r.2

/-- READ_REG. -/
def execReadReg (tk : Tick) (addr : BitVec 16) (words : Nat) (ext : Extent) (s : State) :
    Host.Outcome State Fault Refusal :=
  runAt tk s fun s => onLink s (readReg addr.toNat words ext)

/-- WRITE_REG (11 R333): its words are applied in address order at the rising edge of HOST_CS_N. -/
def writeReg (addr count : Nat) (words : List Word) (crc : BitVec 16) (ext : Extent) (s : State) : State :=
  let s := linkActivity true s
  let refused := s.link.busy || (extHeader ext && !burstOk count)
  let r := leader refused ext s
  let s := shifted r.1 r.2
  if refused then s
  else if ext ≠ .full ∨ words.length ≠ count then discardLink 0x20 2 s
  else if crc16 ([0x20] ++ leBytes 2 addr ++ leBytes 1 count ++ words.flatMap fun w => leBytes 4 w.toNat) ≠ crc then
    discardLink 0x20 1 s
  else ((burst addr count).zip words).foldl (fun s e => writeWord e.1 e.2 s) s

/-- WRITE_REG. -/
def execWriteReg (tk : Tick) (addr : BitVec 16) (count : Nat) (words : List Word) (crc : BitVec 16) (ext : Extent)
    (s : State) : Host.Outcome State Fault Refusal :=
  runAt tk s fun s => onLink s (writeReg addr.toNat count words crc ext)

/-- Is a push's length valid, and is there space for it (11 R334)? -/
def pushOk (length : Nat) (s : State) : Bool :=
  decide (8 ≤ length) && decide (length ≤ s.cmdSize) && length % 4 == 0 && decide (length ≤ s.cmd.free s.cmdSize)

/-- PUSH_CMD (11 R334): one unit of the command ring. -/
def pushCmd (length : Nat) (bytes : List Byte) (ext : Extent) (s : State) : State :=
  let s := linkActivity true s
  let refused := s.link.busy || !pushOk length s
  let r := leader refused ext s
  let s := shifted r.1 r.2
  if refused ∨ !extHeader ext then s
  else if ext ≠ .full ∨ bytes.length < length then discardLink 0x30 2 s
  else { s with cmd := s.cmd.put s.cmdSize ⟨bytes.take length, .plain⟩ }

/-- PUSH_CMD. -/
def execPushCmd (tk : Tick) (length : Nat) (bytes : List Byte) (ext : Extent) (s : State) :
    Host.Outcome State Fault Refusal :=
  runAt tk s fun s => onLink s (pushCmd length bytes ext)

/-- The whole units at a ring's tail within `max` bytes (11 R335). -/
def takeUnits : Nat → List Item → List Item
  | _, [] => []
  | max, i :: r => if i.bytes.length ≤ max then i :: takeUnits (max - i.bytes.length) r else []

/-- The answer of a pop: leader, count, data, CRC. -/
def popBytes (lead data : List Byte) : List Byte :=
  let body := lead ++ leBytes 2 data.length ++ data
  body ++ crcBytes body

/-- What the commit of popped report records sets off: the new link width, a RESET (11 R331; 12 R370). -/
def poppedMarks (items : List Item) (s : State) : State :=
  let widths := items.filterMap fun i => match i.mark with | .widthReply w => some w | _ => none
  let s := match widths.getLast? with
    | some w => { s with link := { s.link with width := BitVec.ofNat 2 w } }
    | none => s
  match items.findSome? fun i => match i.mark with | .resetReply k => some k | _ => none with
  | some k => if s.bench.resetArmed.isSome then takeReset k s else s
  | none => s

/-- POP_REPORT (11 R335). -/
def popReport (max : Nat) (ext : Extent) (s : State) : State :=
  let s := linkActivity false s
  let units := takeUnits max s.report.items
  let data := units.flatMap (·.bytes)
  let r := leader s.link.busy ext s
  if ext ≠ .full then shifted r.1 r.2
  else if s.link.busy then shifted (popBytes r.1 []) r.2
  else
    let s := r.2
    shifted (popBytes r.1 data)
      (poppedMarks units { s with report := s.report.drop s.reportSize units.length data.length })

/-- POP_REPORT. -/
def execPopReport (tk : Tick) (max : Nat) (ext : Extent) (s : State) : Host.Outcome State Fault Refusal :=
  runAt tk s fun s => onLink s (popReport max ext)

/-- Words leave the image entry at the tail; the entry goes when nothing of it is left. -/
def Ring.eat (r : Ring) (size n : Nat) : Ring :=
  match r.items with
  | [] => r
  | i :: rest =>
    { r with
      items := if i.bytes.length ≤ n then rest else { i with bytes := i.bytes.drop n } :: rest
      tail := (r.tail + n) % (2 * size) }

/-- POP_IMAGE (11 R335): 4-byte words of a single image entry. -/
def popImage (max : Nat) (ext : Extent) (s : State) : State :=
  let s := linkActivity false s
  let data := match s.image.items with
    | i :: _ => i.bytes.take (max / 4 * 4)
    | [] => []
  let r := leader s.link.busy ext s
  if ext ≠ .full then shifted r.1 r.2
  else if s.link.busy then shifted (popBytes r.1 []) r.2
  else
    let s := shifted (popBytes r.1 data) r.2
    { s with image := s.image.eat s.imageSize data.length }

/-- POP_IMAGE. -/
def execPopImage (tk : Tick) (max : Nat) (ext : Extent) (s : State) : Host.Outcome State Fault Refusal :=
  runAt tk s fun s => onLink s (popImage max ext)

/-- POP_RECORD (11 R335). -/
def popRecord (max : Nat) (ext : Extent) (s : State) : State :=
  let s := linkActivity false s
  let units := takeUnits max s.record.items
  let data := units.flatMap (·.bytes)
  let r := leader s.link.busy ext s
  if ext ≠ .full then shifted r.1 r.2
  else if s.link.busy then shifted (popBytes r.1 []) r.2
  else
    let s := shifted (popBytes r.1 data) r.2
    { s with record := s.record.drop s.recordSize units.length data.length }

/-- POP_RECORD. -/
def execPopRecord (tk : Tick) (max : Nat) (ext : Extent) (s : State) : Host.Outcome State Fault Refusal :=
  runAt tk s fun s => onLink s (popRecord max ext)

/-- A source leaves service (11 R336, R347, R348): an active level source is pending again, and its activation is
acknowledged when the claim was made during it (08 R231). -/
def leaveService (src : Nat) (s : State) : State :=
  let a := s.attn
  let act := a.active.getLsbD src
  { s with attn := { a.setBits s.now (if act then oneBit 25 src else 0) 0 with
      inService := setBit a.inService src false
      acked := if act && a.claimed.getLsbD src then setBit a.acked src true else a.acked } }

/-- DONE (11 R336): it acts at the last bit of its header, before the leader. -/
def doneOp (source check : Nat) (ext : Extent) (s : State) : State :=
  let s := linkActivity false s
  let ok := !s.link.busy && decide (source < 25) && check == 255 - source && s.attn.inService.getLsbD source
  let s := if ok && extHeader ext then leaveService source s else s
  let r := leader (!ok) ext s
  shifted r.1 r.2

/-- DONE. -/
def execDone (tk : Tick) (source check : Byte) (ext : Extent) (s : State) : Host.Outcome State Fault Refusal :=
  runAt tk s fun s => onLink s (doneOp source.toNat check.toNat ext)

/-- READ_ID (01 R19). -/
def execReadId (tk : Tick) (ext : Extent) (s : State) : Host.Outcome State Fault Refusal :=
  runAt tk s fun s => onLink s fun s =>
    let r := leader false ext s
    shifted (if ext = .full then r.1 ++ capability s else r.1) r.2

/-- The operation bytes of 11 Table 11.1. -/
def linkOps : List Nat := [0x10, 0x20, 0x30, 0x40, 0x41, 0x42, 0x50, 0x60]

/-- UNDEFINED_LINK_OPERATION (11 R331): refused in its leader. -/
def execUndefinedLinkOperation (tk : Tick) (op : Byte) (ext : Extent) (s : State) : Host.Outcome State Fault Refusal :=
  runAt tk s fun s =>
    if linkOps.contains op.toNat then s
    else onLink s fun s =>
      let r := leader true ext (linkActivity false s)
      shifted r.1 r.2

/-! ## Hold-offs and WAKE (11 R349, R350) -/

/-- HOLDOFF_END (11 R349). -/
def execHoldoffEnd (tk : Tick) (group : Fin 8) (s : State) : Host.Outcome State Fault Refusal :=
  runAt tk s fun s =>
    match (s.attn.groups.getD group .initial).holdEnd with
    | some e =>
      if reached s.now e then
        { s with attn := { s.attn with
          groups := modAt s.attn.groups group fun (h : Group) => { h with holdEnd := none } } }
      else s
    | none => s

/-- The pulse that is called for starts; with ATTN_GLOBAL.ENABLE 0 only one of 08 R243 does (11 R349). -/
def startPulse (cause group : Nat) (s : State) : State :=
  let s := { s with attn := { s.attn with wakeDue := none } }
  if cause = 2 ∨ s.attn.global then
    tally 0x803 (d48 [(8, cause), (8, group)]) { s with attn := { s.attn with wake := .high (tAdd s.now 1024) } }
  else s

/-- WAKE_PULSE_START (11 R350): at once, or 1,024 ticks after the previous pulse ended; a member leaves WAKE low (01
R18). -/
def execWakePulseStart (tk : Tick) (s : State) : Host.Outcome State Fault Refusal :=
  runAt tk s fun s =>
    if s.casc.role = .member then s
    else match s.attn.wakeDue, s.attn.wake with
    | some (c, g), .low => startPulse c g s
    | some (c, g), .gap t => if reached s.now (tAdd t 1024) then startPulse c g s else s
    | _, _ => s

/-- WAKE_PULSE_END (11 R350). -/
def execWakePulseEnd (tk : Tick) (s : State) : Host.Outcome State Fault Refusal :=
  runAt tk s fun s =>
    match s.attn.wake with
    | .high t => if reached s.now t then { s with attn := { s.attn with wake := .gap t } } else s
    | _ => s

end Sys2Proof.Machine
end

