-- ==== Sys2Proof/Machine/Bench.lean ====
section
/-! DEFINITION. Bench: how it takes packets from the command ring, checks and answers them, and stores parameters
(12 R354 to R367, R389 to R393); the commands of identity and power (12 Table 12.5); held replies and queued
records (11 R343). -/

namespace Sys2Proof.Machine

/-! ## Taking packets (12 R355 to R358, R362) -/

/-- A command under execution: tag, opcode, packet_seq and parameters. -/
structure Call where
  tag : Nat
  opcode : Nat
  seq : Nat
  par : List Byte
  deriving DecidableEq, Repr

/-- Does Bench take packets from the command ring now (12 R362, R371; 11 R338, R343; 09 R295)? -/
def benchOpen (s : State) : Bool :=
  s.pwr.pd1 && !s.link.busy && s.casc.role != .member && s.bench.held.isEmpty && s.bench.owed.isNone &&
    s.bench.resetArmed.isNone && !s.cmd.items.isEmpty

/-- What is left of the push at the ring's tail. -/
def benchFront (s : State) : List Byte :=
  match s.cmd.items with
  | i :: _ => i.bytes.drop s.bench.taken
  | [] => []

/-- The tail passes the push; CMD_SPACE becomes pending when the free space rises to the mark (11 R343). -/
def dropPush (s : State) : State :=
  let before := s.cmd.free s.cmdSize
  let cmd := s.cmd.drop s.cmdSize 1 (s.cmd.items.headD ⟨[], .plain⟩).bytes.length
  let s := { s with cmd := cmd, bench := { s.bench with taken := 0 } }
  let mark := s.pnat 0x801
  if before < mark ∧ mark ≤ s.cmd.free s.cmdSize then raise 1 s else s

/-- One packet more is taken (12 Table 12.2). -/
def countPacket (s : State) : State := { s with bench := { s.bench with packetSeq := s.bench.packetSeq + 1 } }

/-- A packet of `size` bytes is taken from the push. -/
def passPacket (size : Nat) (s : State) : State :=
  let n := s.bench.taken + size
  let s := countPacket { s with bench := { s.bench with taken := n } }
  if (s.cmd.items.headD ⟨[], .plain⟩).bytes.length ≤ n then dropPush s else s

/-- The packet at the front, as a call. -/
def callOf (s : State) (p : Packet) : Call := ⟨p.tag, p.opcode, s.bench.packetSeq.toNat, p.par⟩

/-- Bench takes the packet at the front when it carries the opcode. -/
def takeFor (op : Nat) (run : Call → State → State) (s : State) : State :=
  if benchOpen s then
    match takePacket (benchFront s) with
    | .packet p n => if p.opcode = op then run (callOf s p) (passPacket n s) else s
    | _ => s
  else s

/-! ## Replies and checks (12 R358 to R363) -/

/-- The reply of kind 0; data that no reply holds gives OVERFLOW (12 R358, Table 12.3). -/
def sole (c : Call) (status : Nat) (data : List Byte) (s : State) : State :=
  if 4082 < data.length then postReply ⟨c.tag, c.opcode, stOverflow, 0, c.seq, [], .plain⟩ s
  else postReply ⟨c.tag, c.opcode, status, 0, c.seq, data, .plain⟩ s

/-- A refusal without data. -/
def turnDown (c : Call) (status : Nat) (s : State) : State := sole c status [] s

/-- The acceptance of a deferred command. -/
def accept (c : Call) (s : State) : State :=
  postReply ⟨c.tag, c.opcode, stAccepted, 1, c.seq, [], .plain⟩
    { s with bench := { s.bench with outstanding := s.bench.outstanding ++ [⟨c.tag, c.opcode, c.seq, c.par, s.now⟩] } }

/-- The status of 12 R363 for a deferred command: its tag is in use, or 8 are outstanding; 0 when it may start. -/
def roomFor (c : Call) (s : State) : Nat :=
  if s.bench.outstanding.any fun d => d.tag == c.tag then stBadParam
  else if 8 ≤ s.bench.outstanding.length then stOverflow
  else 0

/-- A deferred command whose values hold: accepted, then begun, or refused for room (12 R359, R363). -/
def deferred (c : Call) (go : State → State) (s : State) : State :=
  if roomFor c s = 0 then go (accept c s) else turnDown c (roomFor c s) s

/-- The state sets of 12 Table 12.4. -/
inductive StateSet where
  | all
  | normal
  | update
  | active
  | scanning
  | stopped
  | frames
  deriving DecidableEq, Repr

/-- Recovery mode (12 R367). -/
def State.recovering (s : State) : Bool := s.link.mode == 2

/-- Is the chip in a state set? In recovery only All and Update hold. -/
def inSet (set : StateSet) (s : State) : Bool :=
  let active := s.pwr.st == 3
  match set with
  | .all => decide (2 ≤ s.pwr.st.toNat) || s.recovering
  | .normal => decide (2 ≤ s.pwr.st.toNat) && !s.recovering
  | .update => active || s.recovering
  | .active => active && !s.recovering
  | .scanning => active && s.scanning && !s.recovering
  | .stopped => active && !s.scanning && !s.recovering
  | .frames => ((active && s.scanning) || s.pwr.st == 2) && !s.recovering

/-- Checks 3 to 5 of 12 R360: the unit, the length, the state. -/
def checked (c : Call) (unit lenOk : Bool) (set : StateSet) (go : State → State) (s : State) : State :=
  if !unit then turnDown c stAbsentUnit s
  else if !lenOk then turnDown c stBadLength s
  else if !inSet set s then turnDown c stWrongState s
  else go s

/-- The same on a unit that every part has, with the length of the parameters. -/
def plain (c : Call) (len : Nat) (set : StateSet) (go : State → State) (s : State) : State :=
  checked c true (c.par.length == len) set go s

/-- Refuse by a status, or go on when it is 0. -/
def passing (c : Call) (status : Nat) (go : State → State) (s : State) : State :=
  if status = 0 then go s else turnDown c status s

/-- BAD_PARAM unless a test holds. -/
def badUnless (c : Call) (ok : Bool) (go : State → State) (s : State) : State :=
  if ok then go s else turnDown c stBadParam s

/-! ## Malformed pushes and unknown opcodes (12 R356, R357) -/

/-- The reply of a malformed packet. -/
def malformedReply (tag op status : Nat) (s : State) : State :=
  postReply ⟨tag, op, status, 0, s.bench.packetSeq.toNat, [], .plain⟩ (countPacket s)

/-- Status, tag and opcode of what is malformed at the front. -/
def malformed : Taken → Option (Nat × Nat × Nat)
  | .badLength tag op => some (stBadLength, tag, op)
  | .crcError tag op => some (stCrcError, tag, op)
  | .packet _ _ => none

/-- MALFORMED_PUSH (12 R356): the rest of the push is discarded and counts as one packet. -/
def execMalformedPush (tk : Tick) (s : State) : Host.Outcome State Fault Refusal :=
  runAt tk s fun s =>
    if benchOpen s then
      match malformed (takePacket (benchFront s)) with
      | some (st, tag, op) => malformedReply tag op st (dropPush s)
      | none => s
    else s

/-- The opcodes of chapter 12. -/
def knownOpcodes : List Nat :=
  [0x00, 0x01, 0x02, 0x03, 0x04, 0x05, 0x06, 0x10, 0x11, 0x12, 0x13, 0x14, 0x15, 0x16, 0x18, 0x19, 0x1A,
   0x20, 0x21, 0x22, 0x23, 0x24, 0x28, 0x29, 0x30, 0x31, 0x32, 0x33, 0x34, 0x35, 0x36, 0x37,
   0x40, 0x41, 0x42, 0x43, 0x48, 0x49, 0x4A, 0x50, 0x51, 0x52, 0x53, 0x54, 0x55,
   0x58, 0x59, 0x5A, 0x5B, 0x60, 0x61, 0x68, 0x69, 0x70, 0x71, 0x72]

/-- UNKNOWN_OPCODE (12 R357). -/
def execUnknownOpcode (tk : Tick) (s : State) : Host.Outcome State Fault Refusal :=
  runAt tk s fun s =>
    if benchOpen s then
      match takePacket (benchFront s) with
      | .packet p n => if knownOpcodes.contains p.opcode then s else turnDown (callOf s p) stBadOpcode (passPacket n s)
      | _ => s
    else s

/-! ## Storing parameters (12 R389 to R393) -/

/-- Records are stored in order (12 R391). -/
def store (rs : List (Nat × List Byte)) (s : State) : State :=
  storeTable (idsOf rs) (applyRecords s.part s.params rs) s

/-- Status of a set of records; 0 when all may be stored (12 R390). -/
def judge (s : State) (rs : List (Nat × List Byte)) : Nat :=
  match judgeRecords s rs with
  | .error (st, _, _) => st
  | .ok _ => 0

/-- Status of a set of records by their own tests alone (12 R390, tests 1 to 6). -/
def valueStatus (s : State) (rs : List (Nat × List Byte)) : Nat :=
  match firstBad (recordTests s (countsAfter s.part s.params rs)) 0 rs with
  | some (st, _, _) => st
  | none => 0

/-- A command that writes parameters: judged as a PARAM_SET of its records, with a status only (12 R390). -/
def writeForm (c : Call) (rs : List (Nat × List Byte)) (s : State) : State :=
  passing c (judge s rs) (fun s => sole c stOk [] (store rs s)) s

/-- The records of IDs that stand one after the other in a packet's parameters. -/
def formRecords (part : Part) : List Nat → List Byte → List (Nat × List Byte)
  | [], _ => []
  | id :: ids, bs =>
    let n := match paramInfo part id with | some i => i.size | none => 0
    (id, slice bs 0 n) :: formRecords part ids (bs.drop n)

/-- A range of IDs. -/
def idRange (a b : Nat) : List Nat := (List.range (b + 1 - a)).map (a + ·)

/-! ## Identity (12 Table 12.5) -/

/-- NOP. -/
def cmdNop (c : Call) (s : State) : State := plain c 0 .all (sole c stOk []) s

/-- NOP (12 R359). -/
def execNop (tk : Tick) (s : State) : Host.Outcome State Fault Refusal := runAt tk s (takeFor 0x00 cmdNop)

/-- IDENTIFY. -/
def cmdIdentify (c : Call) (s : State) : State := plain c 0 .all (fun s => sole c stOk (identifyData s) s) s

/-- IDENTIFY (12 R368). -/
def execIdentify (tk : Tick) (s : State) : Host.Outcome State Fault Refusal := runAt tk s (takeFor 0x01 cmdIdentify)

/-- ATTEST: a nonce of zeros is refused. -/
def cmdAttest (c : Call) (s : State) : State :=
  plain c 32 .all (badUnless c (c.par.any (· != 0)) (deferred c id)) s

/-- ATTEST (15 R457). -/
def execAttest (tk : Tick) (s : State) : Host.Outcome State Fault Refusal := runAt tk s (takeFor 0x02 cmdAttest)

/-- GET_STATUS. -/
def cmdGetStatus (c : Call) (s : State) : State := plain c 0 .all (fun s => sole c stOk (statusData s) s) s

/-- GET_STATUS (12 R369). -/
def execGetStatus (tk : Tick) (s : State) : Host.Outcome State Fault Refusal := runAt tk s (takeFor 0x03 cmdGetStatus)

/-! ## Stopping, as RESET and SCAN_STOP share it (04 R122, Table 4.5) -/

/-- The reply waits for the parking of the drive lines at an instant; an earlier parking stands. -/
def parkFor (r : Reply) (t : Time) (s : State) : State :=
  { s with bench := { s.bench with parkDue := some (s.bench.parkDue.getD t), owed := some r } }

/-- The reply waits for the end of scanning, or of the start in progress. -/
def oweFor (r : Reply) (s : State) : State := askStop { s with bench := { s.bench with owed := some r } }

/-! ## RESET (12 R370, R371) -/

/-- RESET: scanning stops as by SCAN_STOP mode 1, then comes the OK reply, whose pop resets the chip. -/
def cmdReset (c : Call) (s : State) : State :=
  let k := byteAt c.par 0
  let r : Reply := ⟨c.tag, c.opcode, stOk, 0, c.seq, [], .resetReply k⟩
  plain c 1 .all (badUnless c (decide (k ≤ 2)) fun s =>
    let s := { s with bench := { s.bench with resetArmed := some (k, none) } }
    match parkAt s with
    | some t => parkFor r t s
    | none => if s.scanning then oweFor r s else postReply r s) s

/-- RESET (12 R370). -/
def execReset (tk : Tick) (s : State) : Host.Outcome State Fault Refusal := runAt tk s (takeFor 0x04 cmdReset)

/-! ## SET_POWER (08 R234) -/

/-- The scanning of DOZE that an entry was to end, or has ended, goes on (08 R229, R234). -/
def resumeDoze (s : State) : State :=
  if s.pwr.entry.isNone then s
  else match s.scan.phase with
  | .stopping => dropEntry { s with scan := { s.scan with phase := .frames } }
  | .stopped => startScan (s.pnat 0x408) false .waitPump (dropEntry s)
  | _ => dropEntry s

/-- From DOZE to ACTIVE: at the end of the last DOZE frame slot, its profile going on where scan is 0, also where an entry
was to end it; at once, with nothing scanning, where scanning has been ended and scan is 0. -/
def wakeActive (scan : Nat) (s : State) : State :=
  let next := fun (p : Nat) => planFor p { s with pwr := { s.pwr with next := some (3, 0, p) } }
  let goOn := fun (s : State) => if s.scan.phase = .stopping then { s with scan := { s.scan with phase := .frames } } else s
  if scan = 1 then next (s.pnat 0x111)
  else if s.scan.phase = .stopped then powerStep { s with pwr := { s.pwr with next := some (3, 0, presentProfile s) } }
  else goOn (next (presentProfile s))

/-- Status of SET_POWER's values (08 R234; 15 R459). -/
def powerStatus (st : Nat) (s : State) : Nat :=
  if 3 < st then stBadParam
  else if st = 1 ∧ !s.anySill then stBadParam
  else if st = 2 ∧ !s.dozeOk then stBadParam
  else if s.trust.boundary ∧ st ≠ 3 then stWrongState
  else 0

/-- SET_POWER. -/
def cmdSetPower (c : Call) (s : State) : State :=
  let st := byteAt c.par 0
  let scan := byteAt c.par 1
  plain c 2 .normal (fun s => passing c (powerStatus st s) (fun s =>
    if s.pwr.st.toNat = st then sole c stOk [] (if st = 2 then resumeDoze s else dropEntry s)
    else if st ≤ 1 then
      (if roomFor c s = 0 then askEntry st 0 (some c.tag) (accept c (dropEntry s)) else turnDown c (roomFor c s) s)
    else if st = 2 then
      let s := dropEntry s
      sole c stOk [] (planFor (s.pnat 0x408) { s with pwr := { s.pwr with next := some (2, 0, s.pnat 0x408) } })
    else sole c stOk [] (wakeActive scan (dropEntry s))) s) s

/-- SET_POWER (08 R234). -/
def execSetPower (tk : Tick) (s : State) : Host.Outcome State Fault Refusal := runAt tk s (takeFor 0x05 cmdSetPower)

/-- HOST_SLEEP: HOST_ASLEEP is set when its reply is written. -/
def cmdHostSleep (c : Call) (s : State) : State := plain c 0 .normal (sole c stOk []) s

/-- HOST_SLEEP (08 R244). -/
def execHostSleep (tk : Tick) (s : State) : Host.Outcome State Fault Refusal := runAt tk s (takeFor 0x06 cmdHostSleep)

/-! ## Held replies and queued records (11 R343; 12 R395) -/

/-- Held replies are written in order while they fit. -/
def writeHeld : Nat → State → State
  | 0, s => s
  | n + 1, s =>
    match s.bench.held with
    | r :: rest =>
      if s.reportFits r.size then writeHeld n (writeReply r { s with bench := { s.bench with held := rest } }) else s
    | [] => s

/-- HELD_REPLY_WRITE (11 R343). -/
def execHeldReplyWrite (tk : Tick) (s : State) : Host.Outcome State Fault Refusal :=
  runAt tk s fun s => if s.pwr.pd1 then writeHeld s.bench.held.length s else s

/-- QUEUED_RECORD_WRITE (11 R343): the oldest queued record. -/
def execQueuedRecordWrite (tk : Tick) (s : State) : Host.Outcome State Fault Refusal :=
  runAt tk s fun s =>
    match s.bench.faultQueue with
    | bs :: rest =>
      if s.pwr.pd1 ∧ s.reportFits bs.length then
        writeReport bs .plain { s with bench := { s.bench with faultQueue := rest } }
      else s
    | [] => s

end Sys2Proof.Machine
end

