-- ==== Sys2Proof/Machine/TouchCmds.lean ====
section
/-! DEFINITION. The commands of scanning and baseline (12 Table 12.8) and of touch output (12 Table 12.9). -/

namespace Sys2Proof.Machine

/-! ## SCAN_START, SCAN_STOP, SCAN_PROFILE (04 R120 to R122) -/

/-- Does a profile meet 04 R98, R105, R119 and 09 R278 as it would take effect? -/
def State.profileFits (s : State) (p : Nat) : Bool :=
  profileOk s.part s.params s.linkRate s.casc.driveCounts (profileOf s.part s.params p)

/-- SCAN_START: a fresh start of a profile, 0xFF naming active_profile. -/
def cmdScanStart (c : Call) (s : State) : State :=
  plain c 1 .stopped (fun s =>
    let n := byteAt c.par 0
    let p := if n = 0xFF then s.pnat 0x111 else n
    if s.trust.boundary then turnDown c stWrongState s
    else badUnless c (decide (p ≤ 7) && s.profileFits p)
      (deferred c fun s => startScan p true .waitCheck (planFor p s)) s) s

/-- SCAN_START (04 R120). -/
def execScanStart (tk : Tick) (s : State) : Host.Outcome State Fault Refusal := runAt tk s (takeFor 0x10 cmdScanStart)

/-- Is a frame in progress, its records not yet written? -/
def State.frameOpen (s : State) : Bool := s.scan.stage != .none && s.scan.stage != .written

/-- SCAN_STOP while scanning runs: mode 1 parks the drive lines at the next chip boundary; mode 0, and mode 1 in a
gap, let the frame complete (04 R122). A start in progress ends at its next step (Table 4.5). -/
def stopScan (c : Call) (mode : Nat) (s : State) : State :=
  let r : Reply := ⟨c.tag, c.opcode, stOk, 0, c.seq, [], .plain⟩
  if !s.inFrames then oweFor r s
  else match (if mode = 1 then parkAt s else none) with
  | some t => parkFor r t s
  | none => if s.frameOpen then deferred c askStop s else oweFor r s

/-- SCAN_STOP. -/
def cmdScanStop (c : Call) (s : State) : State :=
  let mode := byteAt c.par 0
  plain c 1 .active (badUnless c (decide (mode ≤ 1)) fun s =>
    if s.scanning then stopScan c mode s else sole c stOk [] s) s

/-- SCAN_STOP (04 R122). -/
def execScanStop (tk : Tick) (s : State) : Host.Outcome State Fault Refusal := runAt tk s (takeFor 0x11 cmdScanStop)

/-- Bytes of a tile's image: 3 per node in modes 1 and 2, 2 per line in mode 3, with the INTERP bitmap in modes 2
and 3 (09 R290). -/
def tileBytes (mode t : Nat) (s : State) : Nat :=
  let d := s.casc.driveCounts.getD (t / 4) 0
  let n := s.casc.senseCounts.getD (t % 4) 0
  match mode with
  | 1 => 3 * (d * n)
  | 2 => 3 * (d * n) + ceilDiv (d * n) 8
  | 3 => 2 * (d + n) + ceilDiv (d + n) 8
  | _ => 0

/-- The image rate of 09 R290 holds at each port of the master for a profile in frames of `ticks`. -/
def streamFits (mode rate ticks : Nat) (s : State) : Bool :=
  s.casc.role != .master || (List.range 4).all fun p =>
    let ts := s.joinedTiles.filter fun t => tileStreams s t && (routeTo s t).map (·.1) == some p
    decide (8388608 * sumNat (ts.map fun t => tileBytes mode t s) ≤ 4000000 * (ticks * 2 ^ rate))

/-- SCAN_PROFILE: the switch acts at the next frame start; the reply gives what that frame runs. -/
def cmdScanProfile (c : Call) (s : State) : State :=
  let p := byteAt c.par 0
  plain c 1 .scanning (fun s =>
    let q := profileOf s.part s.params p
    let ok := decide (p ≤ 7) && s.profileFits p &&
      streamFits q.imageMode q.imageRate (frameTicksOf s.part s.params s.linkRate q) s
    badUnless c ok (fun s =>
      let s := planFor p { s with scan := { s.scan with nextProfile := some p } }
      sole c stOk (leBytes 4 (nextTicks (!s.inFrames) s) ++ activeBytes (nextSet s)) s) s) s

/-- SCAN_PROFILE (04 R121). -/
def execScanProfile (tk : Tick) (s : State) : Host.Outcome State Fault Refusal := runAt tk s (takeFor 0x12 cmdScanProfile)

/-! ## FREQ_SET (04 R113; 12 R375) -/

/-- The parameters that FREQ_SET writes. -/
def freqRecords (par : List Byte) : List (Nat × List Byte) :=
  (List.range 16).map (fun i => (0x100 + i, slice par i 1)) ++ [(0x110, slice par 16 2), (0x112, slice par 18 1)]

/-- The profile that a named set is judged against: the running one, or active_profile. DESIGN CHOICE (log 78): with a
change of profile pending, the profile of the next frame stands for the running one. -/
def freqProfile (s : State) : Nat := if s.scanning then nextProf s else s.pnat 0x111

/-- The set that FREQ_SET names on the table it leaves, when it is admissible. -/
def freqSet (par : List Byte) (s : State) : Option (List Nat) :=
  let rs := freqRecords par
  let t := applyRecords s.part s.params rs
  let p := freqProfile s
  let prof := profileOf s.part t p
  let set := (List.range 4).map fun i => byteAt par (20 + i)
  let want := set.take prof.active
  let ok := (set.drop prof.active).all (· == 0xFF) &&
    admissible s.part t s.linkRate (testTicks s t p) prof want
  if ok then some want else none

/-- FREQ_SET. -/
def cmdFreqSet (c : Call) (s : State) : State :=
  let rs := freqRecords c.par
  plain c 24 .normal (fun s => passing c (judge s rs) (fun s =>
    let auto := byteAt c.par 18 = 1
    match freqSet c.par s with
    | some set =>
      let s := store rs s
      sole c stOk [] { s with scan := { s.scan with namedSet := if auto then none else some set } }
    | none =>
      if auto then
        let s := store rs s
        sole c stOk [] { s with scan := { s.scan with namedSet := none } }
      else turnDown c stBadParam s) s) s

/-- FREQ_SET (04 R113). -/
def execFreqSet (tk : Tick) (s : State) : Host.Outcome State Fault Refusal := runAt tk s (takeFor 0x13 cmdFreqSet)

/-! ## LINE_MAP, HEALTH_MAP, LEGACY_PHASE -/

/-- The parameters that LINE_MAP writes (12 R376). -/
def lineMapRecords (part : Part) (par : List Byte) : List (Nat × List Byte) :=
  formRecords part [0xC00, 0xC01, 0xC02, 0xC03, 0xC04, 0xC05, 0xC07, 0xC08] par

/-- Does LINE_MAP change what scanning fixes: the line counts in force and the stored orders (12 R376)? -/
def lineMapMoves (rs : List (Nat × List Byte)) (s : State) : Bool :=
  rs.any fun r =>
    (r.1 == 0xC00 && leVal r.2 != s.front.driveCount) || (r.1 == 0xC01 && leVal r.2 != s.front.senseCount) ||
      ((r.1 == 0xC02 || r.1 == 0xC03) && r.2 != s.param r.1)

/-- Status of a LINE_MAP: values, then the state rule, then the ties. -/
def lineMapStatus (rs : List (Nat × List Byte)) (s : State) : Nat :=
  match firstBad (recordStatus s false (countsAfter s.part s.params rs)) 0 rs with
  | some (st, _, _) => st
  | none =>
    if s.scanning && lineMapMoves rs s then stWrongState
    else match tieStatus s (applyRecords s.part s.params rs) rs with
    | some (st, _, _) => st
    | none => 0

/-- LINE_MAP. -/
def cmdLineMap (c : Call) (s : State) : State :=
  let rs := lineMapRecords s.part c.par
  plain c 48 .normal (fun s => passing c (lineMapStatus rs s) (fun s => sole c stOk [] (store rs s)) s) s

/-- LINE_MAP (12 R376). -/
def execLineMap (tk : Tick) (s : State) : Host.Outcome State Fault Refusal := runAt tk s (takeFor 0x14 cmdLineMap)

/-- HEALTH_MAP. -/
def cmdHealthMap (c : Call) (s : State) : State := plain c 0 .normal (fun s => sole c stOk (healthMap s) s) s

/-- HEALTH_MAP (03 R92; 12 R377). -/
def execHealthMap (tk : Tick) (s : State) : Host.Outcome State Fault Refusal := runAt tk s (takeFor 0x15 cmdHealthMap)

/-- LEGACY_PHASE. -/
def cmdLegacyPhase (c : Call) (s : State) : State :=
  plain c 124 .normal (writeForm c [(0x120, slice c.par 0 1), (0x121, slice c.par 4 120)]) s

/-- LEGACY_PHASE (04 R118, R119). -/
def execLegacyPhase (tk : Tick) (s : State) : Host.Outcome State Fault Refusal := runAt tk s (takeFor 0x16 cmdLegacyPhase)

/-! ## BASELINE_ACQUIRE, REFERENCE_SAVE, REFERENCE_SELECT (06 R159, R165, R167; 12 R378) -/

/-- Acquisition is asked for: phase 1 runs on the next frame, which is the first one where a start is in progress (06
R159). DESIGN CHOICE (log 15): while an acquisition waits for its phase 1 the command joins it and waits as long. -/
def askAcquire (forced : Bool) (s : State) : State :=
  { s with base := { s.base with acq := match s.base.acq with
      | .wait n f => .wait n (f || forced)
      | _ => .wait (if s.inFrames then 1 else 0) forced } }

/-- Does phase 1 or phase 2 of an acquisition run (12 R378)? Phase 1 runs in the frame that it falls in. -/
def State.acquires (s : State) : Bool :=
  match s.base.acq with
  | .phase2 .. => true
  | .wait n _ => n == 0 && s.inFrames && s.frameOpen
  | .idle => false

/-- BASELINE_ACQUIRE. -/
def cmdBaselineAcquire (c : Call) (s : State) : State :=
  let mode := byteAt c.par 0
  plain c 1 .frames (badUnless c (decide (mode ≤ 1)) fun s =>
    if s.acquires then turnDown c stWrongState s else deferred c (askAcquire (mode == 1)) s) s

/-- BASELINE_ACQUIRE (06 R159, R165). -/
def execBaselineAcquire (tk : Tick) (s : State) : Host.Outcome State Fault Refusal :=
  runAt tk s (takeFor 0x18 cmdBaselineAcquire)

/-- May the baselines of the present frame be saved (06 R167)? -/
def saveAllowed (s : State) : Bool :=
  s.inFrames && s.base.acq == .idle && s.base.nodes.all (fun c => c.all fun n => n.st == .free) &&
    s.trk.contacts.isEmpty

/-- REFERENCE_SAVE: the image is that of the frame in which the command runs. -/
def cmdReferenceSave (c : Call) (s : State) : State :=
  let slot := byteAt c.par 0
  plain c 1 .frames (badUnless c (decide (slot ≤ 3)) fun s =>
    if !saveAllowed s then turnDown c stWrongState s
    else deferred c (fun s =>
      portTakes .referenceSave { s with mem := { s.mem with saving := s.mem.saving ++ [(slot, referenceImage s)] } }) s) s

/-- REFERENCE_SAVE (06 R167). -/
def execReferenceSave (tk : Tick) (s : State) : Host.Outcome State Fault Refusal :=
  runAt tk s (takeFor 0x19 cmdReferenceSave)

/-- REFERENCE_SELECT. -/
def cmdReferenceSelect (c : Call) (s : State) : State := plain c 1 .normal (writeForm c [(0x206, c.par)]) s

/-- REFERENCE_SELECT (06 R167). -/
def execReferenceSelect (tk : Tick) (s : State) : Host.Outcome State Fault Refusal :=
  runAt tk s (takeFor 0x1A cmdReferenceSelect)

/-! ## Keys (07 R210, R213; 12 R379) -/

/-- key_count as KEY_DEFINE leaves it: 0xFFFF keeps the present one. -/
def defineCount (par : List Byte) (s : State) : Nat :=
  let n := fieldAt par 4 2
  if n = 0xFFFF then s.pnat 0x381 else n

/-- The key table as KEY_DEFINE leaves it: its entries are written, then key_count. -/
def defineTable (par : List Byte) (s : State) : List (List Byte) :=
  let first := fieldAt par 0 2
  let new := entriesOf 256 (par.drop 6)
  let all := (List.range 256).map fun k =>
    if first ≤ k ∧ k < first + new.length then new.getD (k - first) keyEmpty else keyEntry s.part s.params k
  all.take (defineCount par s)

/-- Does KEY_DEFINE hold (12 R379)? -/
def defineOk (par : List Byte) (s : State) : Bool :=
  let first := fieldAt par 0 2
  let count := fieldAt par 2 2
  let kc := defineCount par s
  let grid := s.inCascade && s.casc.planValid
  let w := if grid then s.surfaceCols else s.pnat 0xC01
  let h := if grid then s.surfaceRows else s.pnat 0xC00
  decide (first + count ≤ 256) && decide (kc ≤ 256) && (count == 0 || decide (first + count ≤ kc)) &&
    (entriesOf 256 (par.drop 6)).all (keyEntryOk w h) &&
    (!s.inCascade ||
      decide (keyCrossings s ((defineTable par s).filter fun e => !bitAt (byteAt e 14) 1) ≤ 512))

/-- KEY_DEFINE. -/
def cmdKeyDefine (c : Call) (s : State) : State :=
  checked c true (decide (6 ≤ c.par.length) && c.par.length == 6 + 16 * fieldAt c.par 2 2) .normal
    (badUnless c (defineOk c.par s) fun s =>
      let kc := defineCount c.par s
      let t := pSet s.part (pSet s.part s.params 0x381 (leBytes 2 kc)) 0x380 (defineTable c.par s).flatten
      sole c stOk [] (storeTable [0x380, 0x381] t s)) s

/-- KEY_DEFINE (12 R379). -/
def execKeyDefine (tk : Tick) (s : State) : Host.Outcome State Fault Refusal := runAt tk s (takeFor 0x20 cmdKeyDefine)

/-- A key record as KEY_READ gives it (07 R213). -/
def keyReadRec (s : State) (i : Nat) : List Byte :=
  let k := s.key i
  [3] ++ leBytes 1 i ++ leBytes 1 (bitOf k.isOn 0) ++ leBytes 1 (keyFlags k) ++ leSigned 2 k.value ++ leBytes 2 0 ++
    leBytes 4 k.wroteOn ++ leBytes 4 k.wroteT

/-- KEY_READ. -/
def cmdKeyRead (c : Call) (s : State) : State :=
  let first := fieldAt c.par 0 2
  let count := fieldAt c.par 2 2
  plain c 4 .normal (badUnless c (within 1 255 count && decide (first + count ≤ 256)) fun s =>
    sole c stOk ((List.range count).flatMap fun i => keyReadRec s (first + i)) s) s

/-- KEY_READ (07 R213). -/
def execKeyRead (tk : Tick) (s : State) : Host.Outcome State Fault Refusal := runAt tk s (takeFor 0x21 cmdKeyRead)

/-! ## GESTURE_SET, SILL_SET, CONTACT_FILTER -/

/-- GESTURE_SET. -/
def cmdGestureSet (c : Call) (s : State) : State :=
  plain c 22 .normal (writeForm c (formRecords s.part (idRange 0x310 0x31A) c.par)) s

/-- GESTURE_SET (07 R227). -/
def execGestureSet (tk : Tick) (s : State) : Host.Outcome State Fault Refusal := runAt tk s (takeFor 0x22 cmdGestureSet)

/-- The parameters that SILL_SET writes: 9 bytes, one reserved, then the groups. -/
def sillRecords (part : Part) (par : List Byte) : List (Nat × List Byte) :=
  formRecords part (idRange 0x400 0x406) par ++
    (List.range part.sillGroups).map fun n => (0x410 + n, slice par (10 + 12 * n) 12)

/-- SILL_SET. -/
def cmdSillSet (c : Call) (s : State) : State :=
  plain c (10 + 12 * s.part.sillGroups) .normal (writeForm c (sillRecords s.part c.par)) s

/-- SILL_SET (12 R380). -/
def execSillSet (tk : Tick) (s : State) : Host.Outcome State Fault Refusal := runAt tk s (takeFor 0x23 cmdSillSet)

/-- CONTACT_FILTER. -/
def cmdContactFilter (c : Call) (s : State) : State :=
  plain c 16 .normal (writeForm c (formRecords s.part (idRange 0x300 0x309) c.par)) s

/-- CONTACT_FILTER (07 R227). -/
def execContactFilter (tk : Tick) (s : State) : Host.Outcome State Fault Refusal :=
  runAt tk s (takeFor 0x24 cmdContactFilter)

/-! ## Images (05 R141; 09 R290; 12 R381) -/

/-- The running profile, with its frame_ticks (04 R127): of a start in progress the one that it starts (log 29). -/
def runningProf (s : State) : Nat × Nat :=
  if s.inFrames then (s.scan.profile, s.scan.frameTicks) else (nextProf s, nextTicks true s)

/-- IMAGE_STREAM writes the image fields of the running profile (04 R127); it is no write that tests profiles (R545), and
frame_ticks stay (R103). -/
def cmdImageStream (c : Call) (s : State) : State :=
  plain c 2 .frames (fun s =>
    let p := (runningProf s).1
    let rs := [(0x18C + 16 * p, slice c.par 0 1), (0x18D + 16 * p, slice c.par 1 1)]
    passing c (valueStatus s rs)
      (badUnless c (streamFits (byteAt c.par 0) (byteAt c.par 1) (runningProf s).2 s) fun s =>
        sole c stOk [] (store rs s)) s) s

/-- IMAGE_STREAM (05 R141; 09 R290). -/
def execImageStream (tk : Tick) (s : State) : Host.Outcome State Fault Refusal := runAt tk s (takeFor 0x28 cmdImageStream)

/-- IMAGE_SNAPSHOT: the next completed frame is taken. -/
def cmdImageSnapshot (c : Call) (s : State) : State :=
  let mode := byteAt c.par 0
  plain c 1 .frames (badUnless c (within 1 3 mode)
    (deferred c fun s => { s with bench := { s.bench with snapModes := s.bench.snapModes ++ [mode] } })) s

/-- IMAGE_SNAPSHOT (12 R381). -/
def execImageSnapshot (tk : Tick) (s : State) : Host.Outcome State Fault Refusal :=
  runAt tk s (takeFor 0x29 cmdImageSnapshot)

end Sys2Proof.Machine
end

