-- ==== Sys2Proof/Machine/UnitCmds.lean ====
section
/-! DEFINITION. The commands of the Level converter, the sensor bus and the cascade (12 Tables 12.10 to 12.12), of
parameters and memory (Table 12.13), and the remaining ones (Table 12.15); SELFTEST's end; and a member's Bench,
which takes the packets that the master forwards. -/

namespace Sys2Proof.Machine

/-! ## Level converter (10 R327; 12 Table 12.10) -/

/-- A Level command: its unit, its length, state set Normal. -/
def levelCmd (c : Call) (len : Nat) (go : State → State) (s : State) : State :=
  checked c s.part.hasLevel (c.par.length == len) .normal go s

/-- LEVEL_CONFIG: the entry, then the coefficients of its input (10 R303, R321). -/
def cmdLevelConfig (c : Call) (s : State) : State :=
  let slot := byteAt c.par 0
  let rs := [(0x600 + slot, slice c.par 4 16)]
  levelCmd c 20 (badUnless c (decide (slot ≤ 15)) fun s => passing c (judge s rs) (fun s =>
    sole c stOk [] (store [(0x640 + slot, linLoad (byteAt c.par 4))] (store rs s))) s) s

/-- LEVEL_CONFIG (10 R303, R321). -/
def execLevelConfig (tk : Tick) (s : State) : Host.Outcome State Fault Refusal := runAt tk s (takeFor 0x30 cmdLevelConfig)

/-- LEVEL_CONVERT: a request, or with stop 1 its end. -/
def cmdLevelConvert (c : Call) (s : State) : State :=
  let slot := byteAt c.par 0
  let urgent := byteAt c.par 2
  let stop := byteAt c.par 3
  levelCmd c 4 (fun s =>
    let off := byteAt (s.lvlEntry slot) 0 == 0xFF
    badUnless c (decide (slot ≤ 15) && decide (stop ≤ 1) && (stop == 1 || decide (urgent ≤ 1)) && !off) (fun s =>
      sole c stOk [] (if stop = 1 then convertStop slot s
        else convertRequest slot (byteAt c.par 1) (urgent == 1) s)) s) s

/-- LEVEL_CONVERT (10 R314, R315). -/
def execLevelConvert (tk : Tick) (s : State) : Host.Outcome State Fault Refusal :=
  runAt tk s (takeFor 0x31 cmdLevelConvert)

/-- Excitation that an overcurrent has turned off is enabled again by LEVEL_EXCITE (10 R310). -/
def clearTrip (s : State) : State :=
  if s.pnat 0x611 = 1 then { s with lvl := { s.lvl with tripped := false, overcurrent := false } } else s

/-- LEVEL_EXCITE. -/
def cmdLevelExcite (c : Call) (s : State) : State :=
  let rs := [(0x611, slice c.par 0 1), (0x612, slice c.par 2 2)]
  levelCmd c 4 (fun s => passing c (judge s rs) (fun s => sole c stOk [] (clearTrip (store rs s))) s) s

/-- LEVEL_EXCITE (10 R306). -/
def execLevelExcite (tk : Tick) (s : State) : Host.Outcome State Fault Refusal := runAt tk s (takeFor 0x32 cmdLevelExcite)

/-- LEVEL_REFBUF. -/
def cmdLevelRefbuf (c : Call) (s : State) : State := levelCmd c 1 (writeForm c [(0x610, c.par)]) s

/-- LEVEL_REFBUF (10 R305). -/
def execLevelRefbuf (tk : Tick) (s : State) : Host.Outcome State Fault Refusal := runAt tk s (takeFor 0x33 cmdLevelRefbuf)

/-- A slot entry with OW_CHECK set or clear. -/
def withOwCheck (e : List Byte) (on : Bool) : List Byte := modAt e 5 fun b => setBit b 2 on

/-- The records of LEVEL_OPENWIRE: the current, and the entries whose OW_CHECK changes (12 R382). -/
def openwireRecords (par : List Byte) (s : State) : List (Nat × List Byte) :=
  let slots := fieldAt par 2 2
  (0x613, slice par 0 1) :: ((List.range 16).map fun n =>
    (0x600 + n, withOwCheck (s.lvlEntry n) (bitAt slots n))).filter fun r => r.2 != s.param r.1

/-- LEVEL_OPENWIRE. -/
def cmdLevelOpenwire (c : Call) (s : State) : State :=
  levelCmd c 4 (fun s => writeForm c (openwireRecords c.par s) s) s

/-- LEVEL_OPENWIRE (12 R382). -/
def execLevelOpenwire (tk : Tick) (s : State) : Host.Outcome State Fault Refusal :=
  runAt tk s (takeFor 0x34 cmdLevelOpenwire)

/-- LEVEL_TRIGGER. -/
def cmdLevelTrigger (c : Call) (s : State) : State :=
  let slot := byteAt c.par 0
  levelCmd c 12 (badUnless c (decide (slot ≤ 15)) (writeForm c [(0x620 + slot, slice c.par 4 8)])) s

/-- LEVEL_TRIGGER (10 R313). -/
def execLevelTrigger (tk : Tick) (s : State) : Host.Outcome State Fault Refusal :=
  runAt tk s (takeFor 0x35 cmdLevelTrigger)

/-- The options of DETECTOR_READ on one slot: bit 0 clears TRIPPED, bit 1 resets the slot (12 R383). -/
def detOptions (options : Nat) (d : Det) : Det :=
  let d := if bitAt options 0 then { d with tripped := false } else d
  if bitAt options 1 then d.reset else d

/-- DETECTOR_READ: the snapshot of the latest round boundary, then its options at that boundary; what reaches the slots in
the round comes after both (05 R154, R155). -/
def cmdDetectorRead (c : Call) (s : State) : State :=
  let slots := bitsOf 8 (byteAt c.par 0)
  let options := byteAt c.par 1
  levelCmd c 2 (badUnless c (!slots.isEmpty && decide (options < 4)) fun s =>
    let s := detTurn s
    sole c stOk (slots.flatMap (detBytes (detBoundary s))) (detAmend slots (detOptions options) s)) s

/-- DETECTOR_READ (12 R383; 05 R155). -/
def execDetectorRead (tk : Tick) (s : State) : Host.Outcome State Fault Refusal :=
  runAt tk s (takeFor 0x36 cmdDetectorRead)

/-- LINEAR_SET. -/
def cmdLinearSet (c : Call) (s : State) : State :=
  let slot := byteAt c.par 0
  levelCmd c 52 (badUnless c (decide (slot ≤ 15)) (writeForm c [(0x640 + slot, slice c.par 4 48)])) s

/-- LINEAR_SET (10 R321). -/
def execLinearSet (tk : Tick) (s : State) : Host.Outcome State Fault Refusal := runAt tk s (takeFor 0x37 cmdLinearSet)

/-! ## Sensor bus (12 Table 12.11, R384; 13 R403, R408, R416) -/

/-- Do address, form and lengths of a BUS_XFER fit (12 R384; 13 R403)? -/
def xferOk (addr form w r : Nat) : Bool :=
  decide (addr < 128) && !within 1 7 addr && !within 0x78 0x7F addr && !(addr == 0 && (form == 1 || form == 2)) &&
    decide (w ≤ 256) && decide (r ≤ 256) &&
    (match form with
    | 0 => decide (0 < w) && r == 0
    | 1 => w == 0 && decide (0 < r)
    | 2 => decide (0 < w) && decide (0 < r)
    | 3 => w == 0 && r == 0
    | _ => false)

/-- BUS_XFER. -/
def cmdBusXfer (c : Call) (s : State) : State :=
  let addr := byteAt c.par 0
  let form := byteAt c.par 1
  let w := fieldAt c.par 2 2
  let r := fieldAt c.par 4 2
  checked c true (decide (6 ≤ c.par.length) && c.par.length == 6 + w) .normal
    (badUnless c (xferOk addr form w r) fun s =>
      if s.bus.phase = .off then turnDown c stWrongState s
      else deferred c (busXfer c.tag addr form (c.par.drop 6) r) s) s

/-- BUS_XFER (13 R403). -/
def execBusXfer (tk : Tick) (s : State) : Host.Outcome State Fault Refusal := runAt tk s (takeFor 0x40 cmdBusXfer)

/-- BUS_ROLLCALL: mode 1 reads the partner table at once. -/
def cmdBusRollcall (c : Call) (s : State) : State :=
  let mode := byteAt c.par 0
  plain c 1 .normal (badUnless c (decide (mode ≤ 1)) fun s =>
    if mode = 1 then sole c stOk (partnerTable s) s
    else if s.bus.phase = .off then turnDown c stWrongState s
    else deferred c (busRollcall c.tag) s) s

/-- BUS_ROLLCALL (13 R416). -/
def execBusRollcall (tk : Tick) (s : State) : Host.Outcome State Fault Refusal := runAt tk s (takeFor 0x41 cmdBusRollcall)

/-- BUS_BRANCH: only the power cycle is deferred. -/
def cmdBusBranch (c : Call) (s : State) : State :=
  let action := byteAt c.par 0
  plain c 1 .normal (badUnless c (decide (action ≤ 2)) fun s =>
    if action = 2 then deferred c (busBranch 2) s else sole c stOk [] (busBranch action s)) s

/-- BUS_BRANCH (13 R408). -/
def execBusBranch (tk : Tick) (s : State) : Host.Outcome State Fault Refusal := runAt tk s (takeFor 0x42 cmdBusBranch)

/-! ## Parameters (12 R389 to R392) -/

/-- Records by PARAM_SET's rules: applied whole, or refused with index and ID; a new link width takes effect once
the reply has been popped (12 R391; 11 R331). A change to the running profile acts at the next frame start (04 R121). -/
def setRecords (c : Call) (rs : List (Nat × List Byte)) (s : State) : State :=
  match judgeRecords s rs with
  | .error (st, i, id) => sole c st (leBytes 2 i ++ leBytes 2 id) s
  | .ok _ =>
    let t := noteProfile s.params (store rs s)
    let mark := if rs.any fun r => r.1 == 0x800 then RecMark.widthReply (t.pnat 0x800) else RecMark.plain
    postReply ⟨c.tag, c.opcode, stOk, 0, c.seq, [], mark⟩ t

/-- The records of a packet, when there are any and they end exactly. -/
def packetRecords (par : List Byte) : Option (List (Nat × List Byte)) :=
  if par.isEmpty then none else recordsOf par

/-- PARAM_SET. -/
def cmdParamSet (c : Call) (s : State) : State :=
  match packetRecords c.par with
  | none => checked c true false .normal id s
  | some rs => checked c true true .normal (setRecords c rs) s

/-- PARAM_SET (12 R391). -/
def execParamSet (tk : Tick) (s : State) : Host.Outcome State Fault Refusal := runAt tk s (takeFor 0x51 cmdParamSet)

/-- The status of BUS_CONFIG's records: an ID outside the 0x0700 range is refused in its turn (12 R390). -/
def busConfigTest (s : State) (rs : List (Nat × List Byte)) (r : Nat × List Byte) : Nat :=
  if within 0x700 0x7FF r.1 then recordTests s (countsAfter s.part s.params rs) r else stBadParam

/-- BUS_CONFIG. -/
def cmdBusConfig (c : Call) (s : State) : State :=
  match packetRecords c.par with
  | none => checked c true false .normal id s
  | some rs => checked c true true .normal (fun s =>
      match firstBad (busConfigTest s rs) 0 rs with
      | some (st, i, id) => sole c st (leBytes 2 i ++ leBytes 2 id) s
      | none => setRecords c rs s) s

/-- BUS_CONFIG (12 R390). -/
def execBusConfig (tk : Tick) (s : State) : Host.Outcome State Fault Refusal := runAt tk s (takeFor 0x43 cmdBusConfig)

/-- The IDs of a PARAM_GET, in request order. -/
def getIds (par : List Byte) : List Nat := (List.range (par.length / 2)).map fun i => fieldAt par (2 * i) 2

/-- Tests 1 and 2 of 12 R390 on an ID. -/
def getStatus (part : Part) (id : Nat) : Nat :=
  match paramInfo part id with
  | none => stBadParam
  | some i => if i.present then 0 else stAbsentUnit

/-- The value that PARAM_GET returns (12 R392). -/
def getValue (s : State) (id : Nat) : List Byte :=
  match paramInfo s.part id with
  | some i => if i.access = .ro then roValue s id else s.param id
  | none => []

/-- The first ID of a PARAM_GET that is refused: status, index, ID. -/
def getBad (part : Part) : Nat → List Nat → Option (Nat × Nat × Nat)
  | _, [] => none
  | i, id :: ids => if getStatus part id ≠ 0 then some (getStatus part id, i, id) else getBad part (i + 1) ids

/-- PARAM_GET. -/
def cmdParamGet (c : Call) (s : State) : State :=
  checked c true (!c.par.isEmpty && c.par.length % 2 == 0) .normal (fun s =>
    match getBad s.part 0 (getIds c.par) with
    | some (st, i, id) => sole c st (leBytes 2 i ++ leBytes 2 id) s
    | none => sole c stOk ((getIds c.par).flatMap fun id => recordBytes id (getValue s id)) s) s

/-- PARAM_GET (12 R392). -/
def execParamGet (tk : Tick) (s : State) : Host.Outcome State Fault Refusal := runAt tk s (takeFor 0x50 cmdParamGet)

/-! ## Memory (12 R386, R387; 14 R437, R438; 15 R465) -/

/-- Does a commit run? -/
def State.committing (s : State) : Bool := match s.mem.session with | .committing .. => true | _ => false

/-- UPDATE_BEGIN. -/
def cmdUpdateBegin (c : Call) (s : State) : State :=
  let n := fieldAt c.par 0 4
  plain c 4 .update (badUnless c (within 132 262144 n) fun s =>
    if s.committing || (s.recovering && s.mem.size == 0) then turnDown c stWrongState s
    else deferred c (updateBegin n) s) s

/-- UPDATE_BEGIN (12 R386). -/
def execUpdateBegin (tk : Tick) (s : State) : Host.Outcome State Fault Refusal := runAt tk s (takeFor 0x52 cmdUpdateBegin)

/-- UPDATE_CHUNK. -/
def cmdUpdateChunk (c : Call) (s : State) : State :=
  let off := fieldAt c.par 0 4
  let n := c.par.length - 4
  checked c true (within 5 2052 c.par.length) .update (fun s =>
    match s.mem.session with
    | .opened _ len got false =>
      badUnless c (decide (off = got) && decide (off + n ≤ len)) (deferred c (updateChunk n)) s
    | _ => turnDown c stWrongState s) s

/-- UPDATE_CHUNK (12 R386). -/
def execUpdateChunk (tk : Tick) (s : State) : Host.Outcome State Fault Refusal := runAt tk s (takeFor 0x53 cmdUpdateChunk)

/-- UPDATE_COMMIT. -/
def cmdUpdateCommit (c : Call) (s : State) : State :=
  plain c 0 .update (fun s =>
    match s.mem.session with
    | .opened _ len got false => if got = len then deferred c updateCommit s else turnDown c stWrongState s
    | _ => turnDown c stWrongState s) s

/-- UPDATE_COMMIT (14 R438). -/
def execUpdateCommit (tk : Tick) (s : State) : Host.Outcome State Fault Refusal :=
  runAt tk s (takeFor 0x54 cmdUpdateCommit)

/-- MEMORY_INFO. -/
def cmdMemoryInfo (c : Call) (s : State) : State := plain c 0 .all (fun s => sole c stOk (memoryInfo s) s) s

/-- MEMORY_INFO (12 R387). -/
def execMemoryInfo (tk : Tick) (s : State) : Host.Outcome State Fault Refusal := runAt tk s (takeFor 0x55 cmdMemoryInfo)

/-! ## Cascade (09 R294, R295, R300; 12 R385) -/

/-- A cascade command: its unit, its length, and WRONG_STATE on a standalone tile. -/
def cascadeCmd (c : Call) (lenOk : Bool) (go : State → State) (s : State) : State :=
  checked c s.part.hasCascade lenOk .normal (fun s => if s.inCascade then go s else turnDown c stWrongState s) s

/-- CASCADE_MAP. -/
def cmdCascadeMap (c : Call) (s : State) : State :=
  cascadeCmd c c.par.isEmpty (fun s => sole c stOk (cascadeMapData s) s) s

/-- CASCADE_MAP (09 R300). -/
def execCascadeMap (tk : Tick) (s : State) : Host.Outcome State Fault Refusal := runAt tk s (takeFor 0x48 cmdCascadeMap)

/-- CASCADE_PLAN. -/
def cmdCascadePlan (c : Call) (s : State) : State :=
  let mode := byteAt c.par 0
  cascadeCmd c (c.par.length == 1) (badUnless c (decide (mode ≤ 2)) (deferred c (cascadePlan c.tag mode))) s

/-- CASCADE_PLAN (09 R294). -/
def execCascadePlan (tk : Tick) (s : State) : Host.Outcome State Fault Refusal := runAt tk s (takeFor 0x49 cmdCascadePlan)

/-- Opcodes that are not forwarded (09 R295). -/
def notForwarded (op : Nat) : Bool :=
  within 0x10 0x12 op || op == 0x05 || op == 0x06 || within 0x20 0x24 op || within 0x48 0x4A op ||
    within 0x52 0x54 op || op == 0x60 || op == 0x61

/-- CASCADE_FORWARD: the embedded packet goes to the tile as it stands. -/
def cmdCascadeForward (c : Call) (s : State) : State :=
  let tile := byteAt c.par 0
  let packet := c.par.drop 4
  cascadeCmd c (decide (4 ≤ c.par.length) && packet.length == packetSize (fieldAt packet 2 2)) (fun s =>
    if !(s.member tile).joined then turnDown c stMemberAbsent s
    else badUnless c (!notForwarded (byteAt packet 0)) (deferred c (sendMsg 0x0C tile (.bytes packet))) s) s

/-- CASCADE_FORWARD (09 R295; 12 R385). -/
def execCascadeForward (tk : Tick) (s : State) : Host.Outcome State Fault Refusal :=
  runAt tk s (takeFor 0x4A cmdCascadeForward)

/-! ## Tally, time, attention, telemetry (12 Table 12.15, R388) -/

/-- TALLY_READ. -/
def cmdTallyRead (c : Call) (s : State) : State :=
  plain c 12 .all (badUnless c (within 1 255 (fieldAt c.par 8 2)) (deferred c id)) s

/-- TALLY_READ (16 R484). -/
def execTallyRead (tk : Tick) (s : State) : Host.Outcome State Fault Refusal := runAt tk s (takeFor 0x58 cmdTallyRead)

/-- The reply of a record that the recorder cannot write is open (log 2). -/
def orDrawn (v : Option Nat) (s : State) : Nat × State :=
  match v with
  | some n => (n, s)
  | none => s.draw

/-- TALLY_MARK. -/
def cmdTallyMark (c : Call) (s : State) : State :=
  plain c 6 .normal (fun s =>
    let s := tallyBy 1 5 (leVal c.par) s
    let live := !s.tally.unavailable
    let r := orDrawn (if live then some s.tally.seq else none) s
    sole c stOk (leBytes 4 r.1 ++ leBytes 2 s.tally.epoch) r.2) s

/-- TALLY_MARK (12 R388). -/
def execTallyMark (tk : Tick) (s : State) : Host.Outcome State Fault Refusal := runAt tk s (takeFor 0x59 cmdTallyMark)

/-- The seq of the newest calendar mark in the retention memory. -/
def markSeq (s : State) : Option Nat :=
  if s.tally.unavailable then none else (s.tally.kept.reverse.find? fun r => r.code == 1).map (·.seq)

/-- The calendar is set (02 R40). -/
def setCalendar (value : Nat) (s : State) : State :=
  timeMark 1 { s with time := { s.time with
    calOffset := (value : Int) - ((s.now.toNat / 128 : Nat) : Int), calendarSet := true } }

/-- CALENDAR_SET. -/
def cmdCalendarSet (c : Call) (s : State) : State :=
  plain c 6 .normal (fun s =>
    let s := setCalendar (fieldAt c.par 0 4 * 65536 + fieldAt c.par 4 2) s
    let r := orDrawn (markSeq s) s
    sole c stOk (leBytes 4 r.1) r.2) s

/-- CALENDAR_SET (02 R40). -/
def execCalendarSet (tk : Tick) (s : State) : Host.Outcome State Fault Refusal :=
  runAt tk s (takeFor 0x5A cmdCalendarSet)

/-- TIME_GET. -/
def cmdTimeGet (c : Call) (s : State) : State := plain c 0 .all (fun s => sole c stOk (timeSnapshot s) s) s

/-- TIME_GET (02 R43). -/
def execTimeGet (tk : Tick) (s : State) : Host.Outcome State Fault Refusal := runAt tk s (takeFor 0x5B cmdTimeGet)

/-- ATTN_CONFIG: the parameters, and the matching registers at once. -/
def cmdAttnConfig (c : Call) (s : State) : State :=
  let rs := formRecords s.part (idRange 0x810 0x815 ++ idRange 0x818 0x81F) c.par
  plain c 48 .normal (fun s => passing c (judge s rs) (fun s => sole c stOk [] (loadAttn (store rs s))) s) s

/-- ATTN_CONFIG (11 R353). -/
def execAttnConfig (tk : Tick) (s : State) : Host.Outcome State Fault Refusal := runAt tk s (takeFor 0x60 cmdAttnConfig)

/-- ATTN_ROUTE. -/
def cmdAttnRoute (c : Call) (s : State) : State := plain c 4 .normal (writeForm c [(0x815, c.par)]) s

/-- ATTN_ROUTE (11 R353). -/
def execAttnRoute (tk : Tick) (s : State) : Host.Outcome State Fault Refusal := runAt tk s (takeFor 0x61 cmdAttnRoute)

/-- TELEMETRY_READ. -/
def cmdTelemetryRead (c : Call) (s : State) : State := plain c 0 .all (fun s => sole c stOk (telemetryBlock s) s) s

/-- TELEMETRY_READ (17 R494). -/
def execTelemetryRead (tk : Tick) (s : State) : Host.Outcome State Fault Refusal :=
  runAt tk s (takeFor 0x68 cmdTelemetryRead)

/-- The counters clear; the day buckets and the places of the gap's work stay (17 R494). -/
def clearTelemetry (s : State) : State :=
  tallyBy 1 0xB04 0 { s with tel := { s.tel with
    scheduled := 0, lostOverrun := 0, lostEcc := 0, withheld := 0, degraded := 0, fallbackTimed := 0, marginLow := 0
    eccCorrected := 0, tenonCrc := 0, tenonDropped := 0, scrubPasses := 0, marginMin := 100, clearedAt := s.now } }

/-- TELEMETRY_CLEAR. -/
def cmdTelemetryClear (c : Call) (s : State) : State :=
  plain c 0 .normal (fun s => sole c stOk [] (clearTelemetry s)) s

/-- TELEMETRY_CLEAR (17 R494). -/
def execTelemetryClear (tk : Tick) (s : State) : Host.Outcome State Fault Refusal :=
  runAt tk s (takeFor 0x69 cmdTelemetryClear)

/-! ## Test access and SELFTEST (15 R461; 12 R388) -/

/-- TEST_CHALLENGE: after three failures it is refused (15 Table 15.5). -/
def cmdTestChallenge (c : Call) (s : State) : State :=
  plain c 0 .all (fun s =>
    if 3 ≤ s.trust.failures then turnDown c stWrongState s
    else
      let r := newChallenge s
      sole c stOk r.1 r.2) s

/-- TEST_CHALLENGE (15 R461). -/
def execTestChallenge (tk : Tick) (s : State) : Host.Outcome State Fault Refusal :=
  runAt tk s (takeFor 0x70 cmdTestChallenge)

/-- TEST_UNLOCK. -/
def cmdTestUnlock (c : Call) (s : State) : State := plain c 132 .all (deferred c takeChallenge) s

/-- TEST_UNLOCK (15 R461). -/
def execTestUnlock (tk : Tick) (s : State) : Host.Outcome State Fault Refusal := runAt tk s (takeFor 0x71 cmdTestUnlock)

/-- SELFTEST. -/
def cmdSelftest (c : Call) (s : State) : State :=
  plain c 2 .stopped (badUnless c (decide (fieldAt c.par 0 2 < 64)) (deferred c id)) s

/-- SELFTEST (12 R388). -/
def execSelftest (tk : Tick) (s : State) : Host.Outcome State Fault Refusal := runAt tk s (takeFor 0x72 cmdSelftest)

/-- The tests that failed: of the lines by what the check of 03 R85 shows, of the Story Pole by what the state holds, the
others as given (12 R388). -/
def selfFailed (s : State) (failed : BitVec 16) (tests : List LineTest) : BitVec 16 :=
  let pole := s.time.poleFault && s.time.inRange == 0
  let lines := tests.any fun t => s.usedLines.contains t.line && !testGood t s
  (failed &&& 0xFFDD#16) ||| BitVec.ofNat 16 (bitOf lines 1 + bitOf pole 5)

/-- SELFTEST_COMPLETE (12 R388): `failed` says which tests failed, `tests` what the full line check found. -/
def execSelftestComplete (tk : Tick) (failed : BitVec 16) (tests : List LineTest) (s : State) :
    Host.Outcome State Fault Refusal :=
  runAt tk s fun s =>
    match s.outstanding 0x72 with
    | some d =>
      let named : BitVec 16 := BitVec.ofNat 16 (fieldAt d.par 0 2)
      let ran := if s.part.hasLevel then named else named &&& 0xFFFB#16
      let bad := selfFailed s failed tests &&& ran
      let s := if ran.getLsbD 1 then selfCheck tests s else s
      finishOp 0x72 (if bad = 0 then stOk else stPartial) (leBytes 2 ran.toNat ++ leBytes 2 bad.toNat) s
    | none => s

/-! ## A member's Bench (09 R295; 12 R367, R385) -/

/-- A packet's command by its opcode. -/
def runCall (c : Call) : State → State :=
  match c.opcode with
  | 0x00 => cmdNop c
  | 0x01 => cmdIdentify c
  | 0x02 => cmdAttest c
  | 0x03 => cmdGetStatus c
  | 0x04 => cmdReset c
  | 0x05 => cmdSetPower c
  | 0x06 => cmdHostSleep c
  | 0x10 => cmdScanStart c
  | 0x11 => cmdScanStop c
  | 0x12 => cmdScanProfile c
  | 0x13 => cmdFreqSet c
  | 0x14 => cmdLineMap c
  | 0x15 => cmdHealthMap c
  | 0x16 => cmdLegacyPhase c
  | 0x18 => cmdBaselineAcquire c
  | 0x19 => cmdReferenceSave c
  | 0x1A => cmdReferenceSelect c
  | 0x20 => cmdKeyDefine c
  | 0x21 => cmdKeyRead c
  | 0x22 => cmdGestureSet c
  | 0x23 => cmdSillSet c
  | 0x24 => cmdContactFilter c
  | 0x28 => cmdImageStream c
  | 0x29 => cmdImageSnapshot c
  | 0x30 => cmdLevelConfig c
  | 0x31 => cmdLevelConvert c
  | 0x32 => cmdLevelExcite c
  | 0x33 => cmdLevelRefbuf c
  | 0x34 => cmdLevelOpenwire c
  | 0x35 => cmdLevelTrigger c
  | 0x36 => cmdDetectorRead c
  | 0x37 => cmdLinearSet c
  | 0x40 => cmdBusXfer c
  | 0x41 => cmdBusRollcall c
  | 0x42 => cmdBusBranch c
  | 0x43 => cmdBusConfig c
  | 0x48 => cmdCascadeMap c
  | 0x49 => cmdCascadePlan c
  | 0x4A => cmdCascadeForward c
  | 0x50 => cmdParamGet c
  | 0x51 => cmdParamSet c
  | 0x52 => cmdUpdateBegin c
  | 0x53 => cmdUpdateChunk c
  | 0x54 => cmdUpdateCommit c
  | 0x55 => cmdMemoryInfo c
  | 0x58 => cmdTallyRead c
  | 0x59 => cmdTallyMark c
  | 0x5A => cmdCalendarSet c
  | 0x5B => cmdTimeGet c
  | 0x60 => cmdAttnConfig c
  | 0x61 => cmdAttnRoute c
  | 0x68 => cmdTelemetryRead c
  | 0x69 => cmdTelemetryClear c
  | 0x70 => cmdTestChallenge c
  | 0x71 => cmdTestUnlock c
  | 0x72 => cmdSelftest c
  | _ => turnDown c stBadOpcode

/-- A member takes one forwarded packet, unless a RESET is armed (12 R356 to R360, R371). -/
def memberPacket (bs : List Byte) (s : State) : State :=
  if s.bench.resetArmed.isSome || s.boot.phase != .done || !s.pwr.pd1 then s
  else match takePacket bs with
  | .packet p _ => runCall (callOf s p) (countPacket s)
  | .badLength tag op => malformedReply tag op stBadLength s
  | .crcError tag op => malformedReply tag op stCrcError s

/-- FORWARD (09 R295): a member acknowledges the message and executes its packet. -/
def execForward (tk : Tick) (hdr : MsgHdr) (packet : List Byte) (s : State) : Host.Outcome State Fault Refusal :=
  runAt tk s (receive hdr 0x0C (.bytes packet) fun s =>
    if s.casc.role = .member then memberPacket packet (sendAck hdr 0x0C s) else s)

end Sys2Proof.Machine
end

