-- ==== Sys2Proof/Machine/Dispatch.lean ====
section
/-! DEFINITION. The dispatch: one arm per command, one direct call of its meaning. -/

namespace Sys2Proof.Machine

/-- The effect of one command on everything but the queue. -/
def exec (i : Instr) (s : State) : Host.Outcome State Fault Refusal :=
  match i with
  | .readReg tk addr words ext => Sys2Proof.Machine.execReadReg tk addr words ext s
  | .writeReg tk addr count words crc ext => Sys2Proof.Machine.execWriteReg tk addr count words crc ext s
  | .pushCmd tk length bytes ext => Sys2Proof.Machine.execPushCmd tk length bytes ext s
  | .popReport tk max ext => Sys2Proof.Machine.execPopReport tk max ext s
  | .popImage tk max ext => Sys2Proof.Machine.execPopImage tk max ext s
  | .popRecord tk max ext => Sys2Proof.Machine.execPopRecord tk max ext s
  | .done tk source check ext => Sys2Proof.Machine.execDone tk source check ext s
  | .readId tk ext => Sys2Proof.Machine.execReadId tk ext s
  | .undefinedLinkOperation tk op ext => Sys2Proof.Machine.execUndefinedLinkOperation tk op ext s
  | .timebaseLoRead tk => Sys2Proof.Machine.execTimebaseLoRead tk s
  | .tallySeqLoRead tk => Sys2Proof.Machine.execTallySeqLoRead tk s
  | .attnPendingWrite tk value => Sys2Proof.Machine.execAttnPendingWrite tk value s
  | .clearedBeforeServiceWrite tk value => Sys2Proof.Machine.execClearedBeforeServiceWrite tk value s
  | .vectorBaseWrite tk value => Sys2Proof.Machine.execVectorBaseWrite tk value s
  | .vectorStrideWrite tk value => Sys2Proof.Machine.execVectorStrideWrite tk value s
  | .holdoffWrite tk group value => Sys2Proof.Machine.execHoldoffWrite tk group value s
  | .registerWrite tk addr value => Sys2Proof.Machine.execRegisterWrite tk addr value s
  | .hostCsNWake tk => Sys2Proof.Machine.execHostCsNWake tk s
  | .hsleepRise tk => Sys2Proof.Machine.execHsleepRise tk s
  | .hsleepFall tk => Sys2Proof.Machine.execHsleepFall tk s
  | .malformedPush tk => Sys2Proof.Machine.execMalformedPush tk s
  | .unknownOpcode tk => Sys2Proof.Machine.execUnknownOpcode tk s
  | .nop tk => Sys2Proof.Machine.execNop tk s
  | .identify tk => Sys2Proof.Machine.execIdentify tk s
  | .attest tk => Sys2Proof.Machine.execAttest tk s
  | .getStatus tk => Sys2Proof.Machine.execGetStatus tk s
  | .reset tk => Sys2Proof.Machine.execReset tk s
  | .setPower tk => Sys2Proof.Machine.execSetPower tk s
  | .hostSleep tk => Sys2Proof.Machine.execHostSleep tk s
  | .scanStart tk => Sys2Proof.Machine.execScanStart tk s
  | .scanStop tk => Sys2Proof.Machine.execScanStop tk s
  | .scanProfile tk => Sys2Proof.Machine.execScanProfile tk s
  | .freqSet tk => Sys2Proof.Machine.execFreqSet tk s
  | .lineMap tk => Sys2Proof.Machine.execLineMap tk s
  | .healthMap tk => Sys2Proof.Machine.execHealthMap tk s
  | .legacyPhase tk => Sys2Proof.Machine.execLegacyPhase tk s
  | .baselineAcquire tk => Sys2Proof.Machine.execBaselineAcquire tk s
  | .referenceSave tk => Sys2Proof.Machine.execReferenceSave tk s
  | .referenceSelect tk => Sys2Proof.Machine.execReferenceSelect tk s
  | .keyDefine tk => Sys2Proof.Machine.execKeyDefine tk s
  | .keyRead tk => Sys2Proof.Machine.execKeyRead tk s
  | .gestureSet tk => Sys2Proof.Machine.execGestureSet tk s
  | .sillSet tk => Sys2Proof.Machine.execSillSet tk s
  | .contactFilter tk => Sys2Proof.Machine.execContactFilter tk s
  | .imageStream tk => Sys2Proof.Machine.execImageStream tk s
  | .imageSnapshot tk => Sys2Proof.Machine.execImageSnapshot tk s
  | .levelConfig tk => Sys2Proof.Machine.execLevelConfig tk s
  | .levelConvert tk => Sys2Proof.Machine.execLevelConvert tk s
  | .levelExcite tk => Sys2Proof.Machine.execLevelExcite tk s
  | .levelRefbuf tk => Sys2Proof.Machine.execLevelRefbuf tk s
  | .levelOpenwire tk => Sys2Proof.Machine.execLevelOpenwire tk s
  | .levelTrigger tk => Sys2Proof.Machine.execLevelTrigger tk s
  | .detectorRead tk => Sys2Proof.Machine.execDetectorRead tk s
  | .linearSet tk => Sys2Proof.Machine.execLinearSet tk s
  | .busXfer tk => Sys2Proof.Machine.execBusXfer tk s
  | .busRollcall tk => Sys2Proof.Machine.execBusRollcall tk s
  | .busBranch tk => Sys2Proof.Machine.execBusBranch tk s
  | .busConfig tk => Sys2Proof.Machine.execBusConfig tk s
  | .cascadeMap tk => Sys2Proof.Machine.execCascadeMap tk s
  | .cascadePlan tk => Sys2Proof.Machine.execCascadePlan tk s
  | .cascadeForward tk => Sys2Proof.Machine.execCascadeForward tk s
  | .paramGet tk => Sys2Proof.Machine.execParamGet tk s
  | .paramSet tk => Sys2Proof.Machine.execParamSet tk s
  | .updateBegin tk => Sys2Proof.Machine.execUpdateBegin tk s
  | .updateChunk tk => Sys2Proof.Machine.execUpdateChunk tk s
  | .updateCommit tk => Sys2Proof.Machine.execUpdateCommit tk s
  | .memoryInfo tk => Sys2Proof.Machine.execMemoryInfo tk s
  | .tallyRead tk => Sys2Proof.Machine.execTallyRead tk s
  | .tallyMark tk => Sys2Proof.Machine.execTallyMark tk s
  | .calendarSet tk => Sys2Proof.Machine.execCalendarSet tk s
  | .timeGet tk => Sys2Proof.Machine.execTimeGet tk s
  | .attnConfig tk => Sys2Proof.Machine.execAttnConfig tk s
  | .attnRoute tk => Sys2Proof.Machine.execAttnRoute tk s
  | .telemetryRead tk => Sys2Proof.Machine.execTelemetryRead tk s
  | .telemetryClear tk => Sys2Proof.Machine.execTelemetryClear tk s
  | .testChallenge tk => Sys2Proof.Machine.execTestChallenge tk s
  | .testUnlock tk => Sys2Proof.Machine.execTestUnlock tk s
  | .selftest tk => Sys2Proof.Machine.execSelftest tk s
  | .attestComplete tk => Sys2Proof.Machine.execAttestComplete tk s
  | .updateBeginComplete tk res => Sys2Proof.Machine.execUpdateBeginComplete tk res s
  | .updateChunkComplete tk res => Sys2Proof.Machine.execUpdateChunkComplete tk res s
  | .updateCommitComplete tk readRes pointerRes => Sys2Proof.Machine.execUpdateCommitComplete tk readRes pointerRes s
  | .referenceSaveComplete tk fails => Sys2Proof.Machine.execReferenceSaveComplete tk fails s
  | .tallyReadComplete tk badSectors => Sys2Proof.Machine.execTallyReadComplete tk badSectors s
  | .selftestComplete tk failed tests => Sys2Proof.Machine.execSelftestComplete tk failed tests s
  | .testUnlockComplete tk => Sys2Proof.Machine.execTestUnlockComplete tk s
  | .imageSnapshotComplete tk => Sys2Proof.Machine.execImageSnapshotComplete tk s
  | .cascadePlanComplete tk => Sys2Proof.Machine.execCascadePlanComplete tk s
  | .cascadeForwardTimeout tk tag => Sys2Proof.Machine.execCascadeForwardTimeout tk tag s
  | .busBranchCycleComplete tk => Sys2Proof.Machine.execBusBranchCycleComplete tk s
  | .scanStopPark tk => Sys2Proof.Machine.execScanStopPark tk s
  | .heldReplyWrite tk => Sys2Proof.Machine.execHeldReplyWrite tk s
  | .queuedRecordWrite tk => Sys2Proof.Machine.execQueuedRecordWrite tk s
  | .resetReplyTimeout tk => Sys2Proof.Machine.execResetReplyTimeout tk s
  | .beatEdge count => Sys2Proof.Machine.execBeatEdge count s
  | .storyPoleFaultClear tk => Sys2Proof.Machine.execStoryPoleFaultClear tk s
  | .crystalDeclaredRunning tk => Sys2Proof.Machine.execCrystalDeclaredRunning tk s
  | .crystalSwitch tk => Sys2Proof.Machine.execCrystalSwitch tk s
  | .crystalLost tk => Sys2Proof.Machine.execCrystalLost tk s
  | .fallbackTakeover tk => Sys2Proof.Machine.execFallbackTakeover tk s
  | .clk32DeclaredRunning tk => Sys2Proof.Machine.execClk32DeclaredRunning tk s
  | .clk32Lost tk => Sys2Proof.Machine.execClk32Lost tk s
  | .frameStart tk => Sys2Proof.Machine.execFrameStart tk s
  | .frameSlotSkip tk => Sys2Proof.Machine.execFrameSlotSkip tk s
  | .selfPassComplete tk drive sense guardDev => Sys2Proof.Machine.execSelfPassComplete tk drive sense guardDev s
  | .mutualPassStart tk index => Sys2Proof.Machine.execMutualPassStart tk index s
  | .dovetailOutput tk index charge => Sys2Proof.Machine.execDovetailOutput tk index charge s
  | .noiseAlarmClear tk => Sys2Proof.Machine.execNoiseAlarmClear tk s
  | .activeSlotChange tk => Sys2Proof.Machine.execActiveSlotChange tk s
  | .planeCombine tk ecc => Sys2Proof.Machine.execPlaneCombine tk ecc s
  | .trackerFrame tk => Sys2Proof.Machine.execTrackerFrame tk s
  | .contactLift tk id => Sys2Proof.Machine.execContactLift tk id s
  | .longPress tk id => Sys2Proof.Machine.execLongPress tk id s
  | .tapDeferralSettle tk id => Sys2Proof.Machine.execTapDeferralSettle tk id s
  | .keyStateChange tk key => Sys2Proof.Machine.execKeyStateChange tk key s
  | .contactOwnerChange tk id => Sys2Proof.Machine.execContactOwnerChange tk id s
  | .frameGroupWrite tk marginPct => Sys2Proof.Machine.execFrameGroupWrite tk marginPct s
  | .acquisitionPhase1 tk => Sys2Proof.Machine.execAcquisitionPhase1 tk s
  | .acquisitionPhase2End tk => Sys2Proof.Machine.execAcquisitionPhase2End tk s
  | .trackingBlockEnd tk => Sys2Proof.Machine.execTrackingBlockEnd tk s
  | .nodeStateRelease tk node => Sys2Proof.Machine.execNodeStateRelease tk node s
  | .objectAbsorbed tk id => Sys2Proof.Machine.execObjectAbsorbed tk id s
  | .scarResolved tk box => Sys2Proof.Machine.execScarResolved tk box s
  | .baselineRegionRebuild tk nodes => Sys2Proof.Machine.execBaselineRegionRebuild tk nodes s
  | .tempReading tk humid source value => Sys2Proof.Machine.execTempReading tk humid source value s
  | .tempSourceStale tk humid => Sys2Proof.Machine.execTempSourceStale tk humid s
  | .driveOvercurrent tk line => Sys2Proof.Machine.execDriveOvercurrent tk line s
  | .lineFaultConfirmed tk line cause partner => Sys2Proof.Machine.execLineFaultConfirmed tk line cause partner s
  | .lineReturn tk line => Sys2Proof.Machine.execLineReturn tk line s
  | .fullLineCheckComplete tk tests => Sys2Proof.Machine.execFullLineCheckComplete tk tests s
  | .detectionSelfPass tk drive sense => Sys2Proof.Machine.execDetectionSelfPass tk drive sense s
  | .pumpSettled tk => Sys2Proof.Machine.execPumpSettled tk s
  | .vdrvRestore tk => Sys2Proof.Machine.execVdrvRestore tk s
  | .housekeepingGap tk inp => Sys2Proof.Machine.execHousekeepingGap tk inp s
  | .probe tk charge => Sys2Proof.Machine.execProbe tk charge s
  | .thermalClampClear tk => Sys2Proof.Machine.execThermalClampClear tk s
  | .sleepEntry tk => Sys2Proof.Machine.execSleepEntry tk s
  | .idleTimeout tk => Sys2Proof.Machine.execIdleTimeout tk s
  | .timerWake tk => Sys2Proof.Machine.execTimerWake tk s
  | .sillPeriodStart tk => Sys2Proof.Machine.execSillPeriodStart tk s
  | .sillReading tk group edges => Sys2Proof.Machine.execSillReading tk group edges s
  | .wakeCheckTimeout tk => Sys2Proof.Machine.execWakeCheckTimeout tk s
  | .syncWakePulse tk low => Sys2Proof.Machine.execSyncWakePulse tk low s
  | .vddLoss tk vbk => Sys2Proof.Machine.execVddLoss tk vbk s
  | .holdoffEnd tk group => Sys2Proof.Machine.execHoldoffEnd tk group s
  | .wakePulseStart tk => Sys2Proof.Machine.execWakePulseStart tk s
  | .wakePulseEnd tk => Sys2Proof.Machine.execWakePulseEnd tk s
  | .tenonPolarityTrial tk port => Sys2Proof.Machine.execTenonPolarityTrial tk port s
  | .tenonRun tk port => Sys2Proof.Machine.execTenonRun tk port s
  | .tenonPortDown tk port kind => Sys2Proof.Machine.execTenonPortDown tk port kind s
  | .tenonBringupRestart tk port => Sys2Proof.Machine.execTenonBringupRestart tk port s
  | .tenonMessageCrcFail tk rx => Sys2Proof.Machine.execTenonMessageCrcFail tk rx s
  | .scarfCross tk hdr deltas => Sys2Proof.Machine.execScarfCross tk hdr deltas s
  | .scarfStrip tk hdr nodes => Sys2Proof.Machine.execScarfStrip tk hdr nodes s
  | .scarfCorner tk hdr nodes => Sys2Proof.Machine.execScarfCorner tk hdr nodes s
  | .report tk hdr body => Sys2Proof.Machine.execReport tk hdr body s
  | .direct tk hdr body => Sys2Proof.Machine.execDirect tk hdr body s
  | .time tk hdr masterT => Sys2Proof.Machine.execTime tk hdr masterT s
  | .plan tk hdr body => Sys2Proof.Machine.execPlan tk hdr body s
  | .enum tk hdr col row => Sys2Proof.Machine.execEnum tk hdr col row s
  | .enumReply tk hdr cap col row => Sys2Proof.Machine.execEnumReply tk hdr cap col row s
  | .join tk hdr cap => Sys2Proof.Machine.execJoin tk hdr cap s
  | .event tk hdr rec => Sys2Proof.Machine.execEvent tk hdr rec s
  | .forward tk hdr packet => Sys2Proof.Machine.execForward tk hdr packet s
  | .forwardReply tk hdr rec => Sys2Proof.Machine.execForwardReply tk hdr rec s
  | .imageChunk tk hdr offset bytes => Sys2Proof.Machine.execImageChunk tk hdr offset bytes s
  | .ack tk hdr type seq => Sys2Proof.Machine.execAck tk hdr type seq s
  | .imageData tk hdr bytes first last => Sys2Proof.Machine.execImageData tk hdr bytes first last s
  | .ackTimeout tk dest type seq => Sys2Proof.Machine.execAckTimeout tk dest type seq s
  | .enumWindowClose tk => Sys2Proof.Machine.execEnumWindowClose tk s
  | .memberReadyTimeout tk => Sys2Proof.Machine.execMemberReadyTimeout tk s
  | .memberLost tk tile reason => Sys2Proof.Machine.execMemberLost tk tile reason s
  | .syncPulse tk low => Sys2Proof.Machine.execSyncPulse tk low s
  | .syncLost tk => Sys2Proof.Machine.execSyncLost tk s
  | .planeServiceRound tk inp => Sys2Proof.Machine.execPlaneServiceRound tk inp s
  | .levelQueuedRecordWrite tk => Sys2Proof.Machine.execLevelQueuedRecordWrite tk s
  | .levelTimerTrigger tk slot => Sys2Proof.Machine.execLevelTimerTrigger tk slot s
  | .levelRequestEligible tk slot => Sys2Proof.Machine.execLevelRequestEligible tk slot s
  | .levelConversionStart tk => Sys2Proof.Machine.execLevelConversionStart tk s
  | .openWireCheckEnd tk slot => Sys2Proof.Machine.execOpenWireCheckEnd tk slot s
  | .excitationReversal tk => Sys2Proof.Machine.execExcitationReversal tk s
  | .excitationOvercurrent tk => Sys2Proof.Machine.execExcitationOvercurrent tk s
  | .refbufSettled tk => Sys2Proof.Machine.execRefbufSettled tk s
  | .pd5PowerDown tk => Sys2Proof.Machine.execPd5PowerDown tk s
  | .busStart tk => Sys2Proof.Machine.execBusStart tk s
  | .busStartTimer tk sclHigh sdaHigh probe => Sys2Proof.Machine.execBusStartTimer tk sclHigh sdaHigh probe s
  | .busJobStart tk => Sys2Proof.Machine.execBusJobStart tk s
  | .busTransactionEnd tk res => Sys2Proof.Machine.execBusTransactionEnd tk res s
  | .addressRetry tk => Sys2Proof.Machine.execAddressRetry tk s
  | .clockStretchTimeout tk sclHigh sdaHigh => Sys2Proof.Machine.execClockStretchTimeout tk sclHigh sdaHigh s
  | .busFreeTimeout tk => Sys2Proof.Machine.execBusFreeTimeout tk s
  | .arbitrationLost tk => Sys2Proof.Machine.execArbitrationLost tk s
  | .arbitrationLostAtStop tk atStop => Sys2Proof.Machine.execArbitrationLostAtStop tk atStop s
  | .busJobTimeLimit tk => Sys2Proof.Machine.execBusJobTimeLimit tk s
  | .sbAlertChange tk low => Sys2Proof.Machine.execSbAlertChange tk low s
  | .rollcallDue tk => Sys2Proof.Machine.execRollcallDue tk s
  | .rollcallEnd tk => Sys2Proof.Machine.execRollcallEnd tk s
  | .envReadDue tk humid => Sys2Proof.Machine.execEnvReadDue tk humid s
  | .vbrCurrentLimit tk => Sys2Proof.Machine.execVbrCurrentLimit tk s
  | .vbrReclose tk => Sys2Proof.Machine.execVbrReclose tk s
  | .vbrClosingClear tk => Sys2Proof.Machine.execVbrClosingClear tk s
  | .reverifyDue tk badReads => Sys2Proof.Machine.execReverifyDue tk badReads s
  | .ledgerSnapshot tk res => Sys2Proof.Machine.execLedgerSnapshot tk res s
  | .referenceRead tk slot readOk => Sys2Proof.Machine.execReferenceRead tk slot readOk s
  | .imageVerificationComplete tk readOk => Sys2Proof.Machine.execImageVerificationComplete tk readOk s
  | .recoveryEntry tk => Sys2Proof.Machine.execRecoveryEntry tk s
  | .tapPublicInstruction tk ir => Sys2Proof.Machine.execTapPublicInstruction tk ir s
  | .tapBoundaryTestMode tk ir => Sys2Proof.Machine.execTapBoundaryTestMode tk ir s
  | .tapPrivateInstruction tk ir => Sys2Proof.Machine.execTapPrivateInstruction tk ir s
  | .challengeExpiry tk => Sys2Proof.Machine.execChallengeExpiry tk s
  | .tallyRecordClose tk => Sys2Proof.Machine.execTallyRecordClose tk s
  | .tallyTimeMark tk => Sys2Proof.Machine.execTallyTimeMark tk s
  | .tallyDrain tk res => Sys2Proof.Machine.execTallyDrain tk res s
  | .retentionCheck tk uncorrectable => Sys2Proof.Machine.execRetentionCheck tk uncorrectable s
  | .availabilityDayEnd tk => Sys2Proof.Machine.execAvailabilityDayEnd tk s
  | .telemetryPeriod tk => Sys2Proof.Machine.execTelemetryPeriod tk s
  | .powerOnReset tk vbk => Sys2Proof.Machine.execPowerOnReset tk vbk s
  | .resetNLow tk ns => Sys2Proof.Machine.execResetNLow tk ns s
  | .internalResetRelease tk mode recoverN => Sys2Proof.Machine.execInternalResetRelease tk mode recoverN s
  | .vddLowWarningSet tk => Sys2Proof.Machine.execVddLowWarningSet tk s
  | .vddLowWarningClear tk => Sys2Proof.Machine.execVddLowWarningClear tk s
  | .pumpStartTimeout tk => Sys2Proof.Machine.execPumpStartTimeout tk s
  | .fuseStepWhileStopped tk blown => Sys2Proof.Machine.execFuseStepWhileStopped tk blown s
  | .nodeMemoryInitComplete tk => Sys2Proof.Machine.execNodeMemoryInitComplete tk s
  | .discoveryComplete tk sfdp => Sys2Proof.Machine.execDiscoveryComplete tk sfdp s
  | .pd1Pd4Ready tk badRegions => Sys2Proof.Machine.execPd1Pd4Ready tk badRegions s
  | .syncAnnounce tk frame => Sys2Proof.Machine.execSyncAnnounce tk frame s
  | .busBusy tk => Sys2Proof.Machine.execBusBusy tk s

end Sys2Proof.Machine
end

