-- ==== Sys2Proof/Safety.lean ====
section
/-! DEFINITION. The terms in which the statements speak of states: which commands stop, when no transition waits,
when Bench takes a packet and its reply has room, and the invariant that every step keeps. -/

namespace Sys2Proof.Machine

/-! ## Stops -/

/-- The one command that the spec gives no effect: a private test instruction while the block is unlocked (15
R460). -/
def privateWhileUnlocked (i : Instr) (s : State) : Prop :=
  match i with
  | .tapPrivateInstruction _ ir => 5 ≤ ir.toNat ∧ ir.toNat ≤ 0xFE ∧ s.trust.unlocked = true
  | _ => False

/-! ## Completion and frames -/

/-- The command answers a next state of which `q` holds. -/
def Runs (i : Instr) (s : State) (q : State → Prop) : Prop := ∃ t, exec i s = .next t ∧ q t

/-- The components of State. -/
inductive Comp where
  | part | dieRevision | time | front | scan | plane | base | trk | pwr | casc | lvl | link | attn | cmd | report | image
  | record | bench | params | bus | mem | trust | tally | tel | boot | pending | freeIdx
  deriving DecidableEq, Repr

/-- Two states agree in a component. -/
def Comp.same (c : Comp) (s t : State) : Prop :=
  match c with
  | .part => t.part = s.part
  | .dieRevision => t.dieRevision = s.dieRevision
  | .time => t.time = s.time
  | .front => t.front = s.front
  | .scan => t.scan = s.scan
  | .plane => t.plane = s.plane
  | .base => t.base = s.base
  | .trk => t.trk = s.trk
  | .pwr => t.pwr = s.pwr
  | .casc => t.casc = s.casc
  | .lvl => t.lvl = s.lvl
  | .link => t.link = s.link
  | .attn => t.attn = s.attn
  | .cmd => t.cmd = s.cmd
  | .report => t.report = s.report
  | .image => t.image = s.image
  | .record => t.record = s.record
  | .bench => t.bench = s.bench
  | .params => t.params = s.params
  | .bus => t.bus = s.bus
  | .mem => t.mem = s.mem
  | .trust => t.trust = s.trust
  | .tally => t.tally = s.tally
  | .tel => t.tel = s.tel
  | .boot => t.boot = s.boot
  | .pending => t.pending = s.pending
  | .freeIdx => t.freeIdx = s.freeIdx

/-- `t` differs from `s` in the listed components at most. -/
def KeepsBut (cs : List Comp) (s t : State) : Prop := ∀ c, c ∉ cs → c.same s t

/-! ## Transitions -/

/-- No transition waits: scanning is not being ended, driving is not about to end, no power entry, no DOZE or ACTIVE
change, no failed wake check, no sleep request and no new enumeration is due. What follows a command is then the
attention controller's part alone. -/
def State.calm (s : State) : Prop :=
  s.scan.phase ≠ .stopping ∧ s.scan.stopAt = none ∧ s.pwr.entry = none ∧ s.pwr.next = none ∧ s.pwr.checkFailed = false ∧
    s.pwr.sleepDue = false ∧ s.casc.redo = false

/-! ## The host link (11 R330, R331, R337) -/

/-- An operation of the host link: of 11 Table 11.1, or an undefined one. -/
def linkOperation (i : Instr) : Prop :=
  match i with
  | .readReg .. => True
  | .writeReg .. => True
  | .pushCmd .. => True
  | .popReport .. => True
  | .popImage .. => True
  | .popRecord .. => True
  | .done .. => True
  | .readId .. => True
  | .undefinedLinkOperation _ op _ => op.toNat ∉ linkOps
  | _ => False

/-- The link answers and serves every operation. -/
def State.linkServes (s : State) : Prop := s.linkOn = true ∧ s.link.busy = false

/-- The five-byte leader: the vector of the chosen source, 0 without one, and the status byte (11 R337, R346). -/
def leadOf (s : State) (refused : Bool) : List Byte :=
  leBytes 4 (match chosen s with | some x => vectorOf s.attn x | none => 0) ++ leBytes 1 (statusByte s refused)

/-! ## Records that events write -/

/-- What a Tally record alone can change. -/
def tallyComps : List Comp := [.attn, .tally, .record, .trk]

/-- What a fault, partner-event or cascade-event record and its Tally record can change. -/
def recordComps : List Comp := [.attn, .report, .pwr, .trk, .bench, .tally, .record, .casc, .tel]

/-- A record of 16 bytes is written at once: the tile is no member, none waits, and the ring has room (11 R343). -/
def recordsNow (s : State) : Prop := s.casc.role ≠ .member ∧ s.bench.faultQueue = [] ∧ s.reportFits 16 = true

/-- The report ring after a record that belongs to no frame. -/
def State.reportPlus (s : State) (bs : List Byte) : Ring := s.report.put s.reportSize ⟨bs, .plain⟩

/-- A panel-line fault record (03 Table 3.8). -/
def lineBytes (s : State) (cause line partner : Nat) : List Byte :=
  [8, 3] ++ leBytes 1 cause ++ leBytes 1 s.tileNo ++ leBytes 2 line ++ leBytes 2 partner ++
    leBytes 2 (s.selfOf line) ++ leBytes 2 (s.logicalOf line) ++ leBytes 4 s.low32

/-- A supply and thermal fault record (19 Table 19.6). -/
def supplyBytes (s : State) (cause : Nat) (set : Bool) : List Byte :=
  [8, 4] ++ leBytes 1 cause ++ leBytes 1 s.tileNo ++ leBytes 1 (bitOf set 0) ++ leBytes 1 s.scan.level ++
    leSigned 2 s.base.tDie ++ leBytes 4 0 ++ leBytes 4 s.low32

/-- A partner event record (13 Table 13.7). -/
def partnerBytes (s : State) (cause address entry state detail value : Nat) : List Byte :=
  [7] ++ leBytes 1 cause ++ leBytes 1 s.tileNo ++ leBytes 1 address ++ leBytes 1 entry ++ leBytes 1 state ++
    leBytes 1 detail ++ leBytes 1 value ++ leBytes 4 0 ++ leBytes 4 s.low32

/-- A cascade event record (09 Table 9.12). -/
def cascadeBytes (s : State) (cause tile port detail : Nat) : List Byte :=
  [9] ++ leBytes 1 cause ++ leBytes 1 tile ++ leBytes 1 port ++ leBytes 2 s.presentMap ++ leBytes 2 s.absentMap ++
    leBytes 1 detail ++ leBytes 1 (s.casc.planId.toNat % 256) ++ leBytes 2 0 ++ leBytes 4 s.low32

/-- A memory fault record (14 Table 14.8). -/
def memoryBytes (s : State) (cause region sector address : Nat) : List Byte :=
  [8, 0x0A] ++ leBytes 1 cause ++ leBytes 1 s.tileNo ++ leBytes 1 region ++ [0] ++ leBytes 2 sector ++ leBytes 4 address ++
    leBytes 4 s.low32

/-! ## Tenon messages (09 R264 to R267) -/

/-- A message of this tile with its next sequence number, by some ports. -/
def messageOf (s : State) (type dest : Nat) (body : TenonBody) (ports : List Nat) : TenonMsg :=
  ⟨type, dest, s.casc.tile.getD 0xFE, s.casc.txSeq.toNat, ports, body⟩

/-- A message for this tile arrives at a port in RUN, paired rightly (09 R265, R266). -/
def arrives (s : State) (h : MsgHdr) : Prop :=
  s.casc.role ≠ .standalone ∧ s.portRun h.inPort = true ∧ h.port = (h.inPort.val + 2) % 4 ∧ h.dest ≠ 0xFF ∧
    s.casc.tile = some h.dest

/-! ## Packets (12 R354 to R363) -/

/-- Bench takes a packet of `n` bytes with an opcode from the front of the command ring. -/
def Serves (s : State) (op : Nat) (p : Packet) (n : Nat) : Prop :=
  benchOpen s = true ∧ takePacket (benchFront s) = .packet p n ∧ p.opcode = op

/-- The state in which the packet's command runs: at its instant, the packet taken. -/
def State.taken (s : State) (tk : Tick) (n : Nat) : State := passPacket n (s.entered tk)

/-- The report ring takes a reply with `n` data bytes (11 R343, 12 R358). -/
def replyFits (s : State) (n : Nat) : Prop := n ≤ 4082 ∧ s.reportFits ((14 + n + 15) / 16 * 16) = true

/-- The reply of a packet: its tag, opcode and packet_seq (12 Table 12.2). -/
def replyOf (s : State) (p : Packet) (status kind : Nat) (data : List Byte) : Reply :=
  ⟨p.tag, p.opcode, status, kind, s.bench.packetSeq.toNat, data, .plain⟩

/-- The report ring after a reply record with `k` deferred commands outstanding. -/
def State.reportWith (s : State) (r : Reply) (k : Nat) : Ring := s.report.put s.reportSize ⟨r.bytes k, r.mark⟩

/-- The command answers its packet with a sole reply of a status and data, and does nothing else: `v` is the state with
the packet taken (12 R359, R361). -/
def Answers (i : Instr) (s v : State) (p : Packet) (status : Nat) (data : List Byte) : Prop :=
  Runs i s fun t => t.report = v.reportWith (replyOf s p status 0 data) v.bench.outstanding.length ∧
    KeepsBut [.attn, .report, .pwr, .trk] v t

/-- A packet's command as it is outstanding once accepted at `v` (12 R363). -/
def acceptedAs (s v : State) (p : Packet) : Deferred := ⟨p.tag, p.opcode, s.bench.packetSeq.toNat, p.par, v.now⟩

/-- A deferred command has room: its tag is not outstanding, and fewer than 8 commands are (12 R363). -/
def hasRoom (s : State) (p : Packet) : Prop :=
  (∀ d ∈ s.bench.outstanding, d.tag ≠ p.tag) ∧ s.bench.outstanding.length < 8

/-- The command accepts its packet: the acceptance of kind 1 is written, the command is outstanding, and `q` holds of the
next state; `v` is the state with the packet taken (12 R359). -/
def Accepts (i : Instr) (s v : State) (p : Packet) (q : State → Prop) : Prop :=
  Runs i s fun t => t.bench.outstanding = s.bench.outstanding ++ [acceptedAs s v p] ∧
    t.report = v.reportWith (replyOf s p 1 1 []) (s.bench.outstanding.length + 1) ∧ q t

/-- A reply with `n` data bytes can be written at once: the tile is no member, no reply is held, and the ring has room. -/
def writesNow (s : State) (n : Nat) : Prop := s.casc.role ≠ .member ∧ s.bench.held = [] ∧ replyFits s n

/-- A final reply has its turn: no earlier command of the same unit waits for its own, and no reply waits for its turn (12
R364). -/
def State.atTurn (s : State) (d : Deferred) : Prop := s.bench.turn = [] ∧ s.ahead d = false

/-- The final reply of an outstanding command is written, the command is no longer outstanding, and `q` holds of the next
state; `u` is the state in which the completion runs (12 R359, R364). -/
def Finishes (i : Instr) (s u : State) (d : Deferred) (status : Nat) (data : List Byte) (q : State → Prop) : Prop :=
  Runs i s fun t =>
    let rest := s.bench.outstanding.filter fun e => e.tag != d.tag
    t.bench.outstanding = rest ∧ t.report = u.reportWith ⟨d.tag, d.opcode, status, 2, d.seq, data, .plain⟩ rest.length ∧ q t

/-- A command of one form: its row in 12 Tables 12.5 to 12.15. -/
structure Form where
  run : Tick → Instr
  op : Nat
  len : Nat
  set : StateSet
  level : Bool
  cascade : Bool

/-- The commands whose parameters have one length (12 Tables 12.5 to 12.15). -/
def forms : List Form := [
  ⟨.nop, 0x00, 0, .all, false, false⟩, ⟨.identify, 0x01, 0, .all, false, false⟩, ⟨.attest, 0x02, 32, .all, false, false⟩,
  ⟨.getStatus, 0x03, 0, .all, false, false⟩, ⟨.reset, 0x04, 1, .all, false, false⟩,
  ⟨.setPower, 0x05, 2, .normal, false, false⟩, ⟨.hostSleep, 0x06, 0, .normal, false, false⟩,
  ⟨.scanStart, 0x10, 1, .stopped, false, false⟩, ⟨.scanStop, 0x11, 1, .active, false, false⟩,
  ⟨.scanProfile, 0x12, 1, .scanning, false, false⟩, ⟨.freqSet, 0x13, 24, .normal, false, false⟩,
  ⟨.lineMap, 0x14, 48, .normal, false, false⟩, ⟨.healthMap, 0x15, 0, .normal, false, false⟩,
  ⟨.legacyPhase, 0x16, 124, .normal, false, false⟩, ⟨.baselineAcquire, 0x18, 1, .frames, false, false⟩,
  ⟨.referenceSave, 0x19, 1, .frames, false, false⟩, ⟨.referenceSelect, 0x1A, 1, .normal, false, false⟩,
  ⟨.keyRead, 0x21, 4, .normal, false, false⟩, ⟨.gestureSet, 0x22, 22, .normal, false, false⟩,
  ⟨.contactFilter, 0x24, 16, .normal, false, false⟩, ⟨.imageStream, 0x28, 2, .frames, false, false⟩,
  ⟨.imageSnapshot, 0x29, 1, .frames, false, false⟩] ++ [
  ⟨.levelConfig, 0x30, 20, .normal, true, false⟩, ⟨.levelConvert, 0x31, 4, .normal, true, false⟩,
  ⟨.levelExcite, 0x32, 4, .normal, true, false⟩, ⟨.levelRefbuf, 0x33, 1, .normal, true, false⟩,
  ⟨.levelOpenwire, 0x34, 4, .normal, true, false⟩, ⟨.levelTrigger, 0x35, 12, .normal, true, false⟩,
  ⟨.detectorRead, 0x36, 2, .normal, true, false⟩, ⟨.linearSet, 0x37, 52, .normal, true, false⟩,
  ⟨.busRollcall, 0x41, 1, .normal, false, false⟩, ⟨.busBranch, 0x42, 1, .normal, false, false⟩,
  ⟨.cascadeMap, 0x48, 0, .normal, false, true⟩, ⟨.cascadePlan, 0x49, 1, .normal, false, true⟩,
  ⟨.updateBegin, 0x52, 4, .update, false, false⟩, ⟨.updateCommit, 0x54, 0, .update, false, false⟩,
  ⟨.memoryInfo, 0x55, 0, .all, false, false⟩, ⟨.tallyRead, 0x58, 12, .all, false, false⟩,
  ⟨.tallyMark, 0x59, 6, .normal, false, false⟩, ⟨.calendarSet, 0x5A, 6, .normal, false, false⟩,
  ⟨.timeGet, 0x5B, 0, .all, false, false⟩, ⟨.attnConfig, 0x60, 48, .normal, false, false⟩,
  ⟨.attnRoute, 0x61, 4, .normal, false, false⟩, ⟨.telemetryRead, 0x68, 0, .all, false, false⟩,
  ⟨.telemetryClear, 0x69, 0, .normal, false, false⟩, ⟨.testChallenge, 0x70, 0, .all, false, false⟩,
  ⟨.testUnlock, 0x71, 132, .all, false, false⟩, ⟨.selftest, 0x72, 2, .stopped, false, false⟩]

/-- The part has the units that a form's row names (01 R21). -/
def Form.present (f : Form) (part : Part) : Prop :=
  (f.level = true → part.hasLevel = true) ∧ (f.cascade = true → part.hasCascade = true)

/-! ## The invariant -/

/-- While the attention controller is at work, each level source is active exactly while its condition is met, and
only an active source is acknowledged (11 R347, Table 11.9). -/
def LevelsFollow (s : State) : Prop :=
  s.attnOn = true → ∀ src ∈ levelSources,
    s.attn.active.getLsbD src = levelCond s src ∧ (s.attn.acked.getLsbD src = true → s.attn.active.getLsbD src = true)

/-- ATTN_N is asserted exactly while this tile drives it and a source is deliverable (11 R346, R350). -/
def AttnFollows (s : State) : Prop := s.attn.attnN = (drivesAttn s && !(deliverables s).isEmpty)

/-- Messages that wait for the Tenon ports stand in the order of 09 Table 9.4 (09 R266). -/
def MessagesInOrder (s : State) : Prop := s.casc.out.Pairwise fun a b => msgRank a.type ≤ msgRank b.type

/-- What every step keeps. -/
def State.Inv (s : State) : Prop := LevelsFollow s ∧ AttnFollows s ∧ MessagesInOrder s

end Sys2Proof.Machine
end

