-- ==== Sys2Proof/Certificates/Slice0/Obligations.lean ====
section
/-! DEFINITION. The statements for the provers, family by family. Rules and tables are those of spec/; a clause that
rests on a choice of the model names its log entry. -/

open Sys2Proof Sys2Proof.Machine

/-! ## The block -/

/-- A step runs the command at the front of the queue on the state with the queue's rest; an empty queue leaves the
block as it is (log 1). -/
def Obligations.StepRunsTheFront : Prop :=
  (∀ (c : Instr) (rest : List Instr) (s : State), s.pending = c :: rest → step s = exec c { s with pending := rest }) ∧
  (∀ s : State, s.pending = [] → step s = .next s)

/-- Every command in every state answers a next state of the same part with the same queue, but for a private test
instruction while the block is unlocked, which stops because the spec gives it no effect (15 R460). -/
def Obligations.EveryCommandCompletes : Prop :=
  ∀ (i : Instr) (s : State),
    (¬ privateWhileUnlocked i s →
      Runs i s fun t => t.part = s.part ∧ t.dieRevision = s.dieRevision ∧ t.pending = s.pending) ∧
    (privateWhileUnlocked i s → exec i s = .refused .privateTestInstruction)

/-- Every step keeps the invariant: level sources follow their conditions, ATTN_N the deliverable set, and Tenon
messages stand in the order of their types (11 R346, R347, R350; 09 R266). -/
def Obligations.EveryStepKeepsInv : Prop := ∀ s t : State, s.Inv → step s = .next t → t.Inv

/-- At reset the invariant holds, with the reset values that the spec gives: 11 Tables 11.2 to 11.5, T from zero (02 R34),
ACTIVE with WAKE_CAUSE 6 (18 R498), frame count 0, empty rings and no deferred commands (18 R503). -/
def Obligations.InvAtReset : Prop :=
  let s := State.reset
  s.Inv ∧ s.pending = [] ∧
  (s.link.busy = true ∧ s.link.crcError = false ∧ s.link.mode = 1 ∧ s.link.width = 0 ∧ s.link.status = 0x80 ∧ s.link.seqHi = 0) ∧
  (s.attn.vector = 0 ∧ s.attn.pending = 0 ∧ s.attn.active = 0 ∧ s.attn.inService = 0 ∧ s.attn.cbs = 0 ∧ s.attn.enable = 0 ∧
    s.attn.global = false ∧ s.attn.base = 0x100 ∧ s.attn.stride = 0 ∧ s.attn.wakeGroups = 0 ∧ s.attn.attnN = false ∧
    s.attn.groups = List.replicate 8 ⟨0, 0, 0, none, 0⟩) ∧
  (s.time.t = 0 ∧ s.time.hiLatch = 0 ∧ s.scan.frameCount = 0 ∧ s.pwr.st = 3 ∧ s.pwr.wakeCause = 6) ∧
  (∀ r ∈ [s.cmd, s.report, s.image, s.record], r.items = [] ∧ r.head = 0 ∧ r.tail = 0) ∧
  (s.bench.held = [] ∧ s.bench.outstanding = [] ∧ s.params = [] ∧ s.trust.unlocked = false ∧ s.mem.session = .closed)

/-! ## The host link (chapter 11) -/

/-- Which sources are deliverable, and the vector: 0 while BUSY or when none is; else that of a deliverable source of the group
with the highest PRIORITY, the lower group number, then the lower source number (11 R338, R346). -/
def Obligations.TheChosenSource : Prop :=
  ∀ s : State,
    (s.link.busy = true → chosen s = none) ∧
    (s.link.busy = false → (chosen s = none ↔ ∀ x < 25, deliverable s x = false)) ∧
    (∀ x, chosen s = some x → x < 25 ∧ deliverable s x = true ∧
      ∀ y < 25, deliverable s y = true → y ≠ x →
        let pri := fun (g : Nat) => (s.attn.groups.getD g .initial).priority.toNat
        pri (groupOf y) < pri (groupOf x) ∨
          (pri (groupOf y) = pri (groupOf x) ∧
            (groupOf x < groupOf y ∨ (groupOf x = groupOf y ∧ x < y)))) ∧
    (∀ x < 25, deliverable s x = true ↔
      s.attn.pending.getLsbD x = true ∧ s.attn.enable.getLsbD x = true ∧ s.attn.global = true ∧ bitAt (s.pnat 0x815) x = false ∧
      (∀ y < 25, groupOf y = groupOf x → s.attn.inService.getLsbD y = false) ∧
      ((s.attn.groups.getD (groupOf x) .initial).holdEnd.any fun e => !reached s.now e) = false) ∧
    (∀ refused : Bool, slice (leadOf s refused) 0 4 = match chosen s with
      | some x => leBytes 4 (s.attn.base.toNat + x * (4 * 2 ^ s.attn.stride.toNat))
      | none => [0, 0, 0, 0])

/-- READ_REG (11 R332, R340): the leader, the words of one instant from address upward in steps of 4, and a CRC
over all of it; a word at TIMEBASE_LO or TALLY_SEQ_LO latches the high half at that instant. -/
def Obligations.ReadRegReturnsItsWords : Prop :=
  ∀ (s : State) (tk : Tick) (addr : BitVec 16) (n : Nat), s.linkServes → s.pwr.wakeCheck = false → s.calm →
    1 ≤ n → n ≤ 32 →
    Runs (.readReg tk addr n .full) s fun t =>
      let u := s.entered tk
      let adr := fun (i : Nat) => (addr.toNat / 4 * 4 + 4 * i) % 65536
      let view := { u with time := t.time, link := { u.link with seqHi := t.link.seqHi, status := t.link.status } }
      let lead := leadOf u false
      let body := (List.range n).flatMap fun i => leBytes 4 (regRead view (adr i))
      t.link.out = lead ++ body ++ crcBytes (lead ++ body) ∧ t.link.out.length = 7 + 4 * n ∧
      t.link.status.toNat = statusByte u false % 256 ∧
      t.time = { u.time with hiLatch := if ∃ i < n, adr i = 0x40 then BitVec.ofNat 24 (u.now.toNat / 2 ^ 32) else u.time.hiLatch } ∧
      t.link.seqHi = (if ∃ i < n, adr i = 0x4C then BitVec.ofNat 16 u.tally.epoch else u.link.seqHi) ∧
      KeepsBut [.time, .link, .attn] u t

/-- WRITE_REG (11 R333): whole and with the right CRC its words are applied in address order; otherwise nothing is
written, CRC_ERROR is set and Tally records event 0x0801; a word count outside 1 to 32 is refused (log 61). The chosen source is
claimed first, as by every transaction (R337). -/
def Obligations.WriteRegIsWhole : Prop :=
  ∀ (s : State) (tk : Tick) (addr : BitVec 16) (count : Nat) (words : List Word) (crc : BitVec 16) (ext : Extent),
    s.linkServes → s.pwr.wakeCheck = false → s.calm → LevelsFollow s →
    let u := s.entered tk
    let claimed := match chosen u with
      | some x => if extClaim ext then claim x u else u
      | none => u
    let right := crc = crc16 ([0x20] ++ leBytes 2 addr.toNat ++ leBytes 1 count ++ words.flatMap fun w => leBytes 4 w.toNat)
    let registers := fun (v t : State) =>
      t.attn = { v.attn with attnN := t.attn.attnN, wakeDue := t.attn.wakeDue, wakeSet := t.attn.wakeSet }
    let fits := 1 ≤ count ∧ count ≤ 32
    (fits → ext = .full → words.length = count → right →
      Runs (.writeReg tk addr count words crc ext) s fun t =>
        t.link.out = leadOf { u with pwr := t.pwr } false ∧ t.link.crcError = false ∧ t.pwr.hostAsleep = false ∧
        registers (((List.range count).zip words).foldl
          (fun s e => writeWord ((addr.toNat / 4 * 4 + 4 * e.1) % 65536) e.2 s) claimed) t ∧
        KeepsBut [.link, .attn, .pwr] u t) ∧
    (fits → ext ≠ .full ∨ words.length ≠ count ∨ ¬ right →
      let told := tally 0x801 (d48 [(8, 0x20), (8, if ext = .full ∧ words.length = count then 1 else 2)]) claimed
      Runs (.writeReg tk addr count words crc ext) s fun t =>
        t.link.crcError = true ∧ t.pwr.hostAsleep = false ∧ registers told t ∧ t.tally = told.tally ∧
        KeepsBut [.link, .attn, .pwr, .tally, .record, .trk] u t) ∧
    (¬ fits → extHeader ext = true →
      Runs (.writeReg tk addr count words crc ext) s fun t =>
        (ext = .full → t.link.out = leadOf { u with pwr := t.pwr } true) ∧ t.pwr.hostAsleep = false ∧ registers claimed t ∧
        KeepsBut [.link, .attn, .pwr] u t)

/-- PUSH_CMD (11 R334): accepted and whole it appends its bytes to the command ring as one unit; refused, with an invalid
length or for want of space, it leaves the ring and carries REFUSED; accepted but ended early it is discarded. -/
def Obligations.PushCmdAppendsOneUnit : Prop :=
  ∀ (s : State) (tk : Tick) (length : Nat) (bytes : List Byte) (ext : Extent), s.linkServes → s.pwr.wakeCheck = false → s.calm →
    extHeader ext = true →
    let u := s.entered tk
    let fits := 8 ≤ length ∧ length ≤ s.cmdSize ∧ length % 4 = 0 ∧ length ≤ s.cmd.free s.cmdSize
    (fits → ext = .full → length ≤ bytes.length →
      Runs (.pushCmd tk length bytes ext) s fun t =>
        t.cmd.items = s.cmd.items ++ [⟨bytes.take length, .plain⟩] ∧
        t.cmd.head = (s.cmd.head + length) % (2 * s.cmdSize) ∧ t.cmd.tail = s.cmd.tail ∧
        t.pwr.hostAsleep = false ∧ KeepsBut [.link, .attn, .pwr, .cmd] u t) ∧
    (fits → ext ≠ .full ∨ bytes.length < length →
      Runs (.pushCmd tk length bytes ext) s fun t =>
        t.cmd = s.cmd ∧ t.link.crcError = true ∧
        t.tally = (tally 0x801 (d48 [(8, 0x30), (8, 2)]) u).tally ∧
        KeepsBut [.link, .attn, .pwr, .tally, .record, .trk] u t) ∧
    (¬ fits → ext = .full →
      Runs (.pushCmd tk length bytes ext) s fun t =>
        t.link.out = leadOf { u with pwr := t.pwr } true ∧ KeepsBut [.link, .attn, .pwr] u t)

/-- The pops (11 R335): the largest amount of whole units within max at the ring's tail, which advances once every bit of
the CRC is clocked; a pop that ends earlier leaves the ring unchanged. Report records that carry no mark; a popped reply
of PARAM_SET makes link_width the width in force (11 R331). What a pop takes: whole units from the tail that fit in max, and as many as fit (11 R335). -/
def Obligations.PopsCommitWhole : Prop :=
  (∀ (s : State) (tk : Tick) (max : Nat) (ext : Extent), s.linkServes → s.pwr.wakeCheck = false → s.calm →
      let u := s.entered tk
      let answer := fun (data : List Byte) => let body := leadOf u false ++ leBytes 2 data.length ++ data
        body ++ crcBytes body
      (∀ a b : List Item, ext = .full → s.report.items = a ++ b → takeUnits max s.report.items = a →
        (∀ i ∈ a, (match i.mark with | .resetReply _ => true | _ => false) = false) →
        Runs (.popReport tk max ext) s fun t =>
          t.link.out = answer (a.flatMap (·.bytes)) ∧ t.report.items = b ∧
          t.report.tail = (s.report.tail + (a.flatMap (·.bytes)).length) % (2 * s.reportSize) ∧
          (∀ w, (a.filterMap fun i => match i.mark with | .widthReply w => some w | _ => none).getLast? = some w →
            t.link.width = BitVec.ofNat 2 w) ∧
          ((∀ i ∈ a, i.mark = .plain) → t.link.width = s.link.width) ∧
          KeepsBut [.link, .attn, .report] u t) ∧
      (∀ a b : List Item, ext = .full → s.record.items = a ++ b → takeUnits max s.record.items = a →
        Runs (.popRecord tk max ext) s fun t =>
          t.link.out = answer (a.flatMap (·.bytes)) ∧ t.record.items = b ∧
          t.record.tail = (s.record.tail + (a.flatMap (·.bytes)).length) % (2 * s.recordSize) ∧
          KeepsBut [.link, .attn, .record] u t) ∧
      (∀ (i : Item) (rest : List Item), ext = .full → s.image.items = i :: rest →
        Runs (.popImage tk max ext) s fun t =>
          let n := min i.bytes.length (max / 4 * 4)
          t.link.out = answer (i.bytes.take n) ∧
          t.image.items = (if n = i.bytes.length then rest else { i with bytes := i.bytes.drop n } :: rest) ∧
          t.image.tail = (s.image.tail + n) % (2 * s.imageSize) ∧
          KeepsBut [.link, .attn, .image] u t) ∧
      (ext = .full → s.image.items = [] →
        Runs (.popImage tk max ext) s fun t => t.link.out = answer [] ∧ KeepsBut [.link, .attn] u t) ∧
      (ext ≠ .full → ∀ i ∈ [Instr.popReport tk max ext, .popImage tk max ext, .popRecord tk max ext],
        Runs i s fun t => KeepsBut [.link, .attn] u t)) ∧
  (∀ (max : Nat) (items : List Item), ∃ b, items = takeUnits max items ++ b ∧
      ((takeUnits max items).flatMap (·.bytes)).length ≤ max ∧
      ∀ i rest, b = i :: rest → max < ((takeUnits max items).flatMap (·.bytes)).length + i.bytes.length)

/-- DONE (11 R336, R347, R348): with a right check and the source in service it leaves service before the leader is
formed, and an active level source is pending again; otherwise the leader carries REFUSED and the source stays. -/
def Obligations.DoneLeavesService : Prop :=
  ∀ (s : State) (tk : Tick) (source check : Byte), s.linkServes → s.pwr.wakeCheck = false → s.calm → LevelsFollow s →
    let u := s.entered tk
    let src := source.toNat
    let ok := check = source ^^^ 0xFF ∧ s.attn.inService.getLsbD src = true
    (ok → Runs (.done tk source check .header) s fun t =>
      (∀ x < 25, t.attn.inService.getLsbD x = (decide (x ≠ src) && s.attn.inService.getLsbD x)) ∧
      (∀ x < 25, t.attn.pending.getLsbD x =
        (s.attn.pending.getLsbD x || (decide (x = src) && s.attn.active.getLsbD x))) ∧
      KeepsBut [.link, .attn] u t) ∧
    (ok → Runs (.done tk source check .full) s fun t =>
      t.link.out = leadOf (leaveService src u) false ∧ KeepsBut [.link, .attn] u t) ∧
    (¬ ok → Runs (.done tk source check .full) s fun t =>
      t.link.out = leadOf u true ∧ (s.attn.inService.getLsbD src = true → t.attn.inService.getLsbD src = true) ∧
      KeepsBut [.link, .attn] u t)

/-- READ_ID answers the leader and the capability record of 32 bytes (01 R19); an operation byte that Table 11.1 does not
define has no effect and carries REFUSED (11 R331). While BUSY, writes, pushes, pops and DONE carry REFUSED, the vector is 0
and nothing changes (R338). No operation is answered while the link is off: PD1 is off, the internal reset holds, or the tile is a member
(01 R18; 08 R245; 18 R502). -/
def Obligations.TheLinkAnswersOrStaysSilent : Prop :=
  (∀ (s : State) (tk : Tick), s.linkOn = true → s.pwr.wakeCheck = false → s.calm →
      let u := s.entered tk
      (Runs (.readId tk .full) s fun t =>
        t.link.out = leadOf u false ++ capability u ∧ t.link.out.length = 37 ∧ KeepsBut [.link, .attn] u t) ∧
      (∀ op : Byte, op.toNat ∉ linkOps → Runs (.undefinedLinkOperation tk op .full) s fun t =>
        t.link.out = leadOf u true ∧ KeepsBut [.link, .attn] u t)) ∧
  (∀ (s : State) (tk : Tick) (addr : BitVec 16) (n max : Nat) (ws : List Word) (bs : List Byte) (crc : BitVec 16) (source check : Byte),
      s.linkOn = true → s.link.busy = true → s.calm →
      ∀ i ∈ [Instr.pushCmd tk n bs .full, .popReport tk max .full, .popImage tk max .full, .popRecord tk max .full,
        .done tk source check .full] ++ (if 1 ≤ ws.length ∧ ws.length ≤ 32 then [.writeReg tk addr ws.length ws crc .full] else []),
      Runs i s fun t => t.link.out.take 5 = [0, 0, 0, 0] ++ leBytes 1 (statusByte (s.entered tk) true) ∧
        (s.pwr.wakeCheck = false → s.pwr.hostAsleep = false → s.pwr.sleepFrom = none → s.pwr.sleepDue = false →
          KeepsBut [.link, .attn] (s.entered tk) t)) ∧
  (∀ (i : Instr) (s : State), linkOperation i → s.linkOn = false → s.calm →
      Runs i s fun t => t.link = { s.link with out := [] } ∧ KeepsBut [.time, .casc, .attn, .link] s t)

/-- A claim (11 R337, R347 to R349): once bit 31 of the vector is shifted out the chosen source is in service and not
pending, and its group's hold-off runs over COUNT times 2^SCALE beats; a transaction that ends before claims nothing. -/
def Obligations.ATransactionClaims : Prop :=
  ∀ (s : State) (tk : Tick) (ext : Extent) (x : Nat), s.linkServes → s.calm → LevelsFollow s → chosen (s.entered tk) = some x →
    let u := s.entered tk
    let g := u.attn.groups.getD (groupOf x) .initial
    (extClaim ext = true → Runs (.readId tk ext) s fun t =>
      t.attn.inService = setBit s.attn.inService x true ∧ t.attn.pending = setBit s.attn.pending x false ∧
      t.attn.vector = BitVec.ofNat 32 (s.attn.base.toNat + x * (4 * 2 ^ s.attn.stride.toNat)) ∧
      t.attn.groups = modAt s.attn.groups (groupOf x) (fun h => { h with
        holdEnd := if g.count = 0 then none else some (u.now + BitVec.ofNat 56 (g.count.toNat * 2 ^ g.scale.toNat * 256))
        holdScale := g.scale }) ∧ KeepsBut [.link, .attn] u t) ∧
    (extClaim ext = false → Runs (.readId tk ext) s fun t =>
      t.attn.inService = s.attn.inService ∧ t.attn.pending = s.attn.pending ∧ t.attn.groups = s.attn.groups ∧
      KeepsBut [.link, .attn] u t)

/-- Writes of the register window (11 Tables 11.3 and 11.4, R339, R341, R347, R348), that a bit set at the tick of its W1C stays set
(00 R9, 02 Table 2.6), and that BUSY refuses them (R338). -/
def Obligations.RegisterWindowWrites : Prop :=
  ∀ (s : State) (tk : Tick) (v : Word), s.linkOn = true → s.calm → LevelsFollow s →
    let u := s.entered tk
    (s.link.busy = false →
      (Runs (.attnPendingWrite tk v) s fun t =>
        t.attn.pending = s.attn.pending &&& ~~~(v.truncate 25 &&& ~~~s.attn.active &&& ~~~u.justPend) ∧
        t.attn.acked = s.attn.acked ||| (v.truncate 25 &&& s.attn.active) ∧ KeepsBut [.attn] u t) ∧
      (Runs (.clearedBeforeServiceWrite tk v) s fun t =>
        (∀ i < 6, t.attn.cbs.getLsbD i = (s.attn.cbs.getLsbD i && (!v.getLsbD (8 + i) || u.justCbs.getLsbD i))) ∧ KeepsBut [.attn] u t) ∧
      (Runs (.vectorBaseWrite tk v) s fun t =>
        let b := v.toNat / 32 * 32
        t.attn.base.toNat = (if 0 < b ∧ b + 24 * (4 * 2 ^ s.attn.stride.toNat) ≤ 0xFFFFFFFF then b else s.attn.base.toNat) ∧
        KeepsBut [.attn] u t) ∧
      (Runs (.vectorStrideWrite tk v) s fun t =>
        t.attn.stride.toNat = (if 0 < s.attn.base.toNat ∧ s.attn.base.toNat + 24 * (4 * 2 ^ (v.toNat % 4)) ≤ 0xFFFFFFFF
          then v.toNat % 4 else s.attn.stride.toNat) ∧ KeepsBut [.attn] u t) ∧
      (∀ g : Fin 8, Runs (.holdoffWrite tk g v) s fun t =>
        t.attn.groups = modAt s.attn.groups g (fun h => { h with
          priority := BitVec.ofNat 3 (v.toNat / 65536), scale := BitVec.ofNat 2 (v.toNat / 256)
          count := BitVec.ofNat 8 v.toNat }) ∧ KeepsBut [.attn] u t) ∧
      (∀ addr : BitVec 16, Runs (.registerWrite tk addr v) s fun t =>
        let a := addr.toNat / 4 * 4
        t.attn.enable = (if a = 0x10 then v.truncate 25 else s.attn.enable) ∧
        t.attn.global = (if a = 0x14 then v.getLsbD 0 else s.attn.global) ∧
        t.attn.wakeGroups = (if a = 0x88 then v.truncate 8 else s.attn.wakeGroups) ∧
        t.attn.pending = s.attn.pending ∧ KeepsBut [.attn] u t)) ∧
    (s.link.busy = true → ∀ (g : Fin 8) (addr : BitVec 16),
      ∀ i ∈ [Instr.attnPendingWrite tk v, .clearedBeforeServiceWrite tk v, .vectorBaseWrite tk v, .vectorStrideWrite tk v,
        .holdoffWrite tk g v, .registerWrite tk addr v],
      Runs i s fun t => t.attn.enable = s.attn.enable ∧ t.attn.global = s.attn.global ∧ t.attn.base = s.attn.base ∧
        t.attn.stride = s.attn.stride ∧ t.attn.wakeGroups = s.attn.wakeGroups ∧ t.attn.groups = s.attn.groups ∧
        t.attn.pending = s.attn.pending ∧ t.attn.cbs = s.attn.cbs ∧ KeepsBut [.attn] u t)

/-- The low halves latch the high ones (02 R38, 11 R340). -/
def Obligations.LowHalvesLatch : Prop :=
  ∀ (s : State) (tk : Tick), s.linkOn = true → s.calm →
    let u := s.entered tk
    (Runs (.timebaseLoRead tk) s fun t =>
      t.time = { u.time with hiLatch := BitVec.ofNat 24 (u.now.toNat / 2 ^ 32) } ∧ KeepsBut [.time, .attn] u t) ∧
    (Runs (.tallySeqLoRead tk) s fun t =>
      t.link = { u.link with seqHi := BitVec.ofNat 16 u.tally.epoch } ∧ KeepsBut [.link, .attn] u t)

/-- Hold-offs end at their instant (11 R349); a WAKE pulse is high for 1,024 ticks, recorded by event 0x0803, and a further
one starts 1,024 ticks after the end of the one before (11 R350); a member starts none (01 R18). -/
def Obligations.HoldOffsAndWakePulses : Prop :=
  ∀ (s : State) (tk : Tick), s.calm →
    let u := s.entered tk
    (∀ (g : Fin 8) (e : Time), (s.attn.groups.getD g .initial).holdEnd = some e → reached u.now e = true →
      Runs (.holdoffEnd tk g) s fun t =>
        t.attn.groups = modAt s.attn.groups g (fun h => { h with holdEnd := none }) ∧ KeepsBut [.attn] u t) ∧
    (∀ c g : Nat, s.casc.role ≠ .member → s.attn.wakeDue = some (c, g) → c = 2 ∨ s.attn.global = true →
      s.attn.wake = .low ∨ (∃ e, s.attn.wake = .gap e ∧ reached u.now (e + 1024) = true) →
      Runs (.wakePulseStart tk) s fun t =>
        t.attn.wake = .high (u.now + 1024) ∧
        t.tally = (tally 0x803 (d48 [(8, c), (8, g)]) { u with attn := { u.attn with wakeDue := none } }).tally ∧
        KeepsBut [.attn, .tally, .record, .trk] u t) ∧
    (s.casc.role = .member → Runs (.wakePulseStart tk) s fun t => t.attn.wake = s.attn.wake ∧ KeepsBut [.attn] u t) ∧
    (∀ e : Time, s.attn.wake = .high e → reached u.now e = true →
      Runs (.wakePulseEnd tk) s fun t => t.attn.wake = .gap e ∧ KeepsBut [.attn] u t)

/-! ## Bench: packets, checks and replies (chapter 12) -/

/-- Checks 3 to 5 of 12 R360, in that order, on every command whose parameters have one length: ABSENT_UNIT, BAD_LENGTH,
WRONG_STATE, each with a sole reply and nothing else changed (R361, R367). -/
def Obligations.FormsAreCheckedInOrder : Prop :=
  ∀ (s : State) (tk : Tick) (p : Packet) (n : Nat) (f : Form), f ∈ forms → Serves s f.op p n → s.calm →
    let v := s.taken tk n
    replyFits v 0 →
    (¬ f.present s.part → Answers (f.run tk) s v p 5 []) ∧
    (f.present s.part → p.par.length ≠ f.len → Answers (f.run tk) s v p 3 []) ∧
    (f.present s.part → p.par.length = f.len → inSet f.set s = false → Answers (f.run tk) s v p 6 [])

/-- An opcode that chapter 12 does not define, or with bit 7 set, is refused with BAD_OPCODE (12 R357); a malformed packet
with BAD_LENGTH or CRC_ERROR, and the rest of its push is discarded as one packet (R356). -/
def Obligations.BadPacketsAreRefused : Prop :=
  ∀ (s : State) (tk : Tick), benchOpen s = true → s.calm →
    (∀ (p : Packet) (n : Nat), takePacket (benchFront s) = .packet p n → p.opcode ∉ knownOpcodes →
      replyFits (s.taken tk n) 0 → Answers (.unknownOpcode tk) s (s.taken tk n) p 2 []) ∧
    (∀ tag op : Nat, ∀ st, (takePacket (benchFront s) = .badLength tag op ∧ st = 3) ∨
        (takePacket (benchFront s) = .crcError tag op ∧ st = 8) →
      let v := countPacket (dropPush (s.entered tk))
      replyFits v 0 →
      Runs (.malformedPush tk) s fun t =>
        t.report = v.reportWith ⟨tag, op, st, 0, s.bench.packetSeq.toNat, [], .plain⟩ s.bench.outstanding.length ∧
        t.cmd.items = s.cmd.items.drop 1 ∧ t.bench.packetSeq = s.bench.packetSeq + 1 ∧
        KeepsBut [.attn, .report, .pwr, .trk] v t)

/-- The packet format (12 R354, R356): what is malformed, and what Bench reads from a sound packet. -/
def Obligations.PacketsAreRead : Prop :=
  ∀ bs : List Byte,
    let len := fieldAt bs 2 2
    let size := 4 * ((len + 9) / 4)
    (bs.length < 8 ∨ bs.length < size ↔ ∃ tag op, takePacket bs = .badLength tag op) ∧
    (∀ p n, takePacket bs = .packet p n →
      n = size ∧ n % 4 = 0 ∧ 8 ≤ n ∧ p.opcode = byteAt bs 0 ∧ p.tag = byteAt bs 1 ∧ p.par = slice bs 4 len ∧
      p.par.length = len ∧ crcBytes (bs.take (4 + len)) = slice bs (4 + len) 2) ∧
    (8 ≤ bs.length → size ≤ bs.length →
      takePacket bs = if crcBytes (bs.take (4 + len)) = slice bs (4 + len) 2
        then .packet ⟨byteAt bs 0, byteAt bs 1, slice bs 4 len⟩ size else .crcError (byteAt bs 1) (byteAt bs 0))

/-- The commands that read without parameters answer OK with their data (12 R359, R368, R369, R377, R387; 02 R43;
17 R494). -/
def Obligations.ReadCommandsAnswer : Prop :=
  ∀ (s : State) (tk : Tick) (p : Packet) (n : Nat), s.calm → p.par = [] →
    let v := s.taken tk n
    let row := fun (i : Instr) (op : Nat) (set : StateSet) (data : State → List Byte) =>
      Serves s op p n → inSet set s = true → replyFits v (data v).length → Answers i s v p 0 (data v)
    row (.nop tk) 0x00 .all (fun _ => []) ∧ row (.identify tk) 0x01 .all identifyData ∧
    row (.getStatus tk) 0x03 .all statusData ∧ row (.healthMap tk) 0x15 .normal healthMap ∧
    row (.memoryInfo tk) 0x55 .all memoryInfo ∧ row (.timeGet tk) 0x5B .all timeSnapshot ∧
    row (.telemetryRead tk) 0x68 .all telemetryBlock ∧
    (s.part.hasCascade = true → s.inCascade = true → row (.cascadeMap tk) 0x48 .normal cascadeMapData)

/-- The commands that read with parameters (07 R213; 12 R383, R392; 13 R416, R417): keys, parameters, the partner table, and
detector slots as they stood at the latest round boundary, with the snapshot before its options (05 R155). -/
def Obligations.ReadsWithParametersAnswer : Prop :=
  ∀ (s : State) (tk : Tick) (p : Packet) (n : Nat), s.calm → inSet .normal s = true →
    let v := s.taken tk n
    (Serves s 0x21 p n → p.par.length = 4 →
      let first := fieldAt p.par 0 2
      let count := fieldAt p.par 2 2
      let data := (List.range count).flatMap fun i => keyReadRec v (first + i)
      (1 ≤ count → count ≤ 255 → first + count ≤ 256 → replyFits v data.length →
        Answers (.keyRead tk) s v p 0 data ∧ data.length = 16 * count) ∧
      (count = 0 ∨ 255 < count ∨ 256 < first + count → replyFits v 0 → Answers (.keyRead tk) s v p 4 [])) ∧
    (Serves s 0x50 p n → p.par ≠ [] → p.par.length % 2 = 0 →
      let data := (getIds p.par).flatMap fun id => recordBytes id (getValue v id)
      (getBad s.part 0 (getIds p.par) = none → replyFits v data.length → Answers (.paramGet tk) s v p 0 data) ∧
      (getBad s.part 0 (getIds p.par) = none → 4082 < data.length → replyFits v 0 → Answers (.paramGet tk) s v p 15 []) ∧
      (∀ st i id, getBad s.part 0 (getIds p.par) = some (st, i, id) → replyFits v 4 →
        Answers (.paramGet tk) s v p st (leBytes 2 i ++ leBytes 2 id))) ∧
    (Serves s 0x41 p n → p.par = [1] → replyFits v (partnerTable v).length →
      Answers (.busRollcall tk) s v p 0 (partnerTable v)) ∧
    (Serves s 0x36 p n → s.part.hasLevel = true → p.par.length = 2 → byteAt p.par 0 ≠ 0 → byteAt p.par 1 < 4 →
      let slots := bitsOf 8 (byteAt p.par 0)
      let w := detTurn v
      let data := slots.flatMap (detBytes { w with plane := { w.plane with dets := w.plane.detAt } })
      replyFits w data.length → Runs (.detectorRead tk) s fun t =>
        t.report = w.reportWith (replyOf s p 0 0 data) v.bench.outstanding.length ∧
        (∀ i < w.plane.detAt.length, t.plane.detAt[i]? = w.plane.detAt[i]?.map fun d =>
          if i ∈ slots then detOptions (byteAt p.par 1) d else d) ∧
        (w.plane.detIn = [] → t.plane.dets = t.plane.detAt) ∧
        (s.plane.detT.toNat / 32 ≠ v.now.toNat / 32 → s.plane.detNew = [] →
          w.plane.detIn = [] ∧ w.plane.detAt = s.plane.dets ∧ w.plane.dets = s.plane.dets) ∧
        (s.plane.detT.toNat / 32 = v.now.toNat / 32 → w = v) ∧
        KeepsBut [.attn, .report, .pwr, .trk, .plane] w t)

/-- The reply data have the lengths of their tables (12 Tables 12.6, 12.7 and 12.14; 02 Table 2.3; 17 Table 17.4; 13
Table 13.5; 05 Table 5.9; 07 Table 7.4; 12 R377). A reply record (12 R358, Table 12.2): its bytes, a whole number of 16, and a CRC over what stands before it. -/
def Obligations.RepliesHaveTheirForm : Prop :=
  (∀ s : State, (capability s).length = 32 ∧ (identifyData s).length = 48 ∧ (statusData s).length = 32 ∧
      (memoryInfo s).length = 24 ∧ (timeSnapshot s).length = 24 ∧ (telemetryBlock s).length = 64 ∧
      (s.part = .klt3720 → (healthMap s).length = 318) ∧
      (∀ k, (keyReadRec s k).length = 16) ∧ (∀ k, (detBytes s k).length = 24)) ∧
  (∀ (r : Reply) (k : Nat), r.data.length ≤ 4082 →
      let bs := r.bytes k
      let d := r.data.length
      bs.length = (14 + d + 15) / 16 * 16 ∧ bs.length ≤ 4096 ∧ leVal (slice bs 2 2) = bs.length ∧
      bs.take 2 = [6, BitVec.ofNat 8 r.tag] ∧ byteAt bs 4 = r.status % 256 ∧ byteAt bs 5 = r.opcode % 256 ∧
      leVal (slice bs 6 2) = d ∧ byteAt bs 8 = r.kind % 256 ∧ byteAt bs 9 = k % 256 ∧ leVal (slice bs 10 2) = r.seq % 65536 ∧
      slice bs 12 d = r.data ∧ slice bs (12 + d) 2 = crcBytes (bs.take (12 + d)) ∧
      ∀ i, 14 + d ≤ i → byteAt bs i = 0)

/-- The commands that write parameters which set nothing off store them whole and answer OK (12 R390, R391; 04 R118;
06 R167; 07 R227; 11 R353; 12 R380). -/
def Obligations.PlainWritersStore : Prop :=
  ∀ (s : State) (tk : Tick) (p : Packet) (n : Nat), s.calm → inSet .normal s = true →
    let v := s.taken tk n
    let row := fun (i : Instr) (op len : Nat) (rs : List (Nat × List Byte)) =>
      Serves s op p n → p.par.length = len → judge v rs = 0 → replyFits v 0 → Runs i s fun t =>
        t.params = applyRecords s.part s.params rs ∧
        t.report = v.reportWith (replyOf s p 0 0 []) v.bench.outstanding.length ∧
        KeepsBut [.attn, .report, .pwr, .trk, .params] v t
    row (.legacyPhase tk) 0x16 124 [(0x120, slice p.par 0 1), (0x121, slice p.par 4 120)] ∧
    row (.referenceSelect tk) 0x1A 1 [(0x206, p.par)] ∧
    row (.gestureSet tk) 0x22 22 (formRecords s.part (idRange 0x310 0x31A) p.par) ∧
    row (.sillSet tk) 0x23 (10 + 12 * s.part.sillGroups) (sillRecords s.part p.par) ∧
    row (.contactFilter tk) 0x24 16 (formRecords s.part (idRange 0x300 0x309) p.par) ∧
    row (.attnRoute tk) 0x61 4 [(0x815, p.par)]

/-- The commands that write parameters whose writing sets something off store them whole (12 R376, R379, R382, R390, R391; 04 R113;
05 R141; 10 R303, R305, R306, R313, R321; 11 R353). -/
def Obligations.WritersStore : Prop :=
  ∀ (s : State) (tk : Tick) (p : Packet) (n : Nat), inSet .normal s = true →
    let v := s.taken tk n
    let stored := fun (i : Instr) (rs : List (Nat × List Byte)) => Runs i s fun t => t.params = applyRecords s.part s.params rs
    let lvl := fun (op len : Nat) => Serves s op p n ∧ s.part.hasLevel = true ∧ p.par.length = len
    (Serves s 0x13 p n → p.par.length = 24 → judge v (freqRecords p.par) = 0 →
      byteAt p.par 18 = 1 ∨ (freqSet p.par v).isSome = true → stored (.freqSet tk) (freqRecords p.par)) ∧
    (Serves s 0x14 p n → p.par.length = 48 → lineMapStatus (lineMapRecords s.part p.par) v = 0 →
      stored (.lineMap tk) (lineMapRecords s.part p.par)) ∧
    (Serves s 0x20 p n → 6 ≤ p.par.length → p.par.length = 6 + 16 * fieldAt p.par 2 2 → defineOk p.par v = true →
      Runs (.keyDefine tk) s fun t => t.params =
        pSet s.part (pSet s.part s.params 0x381 (leBytes 2 (defineCount p.par v))) 0x380 (defineTable p.par v).flatten) ∧
    (Serves s 0x28 p n → p.par.length = 2 → inSet .frames s = true →
      let rs := [(0x18C + 16 * nextProf v, slice p.par 0 1), (0x18D + 16 * nextProf v, slice p.par 1 1)]
      valueStatus v rs = 0 → streamFits (byteAt p.par 0) (byteAt p.par 1) (nextTicks (!v.inFrames) v) v = true →
      stored (.imageStream tk) rs) ∧
    (lvl 0x30 20 → byteAt p.par 0 ≤ 15 → judge v [(0x600 + byteAt p.par 0, slice p.par 4 16)] = 0 →
      stored (.levelConfig tk)
        [(0x600 + byteAt p.par 0, slice p.par 4 16), (0x640 + byteAt p.par 0, linLoad (byteAt p.par 4))]) ∧
    (lvl 0x32 4 → let rs := [(0x611, slice p.par 0 1), (0x612, slice p.par 2 2)]
      judge v rs = 0 → stored (.levelExcite tk) rs) ∧
    (lvl 0x33 1 → judge v [(0x610, p.par)] = 0 → stored (.levelRefbuf tk) [(0x610, p.par)]) ∧
    (lvl 0x34 4 → judge v (openwireRecords p.par v) = 0 → stored (.levelOpenwire tk) (openwireRecords p.par v)) ∧
    (lvl 0x35 12 → byteAt p.par 0 ≤ 15 → let rs := [(0x620 + byteAt p.par 0, slice p.par 4 8)]
      judge v rs = 0 → stored (.levelTrigger tk) rs) ∧
    (lvl 0x37 52 → byteAt p.par 0 ≤ 15 → let rs := [(0x640 + byteAt p.par 0, slice p.par 4 48)]
      judge v rs = 0 → stored (.linearSet tk) rs) ∧
    (∀ rs, Serves s 0x43 p n → packetRecords p.par = some rs → firstBad (busConfigTest v rs) 0 rs = none → judge v rs = 0 →
      stored (.busConfig tk) rs) ∧
    (∀ rs, Serves s 0x51 p n → packetRecords p.par = some rs → judge v rs = 0 → stored (.paramSet tk) rs) ∧
    (Serves s 0x60 p n → p.par.length = 48 → let rs := formRecords s.part (idRange 0x810 0x815 ++ idRange 0x818 0x81F) p.par
      judge v rs = 0 → stored (.attnConfig tk) rs)

/-- A parameter table: what is written is read back, other IDs keep their values, and the table keeps its one form, IDs
rising and none at its default. -/
def Obligations.ParameterTableLaws : Prop :=
  ∀ (part : Part) (t : PTab) (id : Nat) (v : List Byte),
    let wf := fun (t : PTab) => t.Pairwise (fun a b => a.1 < b.1) ∧ ∀ e ∈ t, e.2 ≠ paramDefault part e.1
    wf t → wf (pSet part t id v) ∧ pIn part (pSet part t id v) id = v ∧
      ∀ id', id' ≠ id → pIn part (pSet part t id v) id' = pIn part t id'

/-- The deferred commands accept their packets and begin their work (12 R359, R363; 04 R120, R122; 06 R159, R167; 08 R234; 09 R294,
R295; 12 R381, R386, R388; 13 R403, R408, R416; 14 R438; 15 R457, R461; 16 R484): the units' own. -/
def Obligations.DeferredCommandsAreAccepted : Prop :=
  ∀ (s : State) (tk : Tick) (p : Packet) (n : Nat), s.calm → hasRoom s p →
    let v := s.taken tk n
    let frame := [Comp.attn, .report, .pwr, .trk, .bench]
    replyFits v 0 →
    (Serves s 0x02 p n → inSet .all s = true → p.par.length = 32 → p.par.any (· != 0) = true →
      Accepts (.attest tk) s v p (KeepsBut frame v)) ∧
    (Serves s 0x18 p n → inSet .frames s = true → p.par.length = 1 → byteAt p.par 0 ≤ 1 → v.acquires = false →
      Accepts (.baselineAcquire tk) s v p fun t =>
        t.base = { v.base with acq := .wait 1 (byteAt p.par 0 == 1) } ∧ KeepsBut (.base :: frame) v t) ∧
    (Serves s 0x19 p n → inSet .frames s = true → p.par.length = 1 → byteAt p.par 0 ≤ 3 → saveAllowed v = true →
      Accepts (.referenceSave tk) s v p fun t =>
        t.mem.saving.map (·.1) = v.mem.saving.map (·.1) ++ [byteAt p.par 0] ∧ KeepsBut (.mem :: frame) v t) ∧
    (Serves s 0x29 p n → inSet .frames s = true → p.par.length = 1 → 1 ≤ byteAt p.par 0 → byteAt p.par 0 ≤ 3 →
      Accepts (.imageSnapshot tk) s v p fun t =>
        t.bench.snapModes = v.bench.snapModes ++ [byteAt p.par 0] ∧ KeepsBut frame v t) ∧
    (Serves s 0x58 p n → inSet .all s = true → p.par.length = 12 → 1 ≤ fieldAt p.par 8 2 → fieldAt p.par 8 2 ≤ 255 →
      Accepts (.tallyRead tk) s v p (KeepsBut frame v)) ∧
    (Serves s 0x71 p n → inSet .all s = true → p.par.length = 132 →
      Accepts (.testUnlock tk) s v p fun t =>
        t.trust.challenge = none ∧ t.trust.answered.length = v.trust.answered.length + 1 ∧ KeepsBut (.trust :: frame) v t) ∧
    (Serves s 0x72 p n → inSet .stopped s = true → p.par.length = 2 → fieldAt p.par 0 2 < 64 →
      Accepts (.selftest tk) s v p (KeepsBut frame v)) ∧
    (Serves s 0x52 p n → inSet .update s = true → p.par.length = 4 → 132 ≤ fieldAt p.par 0 4 → fieldAt p.par 0 4 ≤ 262144 →
      v.committing = false → v.recovering = false →
      Accepts (.updateBegin tk) s v p fun t =>
        (∃ slot, t.mem.session = .opened slot (fieldAt p.par 0 4) 0 false) ∧ KeepsBut (.mem :: frame) v t) ∧
    (∀ slot len got, Serves s 0x53 p n → inSet .update s = true → 5 ≤ p.par.length → p.par.length ≤ 2052 →
      v.mem.session = .opened slot len got false → fieldAt p.par 0 4 = got → got + (p.par.length - 4) ≤ len →
      Accepts (.updateChunk tk) s v p fun t =>
        t.mem.session = .opened slot len (got + (p.par.length - 4)) false ∧ KeepsBut (.mem :: frame) v t) ∧
    (∀ slot len, Serves s 0x54 p n → inSet .update s = true → p.par = [] → v.mem.session = .opened slot len len false →
      Accepts (.updateCommit tk) s v p fun t => t.mem.session = .committing slot len false ∧ KeepsBut (.mem :: frame) v t)

/-- The deferred commands of scanning, power, bus and cascade accept their packets and begin their work (04 R120, R122; 08 R231,
R234; 09 R294, R295; 13 R403, R408, R416). -/
def Obligations.DeferredTransitionsAreAccepted : Prop :=
  ∀ (s : State) (tk : Tick) (p : Packet) (n : Nat), s.calm → hasRoom s p →
    let v := s.taken tk n
    let framesOpen := s.scan.phase = .frames ∧ s.scan.stage ≠ .none ∧ s.scan.stage ≠ .written ∧ s.trust.boundary = false
    replyFits v 0 →
    (Serves s 0x10 p n → inSet .stopped s = true → s.trust.boundary = false → p.par.length = 1 → s.casc.role = .standalone →
      s.front.lineChecked = false →
      let q := if byteAt p.par 0 = 0xFF then s.pnat 0x111 else byteAt p.par 0
      q ≤ 7 → v.profileFits q = true →
      Accepts (.scanStart tk) s v p fun t => t.scan.phase = .waitCheck ∧ t.scan.profile = q ∧ t.pwr.pd2 = true) ∧
    (Serves s 0x11 p n → inSet .active s = true → p.par = [0] → framesOpen →
      Accepts (.scanStop tk) s v p fun t => t.scan.phase = .stopping ∧ t.scan.stage = s.scan.stage) ∧
    (∀ st : Nat, Serves s 0x05 p n → inSet .normal s = true → st ≤ 1 → s.pwr.st.toNat ≠ st → p.par.length = 2 → byteAt p.par 0 = st →
      (st = 1 → s.anySill = true) → framesOpen →
      Accepts (.setPower tk) s v p fun t => t.pwr.entry = some ⟨st, 0, some p.tag⟩ ∧ t.scan.phase = .stopping) ∧
    (Serves s 0x40 p n → inSet .normal s = true → p.par.length = 6 + fieldAt p.par 2 2 → s.bus.phase = .ready ∨ s.bus.phase = .starting →
      xferOk (byteAt p.par 0) (byteAt p.par 1) (fieldAt p.par 2 2) (fieldAt p.par 4 2) = true →
      Accepts (.busXfer tk) s v p fun t => t.bus.xfers = s.bus.xfers ++
        [.xfer p.tag (byteAt p.par 0) (byteAt p.par 1) (p.par.drop 6) (fieldAt p.par 4 2)]) ∧
    (Serves s 0x41 p n → inSet .normal s = true → p.par = [0] → s.bus.phase = .starting → s.bus.roll = none →
      Accepts (.busRollcall tk) s v p fun t => t.bus.rollTagsNext = s.bus.rollTagsNext ++ [p.tag] ∧ t.bus.rollAgain = true) ∧
    (Serves s 0x42 p n → inSet .normal s = true → p.par = [2] → s.bus.job.isSome = true →
      Accepts (.busBranch tk) s v p fun t => t.bus.branchDue = s.bus.branchDue ++ [2]) ∧
    (Serves s 0x49 p n → inSet .normal s = true → s.part.hasCascade = true → s.inCascade = true → p.par = [0] →
      s.scan.phase = .stopped →
      Accepts (.cascadePlan tk) s v p fun t => t.casc.enumT = some v.now ∧ t.casc.redo = false) ∧
    (Serves s 0x4A p n → inSet .normal s = true → s.part.hasCascade = true → s.inCascade = true → 4 ≤ p.par.length →
      p.par.length - 4 = packetSize (fieldAt (p.par.drop 4) 2 2) → (s.member (byteAt p.par 0)).joined = true →
      notForwarded (byteAt (p.par.drop 4) 0) = false →
      Accepts (.cascadeForward tk) s v p fun t =>
        t.casc.out = (match routeTo v (byteAt p.par 0) with
          | some (port, _) => [⟨0x0C, byteAt p.par 0, s.casc.tile.getD 0xFE, s.casc.txSeq.toNat, [port], .bytes (p.par.drop 4)⟩]
          | none => []) ∧
        t.casc.ackWait.length = s.casc.ackWait.length + 1)

/-- Immediate commands that change a unit's own registers (02 R40; 08 R244; 10 R315; 12 R388; 15 R461; 17 R494). What a LEVEL_CONVERT does
to its slot's queued request, and its delay, are the model's reading (log 40). -/
def Obligations.ImmediateCommandsAct : Prop :=
  ∀ (s : State) (tk : Tick) (p : Packet) (n : Nat), s.calm →
    let v := s.taken tk n
    let ok := fun (t : State) (data : List Byte) =>
      t.report = v.reportWith (replyOf s p 0 0 data) s.bench.outstanding.length
    let frame := [Comp.attn, .report, .pwr, .trk]
    (Serves s 0x59 p n → inSet .normal s = true → p.par.length = 6 → s.tally.unavailable = false → replyFits v 6 →
      Runs (.tallyMark tk) s fun t =>
        t.tally = (tallyBy 1 5 (leVal p.par) v).tally ∧ ok t (leBytes 4 t.tally.seq ++ leBytes 2 t.tally.epoch) ∧
        KeepsBut ([.tally, .record] ++ frame) v t) ∧
    (Serves s 0x5A p n → inSet .normal s = true → p.par.length = 6 →
      let value := fieldAt p.par 0 4 * 65536 + fieldAt p.par 4 2
      Runs (.calendarSet tk) s fun t =>
        t.time = { v.time with calOffset := (value : Int) - ((v.now.toNat / 128 : Nat) : Int), calendarSet := true } ∧
        t.tally = (timeMark 1 { v with time := t.time }).tally) ∧
    (Serves s 0x69 p n → inSet .normal s = true → p.par = [] → replyFits v 0 →
      Runs (.telemetryClear tk) s fun t =>
        t.tel = { v.tel with
          scheduled := 0, lostOverrun := 0, lostEcc := 0, withheld := 0, degraded := 0, fallbackTimed := 0, marginLow := 0
          eccCorrected := 0, tenonCrc := 0, tenonDropped := 0, scrubPasses := 0, marginMin := 100, clearedAt := v.now } ∧
        t.tally = (tallyBy 1 0xB04 0 v).tally ∧ ok t [] ∧ KeepsBut ([.tel, .tally, .record] ++ frame) v t) ∧
    (Serves s 0x70 p n → inSet .all s = true → p.par = [] → s.trust.failures < 3 → replyFits v 48 →
      Runs (.testChallenge tk) s fun t =>
        (∃ bs, t.trust = { v.trust with challenge := some (bs, v.now) } ∧ ok t bs ∧ bs.length = 48 ∧
          bs.take 8 = leBytes 8 Config.deviceId ∧ bs.drop 40 = leBytes 8 v.now.toNat) ∧
        KeepsBut ([.trust, .freeIdx] ++ frame) v t) ∧
    (Serves s 0x70 p n → inSet .all s = true → p.par = [] → 3 ≤ s.trust.failures → replyFits v 0 →
      Answers (.testChallenge tk) s v p 6 []) ∧
    (Serves s 0x06 p n → inSet .normal s = true → p.par = [] → s.pnat 0x40C = 0 → s.pwr.wakeCheck = false → replyFits v 0 →
      Runs (.hostSleep tk) s fun t => t.pwr.hostAsleep = true ∧ t.pwr.st = s.pwr.st ∧ ok t [] ∧ KeepsBut frame v t) ∧
    (Serves s 0x31 p n → inSet .normal s = true → s.part.hasLevel = true → p.par.length = 4 → byteAt p.par 3 = 1 →
      byteAt p.par 0 ≤ 15 → byteAt (s.lvlEntry (byteAt p.par 0)) 0 ≠ 0xFF →
      Runs (.levelConvert tk) s fun t =>
        t.lvl.queue = s.lvl.queue.filter (fun q => q.slot != byteAt p.par 0) ∧
        ∀ r, t.lvl.running = some r → r.req.slot = byteAt p.par 0 → r.stopReq = true) ∧
    (Serves s 0x31 p n → inSet .normal s = true → s.part.hasLevel = true → p.par.length = 4 → byteAt p.par 3 = 0 →
      byteAt p.par 2 ≤ 1 → byteAt p.par 0 ≤ 15 → byteAt (s.lvlEntry (byteAt p.par 0)) 0 ≠ 0xFF →
      Runs (.levelConvert tk) s fun t => ∃ q ∈ t.lvl.queue, q.slot = byteAt p.par 0 ∧ q.source = 0 ∧
        q.urgent = (byteAt p.par 2 == 1) ∧
        q.eligible = v.now + BitVec.ofNat 56 (fieldAt (v.lvlTrigger (byteAt p.par 0)) 4 2))

/-- Immediate commands of transitions: SCAN_PROFILE acts at the next frame start (04 R121); SCAN_STOP with nothing to stop (R122);
SET_POWER between ACTIVE and DOZE, and for the present state (08 R234); RESET arms the reset that its reply's pop takes, at
once or after the end of a frame in progress (12 R370); BUS_BRANCH waits for the job on the bus (13 R408). -/
def Obligations.TransitionCommandsAct : Prop :=
  ∀ (s : State) (tk : Tick) (p : Packet) (n : Nat), s.calm →
    let v := s.taken tk n
    let ok := fun (t : State) (data : List Byte) =>
      t.report = v.reportWith (replyOf s p 0 0 data) s.bench.outstanding.length
    (Serves s 0x12 p n → inSet .scanning s = true → p.par.length = 1 → s.casc.role = .standalone → byteAt p.par 0 ≤ 7 →
      v.profileFits (byteAt p.par 0) = true → replyFits v 8 →
      let w := { v with scan := { v.scan with nextProfile := some (byteAt p.par 0) } }
      let q := profileOf s.part s.params (byteAt p.par 0)
      let ticks := frameTicksOf s.part s.params s.linkRate q
      Runs (.scanProfile tk) s fun t => t.scan = w.scan ∧
        ok t (leBytes 4 ticks ++ activeBytes (resolveSet s.params ticks q w)) ∧
        KeepsBut [.attn, .report, .pwr, .trk, .scan] v t) ∧
    (Serves s 0x12 p n → inSet .scanning s = true → p.par.length = 1 → replyFits v 0 →
      7 < byteAt p.par 0 ∨ v.profileFits (byteAt p.par 0) = false → Answers (.scanProfile tk) s v p 4 []) ∧
    (Serves s 0x11 p n → inSet .active s = true → p.par.length = 1 → byteAt p.par 0 ≤ 1 → s.scan.phase = .stopped →
      replyFits v 0 → Answers (.scanStop tk) s v p 0 []) ∧
    (Serves s 0x05 p n → inSet .normal s = true → p.par.length = 2 → s.trust.boundary = false → s.scan.phase = .frames →
      s.casc.role = .standalone → replyFits v 0 →
      (byteAt p.par 0 = s.pwr.st.toNat → (byteAt p.par 0 = 2 → s.dozeOk = true) →
        (byteAt p.par 0 = 3 ∨ byteAt p.par 0 = 2) → Answers (.setPower tk) s v p 0 []) ∧
      (s.pwr.st = 3 → byteAt p.par 0 = 2 → s.dozeOk = true → Runs (.setPower tk) s fun t =>
        t.pwr.next = some (2, 0, s.pnat 0x408) ∧ ok t [] ∧ KeepsBut [.attn, .report, .pwr, .trk] v t) ∧
      (s.pwr.st = 2 → byteAt p.par 0 = 3 → byteAt p.par 1 ≤ 1 → Runs (.setPower tk) s fun t =>
        t.pwr.next = some (3, 0, if byteAt p.par 1 = 1 then s.pnat 0x111 else s.scan.nextProfile.getD s.scan.profile) ∧ ok t [] ∧
        KeepsBut [.attn, .report, .pwr, .trk] v t)) ∧
    (Serves s 0x04 p n → inSet .all s = true → p.par.length = 1 → byteAt p.par 0 ≤ 2 → s.scan.phase = .stopped → replyFits v 0 →
      Runs (.reset tk) s fun t => t.bench.resetArmed = some (byteAt p.par 0, some v.now) ∧
        t.report = v.reportWith { replyOf s p 0 0 [] with mark := .resetReply (byteAt p.par 0) } s.bench.outstanding.length ∧
        KeepsBut [.attn, .report, .pwr, .trk, .bench] v t) ∧
    (Serves s 0x04 p n → inSet .all s = true → p.par.length = 1 → byteAt p.par 0 ≤ 2 → s.scan.phase = .frames →
      s.scan.stage ≠ .none → s.scan.stage ≠ .written →
      let reply := { replyOf s p 0 0 [] with mark := .resetReply (byteAt p.par 0) }
      Runs (.reset tk) s fun t => t.bench.resetArmed = some (byteAt p.par 0, none) ∧ t.bench.owed = some reply ∧ t.report = v.report ∧
        (∀ e, parkAt v = some e → t.bench.parkDue = some (s.bench.parkDue.getD e) ∧ t.scan = v.scan) ∧
        (parkAt v = none → t.bench.parkDue = s.bench.parkDue ∧ t.scan = { v.scan with phase := .stopping }) ∧
        KeepsBut [.attn, .bench, .scan] v t) ∧
    (Serves s 0x04 p n → inSet .all s = true → p.par.length = 1 → 2 < byteAt p.par 0 → replyFits v 0 →
      Answers (.reset tk) s v p 4 []) ∧
    (Serves s 0x42 p n → inSet .normal s = true → p.par.length = 1 → byteAt p.par 0 ≤ 1 → s.bus.job.isSome = true →
      replyFits v 0 →
      Runs (.busBranch tk) s fun t => t.bus = { v.bus with branchDue := v.bus.branchDue ++ [byteAt p.par 0] } ∧ ok t [] ∧
        KeepsBut [.attn, .report, .pwr, .trk, .bus] v t)

/-- Replies wait for room and records for theirs (11 R343): held replies are written in order while they fit, the oldest queued
record when it fits, and Bench takes no packet while a reply is held. -/
def Obligations.RecordsWaitForRoom : Prop :=
  ∀ (s : State) (tk : Tick), s.calm → s.pwr.pd1 = true →
    let u := s.entered tk
    (∀ r, s.bench.held = [r] → r.kind ≠ 2 → r.opcode ≠ 6 → r.mark = .plain → s.reportFits r.size = true →
      Runs (.heldReplyWrite tk) s fun t => t.bench = { s.bench with held := [] } ∧
        t.report = s.reportWith r s.bench.outstanding.length ∧ KeepsBut [.attn, .report, .pwr, .trk, .bench] u t) ∧
    (∀ r rest, s.bench.held = r :: rest → s.reportFits r.size = false →
      (Runs (.heldReplyWrite tk) s fun t => KeepsBut [.attn] u t) ∧ benchOpen s = false) ∧
    (∀ bs rest, s.bench.faultQueue = bs :: rest → s.reportFits bs.length = true →
      Runs (.queuedRecordWrite tk) s fun t => t.bench = { s.bench with faultQueue := rest } ∧
        t.report = s.report.put s.reportSize ⟨bs, .plain⟩ ∧ KeepsBut [.attn, .report, .pwr, .trk, .bench] u t) ∧
    (∀ bs rest, s.bench.faultQueue = bs :: rest → s.reportFits bs.length = false →
      Runs (.queuedRecordWrite tk) s fun t => KeepsBut [.attn] u t)

/-- The completions of deferred commands write their final replies (12 R359, R364): ATTEST with its 224-byte statement (15 R457), the
update session (14 R437, R438), REFERENCE_SAVE (14 R439), TALLY_READ (16 R484), SELFTEST (12 R388), TEST_UNLOCK (15 R461), IMAGE_SNAPSHOT
(12 R381), CASCADE_PLAN (09 R294), CASCADE_FORWARD's timeout (09 R295) and BUS_BRANCH's power cycle (13 R408). SCAN_STOP mode 1: at the parking the frame is discarded, scanning has ended with PD2 off, Tally records event 0x0104, and the reply
that waited is written (04 R122, R123). -/
def Obligations.CompletionsReplyAndParkingEnds : Prop :=
  (∀ (s : State) (tk : Tick) (d : Deferred), s.calm →
      let u := s.entered tk
      let frame := [Comp.attn, .report, .pwr, .trk, .bench]
      let due := fun (op n : Nat) => s.outstanding op = some d ∧ d.opcode = op ∧ writesNow s n ∧ s.atTurn d
      (due 0x02 224 → s.verifying = false → s.mem.headerDigest.length = 32 → ∃ sig : List Byte, sig.length = 64 ∧
        Finishes (.attestComplete tk) s u d 0 (attestBody u (slice d.par 0 32) ++ sig) (KeepsBut (.freeIdx :: frame) u)) ∧
      (∀ slot len got f, due 0x52 1 → portServes u .update = true → s.mem.session = .opened slot len got f →
        Finishes (.updateBeginComplete tk .ok) s u d 0 (leBytes 1 slot) fun t =>
          t.mem.session = .opened slot len got false ∧ KeepsBut (.mem :: frame) u t) ∧
      (∀ slot len got, due 0x53 4 → portServes u .update = true → s.mem.session = .opened slot len got false →
        let off := fieldAt d.par 0 4
        Finishes (.updateChunkComplete tk .ok) s u d 0 (leBytes 4 (off + (d.par.length - 4))) fun t =>
          t.mem.flash.slots = s.mem.flash.slots.set slot (slice (s.slotBytes slot) 0 off ++ d.par.drop 4) ∧
          KeepsBut (.mem :: frame) u t) ∧
      (∀ slot len f, due 0x54 8 → portServes u .update = true → s.verifying = false → s.mem.session = .committing slot len f → imgVerdict s.part s.trust (s.slotBytes slot) = 0 →
        Finishes (.updateCommitComplete tk .ok .ok) s u d 0 (commitData slot (s.slotBytes slot)) fun t =>
          t.mem.session = .closed ∧ t.mem.slotState = s.mem.slotState.set slot 1) ∧
      (∀ slot img rest, due 0x19 8 → portServes u .referenceSave = true → s.mem.saving = (slot, img) :: rest →
        ceilDiv img.length 4096 ≤ (sectorsFrom (refSectors s slot) (nextStart s slot) (ceilDiv img.length 4096)).length →
        nextSnapPlace s ≠ none →
        Finishes (.referenceSaveComplete tk []) s u d 0 (saveData slot img img.length) fun t => t.mem.saving = rest) ∧
      (∀ rs, rs = searchRecords s [] (fieldAt d.par 0 2) (fieldAt d.par 4 4) (fieldAt d.par 8 2) →
        due 0x58 (2 + 16 * rs.length) → s.tally.unavailable = false →
        Finishes (.tallyReadComplete tk []) s u d 0 (leBytes 1 rs.length ++ [0] ++ rs.flatMap TallyRec.bytes)
          (KeepsBut (.mem :: frame) u)) ∧
      (∀ failed : BitVec 16, due 0x72 4 → s.part.hasLevel = true → fieldAt d.par 0 2 / 2 % 2 = 0 →
        let ran : BitVec 16 := BitVec.ofNat 16 (fieldAt d.par 0 2)
        Finishes (.selftestComplete tk failed []) s u d (if selfFailed u failed [] &&& ran = 0 then 0 else 14)
          (leBytes 2 ran.toNat ++ leBytes 2 (selfFailed u failed [] &&& ran).toNat) (KeepsBut frame u)) ∧
      (∀ c rest, due 0x71 0 → s.verifying = false → s.trust.answered = c :: rest →
        (unlockReason u c d.par = 0 → Finishes (.testUnlockComplete tk) s u d 0 [] fun t =>
          t.trust = { s.trust with answered := rest, unlocked := true, unlockedEver := true } ∧
          KeepsBut ([.trust, .tally, .record] ++ frame) u t) ∧
        (unlockReason u c d.par ≠ 0 → Finishes (.testUnlockComplete tk) s u d 7 [] fun t =>
          t.trust = { s.trust with answered := rest, failures := s.trust.failures + 1 } ∧
          KeepsBut ([.trust, .tally, .record] ++ frame) u t)) ∧
      (∀ q rest, due 0x29 6 → s.bench.snaps = q :: rest → ¬ (bitAt q.left s.ownTile = true ∧ s.scan.stage = .tracked) →
        Finishes (.imageSnapshotComplete tk) s u d (snapStatus q) (leBytes 4 q.count ++ leBytes 2 q.written) fun t =>
          t.bench.snaps = rest ∧ KeepsBut frame u t) ∧
      (due 0x49 2 → s.casc.nextPlan = none → s.casc.redo = false → s.casc.enumT = none → s.casc.closedT = none →
        Finishes (.cascadePlanComplete tk) s u d 0 (leBytes 2 s.casc.planId.toNat) (KeepsBut frame u)) ∧
      (∀ tag : Byte, writesNow s 0 → s.atTurn d → s.running.find? (fun d => d.opcode == 0x4A && d.tag == tag.toNat) = some d → d.opcode = 0x4A →
        reached u.now (d.t + BitVec.ofNat 56 8388608) = true →
        Finishes (.cascadeForwardTimeout tk tag) s u d 9 [] (KeepsBut frame u)) ∧
      (∀ st, writesNow s 0 → s.atTurn d → s.bus.branchDone = some st → s.running.filter (fun d => d.opcode == 0x42) = [d] → d.opcode = 0x42 →
        Finishes (.busBranchCycleComplete tk) s u d st [] fun t =>
          t.bus = { s.bus with branchDone := none } ∧ KeepsBut (.bus :: frame) u t)) ∧
  (∀ (s : State) (tk : Tick) (due : Time) (r : Reply), s.calm → writesNow s 0 → s.bench.parkDue = some due →
      reached (s.entered tk).now due = true → s.bench.owed = some r → r.opcode = 0x11 → r.kind = 0 → r.mark = .plain → r.data = [] →
      s.bench.outstanding.all (fun d => d.opcode != 0x11) = true →
      let u := s.entered tk
      Runs (.scanStopPark tk) s fun t =>
        t.scan.phase = .stopped ∧ t.scan.stage = .none ∧ t.pwr.pd2 = false ∧ t.front.pumpSettled = false ∧
        t.trk.contacts = [] ∧ t.bench.parkDue = none ∧ t.bench.owed = none ∧
        t.tally = (tallyBy 1 0x104 (d48 [(32, s.scan.frameCount.toNat)]) u).tally ∧
        t.report = u.reportWith r s.bench.outstanding.length)
/-! ## Time (chapter 02) -/

/-- A beat edge (02 R30, R32, R36, R37): T goes to the next beat with tick 0; the first edge after the Story Pole is on starts its
measurement, the next places ticks; each count in range becomes N, and one out of range keeps N and sets the fault with event 6. From a
declared loss to the end of the frame N is held (R26). -/
def Obligations.BeatEdgesMeasure : Prop :=
  ∀ (count : Nat) (s : State), s.calm →
    Runs (.beatEdge count) s fun t =>
      t.time.t.toNat = (s.time.t.toNat / 256 + 1) * 256 % 2 ^ 56 ∧
      (let held := s.time.takeoverDue = true ∧ ({ s with time := t.time }).midFrame = true
       let measures := s.time.stage = .measuring ∨ (s.time.stage = .placed ∧ ¬ held)
      (s.time.stage = .off → t.time = { s.time with t := t.time.t, place := 0 }) ∧
      (s.time.stage = .waitEdge → t.time = { s.time with t := t.time.t, place := 0, stage := .measuring }) ∧
      (s.time.stage = .placed → held → t.time = { s.time with t := t.time.t, place := 0 }) ∧
      (¬ measures → KeepsBut [.time, .casc, .lvl, .attn] s t) ∧
      (measures → 262144 ≤ count → count < 2 ^ 20 →
        t.time = { s.time with
          t := t.time.t, place := 0, stage := .placed, n := BitVec.ofNat 20 count
          inRange := if s.time.poleFault then s.time.inRange + 1 else 0 } ∧
        KeepsBut [.time, .casc, .lvl, .attn] s t) ∧
      (measures → count < 262144 ∨ 2 ^ 20 ≤ count →
        t.time = { s.time with t := t.time.t, place := 0, stage := .placed, poleFault := true, inRange := 0 } ∧
        t.tally = (tally 6 (d48 [(24, if 2 ^ 20 ≤ count then 0xFFFFFF else count)]) { s with time := t.time }).tally ∧
        KeepsBut [.time, .casc, .lvl, .attn, .tally, .record, .trk] s t))

/-- The time sources (02 R25, R26, R27, R32, R61; 10 R317): the fault of the Story Pole clears after 16 beats in range; a source declared
running takes over at a frame boundary; its loss sets TIMEBASE_FAULT at once, abandons a Level conversion, whose request goes back to
the head of the queue; a member stops driving at the end of the pass; the fallback oscillator takes over at a frame boundary. A
master whose crystal runs drives CLK32_IO (R60). -/
def Obligations.TimeSourcesChange : Prop :=
  ∀ (s : State) (tk : Tick), s.calm →
    let u := s.entered tk
    let lost := fun (cause : BitVec 3) => { u.time with
      declared := false, takeoverDue := s.time.crystalRunning, crystalRunning := false, cascadeLocked := false
      sourceFault := true, sourceCause := cause }
    let back := fun (r : LvlRun) => { r.req with ready := true, urgent := true } :: s.lvl.queue
    (s.time.poleFault = true → 16 ≤ s.time.inRange →
      Runs (.storyPoleFaultClear tk) s fun t =>
        t.time = { u.time with poleFault := false, inRange := 0 } ∧ KeepsBut [.time, .attn] u t) ∧
    (s.casc.role ≠ .member → s.ownSource = false →
      Runs (.crystalDeclaredRunning tk) s fun t =>
        t.time = { u.time with declared := true, clk32 := s.time.clk32 || s.casc.role == .master } ∧ KeepsBut [.time, .attn] u t) ∧
    (s.casc.role = .member → s.ownSource = false →
      Runs (.clk32DeclaredRunning tk) s fun t => t.time = { u.time with declared := true } ∧ KeepsBut [.time, .attn] u t) ∧
    (s.time.declared = true → u.midFrame = false →
      Runs (.crystalSwitch tk) s fun t =>
        t.time = { u.time with
          declared := false, takeoverDue := false, crystalRunning := true, sourceFault := false, sourceCause := 0
          lastSwitch := some u.now, cascadeLocked := s.casc.role == .member } ∧ KeepsBut [.time, .attn] u t) ∧
    (s.time.takeoverDue = true → u.midFrame = false →
      Runs (.fallbackTakeover tk) s fun t => t.time = { u.time with takeoverDue := false } ∧ KeepsBut [.time, .attn] u t) ∧
    (s.casc.role ≠ .member → s.ownSource = true ∨ s.time.declared = true →
      (s.lvl.running = none → Runs (.crystalLost tk) s fun t => t.time = lost 2 ∧ KeepsBut [.time, .attn] u t) ∧
      (∀ r, s.lvl.running = some r → Runs (.crystalLost tk) s fun t =>
        t.time = lost 2 ∧ t.lvl = { s.lvl with running := none, tooFast := false, queue := back r } ∧
        t.tally = (tally 0x608 (d48 [(8, r.req.slot)]) { u with time := lost 2 }).tally ∧
        KeepsBut [.time, .attn, .lvl, .tally, .record, .trk] u t)) ∧
    (s.casc.role = .member → s.ownSource = true ∨ s.time.declared = true → s.lvl.running = none →
      Runs (.clk32Lost tk) s fun t =>
        t.time = lost 4 ∧ t.casc = { u.casc with syncLocked := false, syncLost := false } ∧
        (passEnd u = none → t.scan = { s.scan with phase := .stopped, stage := .none }) ∧
        (∀ e, passEnd u = some e → reached u.now e = false → t.scan = { s.scan with stopAt := some e }) ∧
        KeepsBut [.time, .attn, .scan, .casc] u t)

/-! ## The front end and the scan (chapters 03 and 04) -/

/-- Lines leave service and return (03 R71, R87, R89, R91): a confirmed fault acts at once outside a frame and else at the next
boundary; a returned line is healthy; overcurrent excludes its line in the present frame; each writes its record and its event. Self values (03 R73, R80): 10.0 pF times the ratio of the sums of 8 raw chips to the reference's in units of 1/64 pF, halves up; 0xFFFF with a chip beyond
3,072 pC (R76);
a guard deviation above 50 keeps the old ones, with a record of cause 10 and event 0x030B. -/
def Obligations.LinesAndSelfValues : Prop :=
  (∀ (s : State) (tk : Tick), s.calm → recordsNow s →
      let u := s.entered tk
      (∀ w c q : Nat, faultDue u w = some (c, q) →
        Runs (.lineFaultConfirmed tk w c q) s fun t =>
          (u.midFrame = true → (t.line w).nextCause = c ∧ (t.line w).cause = (s.line w).cause) ∧
          (u.midFrame = false → (t.line w).cause = c ∧ (t.line w).nextCause = 0) ∧
          t.report = u.reportPlus (lineBytes u c w q) ∧
          t.tally = (tally (lineCode c) (d48 [(16, w), (16, q), (8, s.tileNo)]) u).tally ∧
          KeepsBut (.front :: recordComps) u t) ∧
      (∀ w : Nat, (s.line w).cause ≠ 0 → 3 ≤ (s.line w).passes → s.prof.selfPass = false ∨ (s.line w).openNow = false →
        u.midFrame = false →
        Runs (.lineReturn tk w) s fun t =>
          t.line w = { LineSt.healthy with forced := (s.line w).forced } ∧
          (∀ v, v ≠ w → t.line v = s.line v) ∧
          t.report = u.reportPlus (lineBytes u 7 w 0xFFFF) ∧
          t.tally = (tally 0x305 (d48 [(16, w), (8, s.tileNo)]) u).tally ∧
          KeepsBut (.front :: .base :: recordComps) u t) ∧
      (∀ w : Nat, w < s.front.driveCount → u.midFrame = true → (s.line w).out = false →
        Runs (.driveOvercurrent tk w) s fun t =>
          (t.line w).cause = 6 ∧ (t.line w).underTest = true ∧
          t.scan = { s.scan with
            overRows := s.logicalOf w :: s.scan.overRows, passes := s.scan.passes.map (dropRow (s.logicalOf w) s) } ∧
          t.report = u.reportPlus (lineBytes u 6 w 0xFFFF) ∧
          t.tally = (tally 0x308 (d48 [(16, w), (16, 0xFFFF), (8, s.tileNo)]) u).tally ∧
          KeepsBut (.front :: .scan :: recordComps) u t)) ∧
  (∀ (s : State) (tk : Tick) (drive sense : List SelfMeas) (dev : Nat), s.calm → s.scan.stage = .started →
      s.prof.selfPass = true →
      let u := s.entered tk
      let limit := 3072 * 128
      let sum := fun (qs : List Int) => sumInt ((qs.take 8).map (clampInt (-(limit : Int)) limit))
      let saturates := fun (m : SelfMeas) => (m.line.take 8).any (fun q => decide (limit < q.natAbs))
      let value := fun (m : SelfMeas) => (clampInt 0 0xFFFF (roundUpHalf (640 * sum m.line) (sum m.ref).natAbs)).toNat
      (dev ≤ 50 → s.front.driveCount ≤ drive.length → s.front.senseCount ≤ sense.length →
        Runs (.selfPassComplete tk drive sense dev) s fun t =>
          t.front.selfValid = s.prof.guard ∧
          (∀ y < s.front.driveCount, s.rowOk y = true → ∀ m, drive[s.driveWord y]? = some m →
            (saturates m = true → t.front.selfDrive[y]? = some ⟨0xFFFF, false⟩) ∧
            (saturates m = false → 0 < sum m.ref → t.front.selfDrive[y]? = some ⟨value m, false⟩)) ∧
          (∀ x < s.front.senseCount, s.colOk x = true → ∀ m, sense[s.senseWord x - 0x8000]? = some m →
            (saturates m = true → t.front.selfSense[x]? = some ⟨0xFFFF, false⟩) ∧
            (saturates m = false → 0 < sum m.ref → t.front.selfSense[x]? = some ⟨value m, false⟩)) ∧
          KeepsBut [.front, .attn, .freeIdx] u t) ∧
      (50 < dev → recordsNow s →
        Runs (.selfPassComplete tk drive sense dev) s fun t =>
          t.front = { s.front with selfValid := false } ∧
          t.report = u.reportPlus ([8, 3, 10] ++ leBytes 1 s.tileNo ++ List.replicate 8 0xFF ++ leBytes 4 u.low32) ∧
          t.tally = (tally 0x30B (d48 [(16, dev)]) u).tally ∧
          KeepsBut (.front :: .freeIdx :: recordComps) u t))

/-- The rail, the pump and the thermal clamp (03 R66, R67; 18 R507; 19 R518, R519, R520): VDRV serves again after 64 good gaps, a pump that
does not settle leaves level 0, and the clamp and the warnings are set and cleared with their records. -/
def Obligations.RailsAndWarnings : Prop :=
  ∀ (s : State) (tk : Tick), s.calm →
    let u := s.entered tk
    (s.front.vdrvFallback = true ∨ s.front.fallbackDue = true → 64 ≤ s.front.vdrvGood →
      Runs (.vdrvRestore tk) s fun t =>
        t.front = { s.front with vdrvFallback := false, fallbackDue := false, vdrvGood := 0 } ∧
        t.scan = { s.scan with nextLevel := t.scan.nextLevel } ∧ KeepsBut [.front, .scan, .attn] u t) ∧
    (s.pwr.pd2 = true → s.front.driveSource = 1 → s.front.pumpSettled = false → s.scan.phase = .frames → s.bench.owed = none →
      Runs (.pumpSettled tk) s fun t =>
        t.front = { s.front with pumpSettled := true, vdrvFallback := false } ∧ KeepsBut [.front, .attn] u t) ∧
    (s.pwr.pd2 = true → s.front.driveSource = 1 → s.front.pumpSettled = false → s.front.vdrvFallback = false → s.bench.owed = none →
      s.scan.phase = .waitPump →
      Runs (.pumpStartTimeout tk) s fun t =>
        t.front = { s.front with vdrvFallback := true } ∧ t.levels = [0] ∧
        t.scan = { s.scan with
          phase := if detectWanted u then .waitDetect else .waitFrame
          detectT := if detectWanted u then some u.now else s.scan.detectT } ∧
        (∃ mv, t.tally = (tally 0x402 (d48 [(16, mv)]) u).tally) ∧
        KeepsBut (.front :: .scan :: .freeIdx :: tallyComps) u t) ∧
    (s.boot.thermalClamp = true → 64 ≤ s.boot.coolGaps → recordsNow s →
      Runs (.thermalClampClear tk) s fun t =>
        t.boot = { s.boot with thermalClamp := false } ∧ t.report = u.reportPlus (supplyBytes u 3 false) ∧
        (s.prof.ampAuto = true → t.scan = s.scan) ∧ KeepsBut (.boot :: .scan :: recordComps) u t) ∧
    (∀ set : Bool, s.boot.vddLow = !set → s.attnOn = true → recordsNow s →
      Runs (if set then .vddLowWarningSet tk else .vddLowWarningClear tk) s fun t =>
        t.boot = { s.boot with vddLow := set } ∧ t.report = u.reportPlus (supplyBytes u 1 set) ∧
        KeepsBut (.boot :: recordComps) u t)

/-- Passes and their decoding (04 R95, R97, R102, R106; 03 R74, R76): a pass begins at its instant with its number; a Dovetail output
gives each usable node of a standalone tile the transform of its column's clamped chips on its row's code, a chip being the charge of the
first half-window less that of the second; the last output decides. The drive waveform (03 R68 to R70): a line whose bit is +1 is high
in the first half of the chip and low in the second, one whose bit is −1 the reverse, once the edge is over, and the edge is no longer
than k/8 unless that is less than a tick. How an edge with recycling splits is the model's choice (log 79). -/
def Obligations.PassesAreDecoded : Prop :=
  (∀ (recycle : Bool) (want k r n o : Nat), 16 ≤ k → o < k →
    let e := edgeTime want k
    (e = 1 ∨ ((e = 2 ∨ e = 4) ∧ e ≤ want ∧ 8 * e ≤ k)) ∧
    (e ≤ o → o < k / 2 → codeOut recycle want k r n o = if codeBit r n = 1 then .high else .low) ∧
    (k / 2 + e ≤ o → codeOut recycle want k r n o = if codeBit r n = 1 then .low else .high) ∧
    (o < k / 2 → levelBefore r n = firstHalf r n → codeOut recycle want k r n o = if codeBit r n = 1 then .high else .low) ∧
    (recycle = true → (2 * o < e ∧ levelBefore r n ≠ firstHalf r n) ∨ (k / 2 ≤ o ∧ 2 * (o - k / 2) < e) →
      codeOut recycle want k r n o = .bus)) ∧
  ∀ (s : State) (tk : Tick) (index : Nat) (charge : List (List ChipCharge)), s.calm → s.scan.stage = .started →
    let u := s.entered tk
    let k := s.passK index
    (s.casc.role = .standalone → (passNow u index = true ↔ u.now = s.scan.frameT + BitVec.ofNat 56 (s.passStart index))) ∧
    (index = s.scan.passesStarted → index < s.prof.passes → s.bench.parkDue = none → s.scan.stopAt = none → passNow u index = true →
      Runs (.mutualPassStart tk index) s fun t =>
        t.scan = { s.scan with passesStarted := index + 1, passTs := s.scan.passTs ++ [u.now] } ∧ t.casc = { u.casc with passNext := none } ∧
        KeepsBut [.scan, .casc, .attn] u t) ∧
    (index = s.scan.passes.length → index < s.scan.passesStarted → s.casc.role = .standalone →
      Runs (.dovetailOutput tk index charge) s fun t =>
        t.scan.passes.length = s.scan.passes.length + 1 ∧ t.scan.passes.dropLast = s.scan.passes ∧
        (∀ p, t.scan.passes.getLast? = some p → p.index = index ∧ p.k = k ∧
          ∀ x < s.front.senseCount, s.colOk x = true →
            let raw := (charge.getD (s.senseWord x - 0x8000) []).map fun c => c.plus - c.minus
            let chips := raw.map fun q => clampInt (-(3072 * k : Nat)) (3072 * k : Nat) q
            p.sat[x]? = some (raw.any fun q => decide (3072 * k < q.natAbs)) ∧
            ∀ y < s.front.driveCount, s.rowOk y = true → ∀ r, (interiorRows s.len s.front.driveCount)[y]? = some r →
              let sum := sumInt ((List.range s.len).map fun n =>
                (if popcount 8 (r &&& n) % 2 = 0 then 1 else -1) * chips.getD n 0)
              (p.value.getD x [])[y]? = some (some (clampInt (-8388608) 8388607
                (Int.fdiv (sum + (s.len / 2 : Nat)) (s.len : Int)))) ∧
              (p.interp.getD x [])[y]? = some false) ∧
        (index + 1 ≠ s.prof.passes → t.scan.stage = .started ∧ KeepsBut [.scan, .front, .attn] u t) ∧
        (index + 1 = s.prof.passes → t.scan.stage = .decoded ∧
          (s.scan.noiseAlarm = false → t.scan.noiseAlarm = (enabledOf s.part s.scan.latched).all fun c =>
            match t.scan.metrics.getD c none with | some v => decide (s.fnat 0x113 < v) | none => false) ∧
          (s.fnat 0x112 ≠ 1 → t.scan.slotChange = s.scan.slotChange ∧ t.scan.confirm = s.scan.confirm) ∧
          (s.prof.ampAuto = false → t.scan.nextLevel = s.scan.nextLevel) ∧
          KeepsBut ([.scan, .front] ++ tallyComps) u t))

/-- The scheduler's steps (04 R102, R110 to R114, R120; 02 R48, R58; 03 R83, R86): the end of the alarm, a slot's change, a probe, the full line
check, the detection pass, which R73 can make invalid, and a slot that finds its frame's records unfinished. -/
def Obligations.SchedulerSteps : Prop :=
  ∀ (s : State) (tk : Tick), s.calm →
    let u := s.entered tk
    (s.scan.noiseAlarm = true → s.scan.alarmClearDue = true →
      Runs (.noiseAlarmClear tk) s fun t =>
        t.scan = { s.scan with noiseAlarm := false, quietRun := 0, alarmClearDue := false } ∧
        t.tally = (tally 0x102 (d48 [(16, lowestMetric u (decisionMetrics u))]) u).tally ∧
        KeepsBut (.scan :: tallyComps) u t) ∧
    (∀ slot cand : Nat, s.scan.slotChange = some (slot, cand) → s.scan.stage = .none ∨ s.scan.stage = .written → u.midFrame = false →
      Runs (.activeSlotChange tk) s fun t =>
        t.scan = { s.scan with activeSet := s.scan.activeSet.set slot cand, slotChange := none } ∧
        KeepsBut [.scan, .attn] u t) ∧
    (∀ (charge : List (List ChipCharge)) (c x : Nat), s.scan.stage ≠ .none → s.scan.stage ≠ .started → s.scan.probed = false → s.scan.gapDone = false →
      s.fnat 0x116 ≠ 0 → probeCandidate s = some c → x < s.front.senseCount → s.colOk x = true →
      reached u.now (tAdd s.scan.frameT (s.gapBegan + 2048 + 32 * periodOf s.part s.scan.latched c)) = true →
      Runs (.probe tk charge) s fun t =>
        let cols := ((List.range s.front.senseCount).filter s.colOk).map (s.chipsOf charge)
        let sigma := probeNoise (periodOf s.part s.scan.latched c) s.len cols
        t.scan = { s.scan with
          metrics := s.scan.metrics.set c (updateMetric (s.scan.metrics.getD c none) sigma), probed := true
          probeNext := (c + 1) % 16 } ∧ KeepsBut [.scan, .attn] u t) ∧
    (∀ tests : List LineTest, s.front.lineChecked = false → s.boot.phase = .done → s.link.mode ≠ 2 → s.pwr.pd1 = true →
      s.casc.role ≠ .member → s.scan.phase = .stopped →
      Runs (.fullLineCheckComplete tk tests) s fun t => t.front.lineChecked = true ∧
        KeepsBut (.front :: recordComps) u t ∧
        ∀ w a b : Nat, s.front.lines = [] → w ∈ s.usedLines → tests = [⟨w, a, b, []⟩] →
          (a < 450 → (t.line w).cause = 1) ∧ (450 ≤ a → 1350 < b → (t.line w).cause = 2) ∧
          (450 ≤ a → b ≤ 1350 → (t.line w).cause = 0)) ∧
    (∀ (drive sense : List SelfMeas) (dev : Nat), s.scan.phase = .waitDetect → s.casc.role = .standalone → s.bench.owed = none →
      (dev ≤ 50 → Runs (.detectionSelfPass tk drive ⟨sense, dev⟩) s fun t =>
        t.scan = { s.scan with phase := .waitFrame } ∧
        (s.pnat 0xC02 ≠ 2 → t.front.driveRev = (s.pnat 0xC02 == 1)) ∧
        (s.pnat 0xC03 ≠ 2 → t.front.senseRev = (s.pnat 0xC03 == 1)) ∧
        KeepsBut ([.scan, .front, .freeIdx] ++ tallyComps) u t) ∧
      (50 < dev → recordsNow s → Runs (.detectionSelfPass tk drive ⟨sense, dev⟩) s fun t =>
        t.scan = { s.scan with phase := .waitFrame } ∧
        t.report = u.reportPlus ([8, 3, 10] ++ leBytes 1 s.tileNo ++ List.replicate 8 0xFF ++ leBytes 4 u.low32) ∧
        t.tally = (tally 0x30B (d48 [(16, dev)]) u).tally ∧ KeepsBut (.scan :: recordComps) u t)) ∧
    (s.scan.phase = .frames → s.scan.stage = .decoded ∨ s.scan.stage = .combined ∨ s.scan.stage = .tracked →
      let next := s.scan.slotT + BitVec.ofNat 56 s.scan.frameTicks
      reached u.now next = true →
      Runs (.frameSlotSkip tk) s fun t =>
        t.scan = { s.scan with slotT := next } ∧
        t.tel = (if s.pwr.st = 3 then { s.tel with
          scheduled := satAt 0xFFFFFFFF (s.tel.scheduled + 1), lostOverrun := satAt 0xFFFFFFFF (s.tel.lostOverrun + 1)
          today := (s.tel.today.1 + 1, s.tel.today.2 + 1) } else s.tel) ∧
        KeepsBut [.scan, .tel, .attn] u t)

/-- A frame start (04 R102, R112, R113, R121, R126; 02 R47; 08 R233): its counter, instant, profile and parameters, nothing left of the frame
before, and the transition that waits, but for one to DOZE that sleep or idle time asked for and doze_profile no longer admits (08 R544);
the first frame of a start finishes SCAN_START with OK, frame_ticks and the active set (R120). -/
def Obligations.AFrameStarts : Prop :=
  ∀ (s : State) (tk : Tick) (t0 : Time), s.casc.role = .standalone → s.pwr.entry = none → s.pwr.checkFailed = false →
    s.pwr.sleepDue = false → s.casc.redo = false → s.scan.stopAt = none → s.bench.owed = none → frameDue (s.entered tk) = some t0 →
    let barred := s.scan.phase ≠ .waitFrame ∧ s.dozeOk = false ∧ ∃ c p, s.pwr.next = some (2, c, p) ∧ (c = 7 ∨ c = 8)
    ∀ due, (barred → due = none) → (¬ barred → due = s.pwr.next) →
    Runs (.frameStart tk) s fun t =>
      t.scan.frameCount = s.scan.frameCount + 1 ∧ t.scan.frameT = t0 ∧ t.scan.slotT = t0 ∧ t.scan.phase = .frames ∧
      t.scan.stage = .started ∧ t.scan.passes = [] ∧ t.scan.passesStarted = 0 ∧ t.scan.gapDone = false ∧
      t.scan.latched = s.params ∧ t.scan.nextProfile = none ∧
      t.scan.profile = (match due with | some (_, _, p) => p | none => s.scan.nextProfile.getD s.scan.profile) ∧
      t.scan.frameTicks = nextTicks (s.scan.phase == .waitFrame) { s with pwr := { s.pwr with next := due } } ∧ t.scan.timeValid = !s.tbFault ∧
      t.scan.slotChange = none ∧ t.scan.namedSet = none ∧ t.scan.nextLevel = none ∧
      t.pwr.next = none ∧ t.pwr.st = (match due with | some (st, _, _) => BitVec.ofNat 2 st | none => s.pwr.st) ∧
      t.params = s.params ∧
      (∀ d, s.outstanding 0x10 = some d → s.scan.phase = .waitFrame → d.opcode = 0x10 → s.atTurn d → writesNow s 8 →
        let rest := s.bench.outstanding.filter fun e => e.tag != d.tag
        let r : Reply := ⟨d.tag, 0x10, 0, 2, d.seq, leBytes 4 t.scan.frameTicks ++ activeBytes t.scan.activeSet, .plain⟩
        t.bench.outstanding = rest ∧ t.report = (s.entered tk).reportWith r rest.length)

/-- The housekeeping gap (17 R488, R491; 19 R518; 02 R54; 06 R175; 03 R67): once after each frame, with its readings, comparators,
scrubber and VCORE step, which keeps 8 beats clear of the next frame's first code chip (02 R33). A pending step of the level is
measured at the level it goes to (04 R117). That a die reading between two steps of 1/16 degree reads the lower one is the model's choice
(log 78). -/
def Obligations.TheGapRunsItsTasks : Prop :=
  ∀ (s : State) (tk : Tick) (inp : GapIn), s.calm → s.scan.stage = .written → s.scan.gapDone = false →
    let at1 := s.tel.scrubAt + s.pnat 0xB00
    let size := 128 * s.part.nodeKib
    let now := (s.entered tk).now
    let clear := s.scan.phase = .frames → reached (s.scan.slotT + BitVec.ofNat 56 s.scan.frameTicks) (now + 2048) = true
    Runs (.housekeepingGap tk inp) s fun t =>
      t.scan.gapDone = true ∧ t.boot.tj = inp.tj ∧
      t.boot.coolGaps = (if inp.tj < 25600 then s.boot.coolGaps + 1 else 0) ∧
      t.boot.thermalWarn = (decide (25600 ≤ inp.tj) || (s.boot.thermalWarn && decide (24320 ≤ inp.tj))) ∧
      t.boot.thermalClamp = (s.boot.thermalClamp || decide (29440 ≤ inp.tj)) ∧
      (s.base.dieRead = none → t.base.tDie = 16 * Int.fdiv inp.dieTemp 16 ∧ t.base.dieRead = some now) ∧
      (s.front.driveSource ≠ 2 →
        (s.scan.nextLevel = none → t.front.rails = s.front.rails.set s.scan.level inp.railMv) ∧
        (∀ l, s.scan.nextLevel = some l → 1 ≤ l → l ≤ 3 →
          (s.scan.level = 0 → t.front.rails = (s.front.rails.set 0 inp.railMv).set l inp.vdrvMv) ∧
          (1 ≤ s.scan.level → s.scan.level ≤ 3 → t.front.rails = s.front.rails.set l inp.railMv))) ∧
      t.tel.scrubAt = (if at1 < size then at1 else at1 - size) ∧
      t.time.frameMargin = none ∧
      (∀ m, s.time.frameMargin = some m → m < 20 → clear → t.time.vcoreMv = min 900 (s.time.vcoreMv + 20)) ∧
      (s.time.frameMargin = none ∨ ¬ clear → t.time.vcoreMv = s.time.vcoreMv) ∧
      KeepsBut ([.scan, .boot, .front, .base, .time, .lvl, .plane, .image, .mem, .trust, .freeIdx] ++ recordComps) (s.entered tk) t

/-! ## Node values, baselines and contacts (chapters 05, 06 and 07) -/

/-- The combine (05 R134, R136; 06 R156): the weighted mean of a node's passes, rounded with halves up, through the temporal response; and
its delta, the baseline less 256 times the value, scaled to the reference level. A dropped frame combines nothing (17 R491). -/
def Obligations.PassesCombine : Prop :=
  ∀ (s : State) (tk : Tick), s.calm → s.scan.stage = .decoded → s.scan.noiseAlarm = false →
    let u := s.entered tk
    (s.scan.dropped = true → Runs (.planeCombine tk []) s fun t =>
      t.scan = { s.scan with stage := .combined } ∧ KeepsBut [.scan, .attn] u t) ∧
    (s.scan.dropped = false → s.casc.role = .standalone → Runs (.planeCombine tk []) s fun t =>
      t.scan = { s.scan with stage := .combined } ∧
      (∀ x < s.front.senseCount, ∀ y < s.front.driveCount,
        let ws := s.scan.passes.filterMap fun p => ((p.value.getD x []).getD y none).map fun d =>
          ((if p.sat.getD x false then 0 else 2 ^ 24 / max (columnVar p x) 1 : Nat), d)
        let q := sumNat (ws.map (·.1))
        let c := Int.fdiv (sumInt (ws.map fun e => (e.1 : Int) * e.2) + (q / 2 : Nat)) (q : Int)
        let old := (s.plane.y.getD x []).getD y 0
        let seeded := s.plane.y = [] ∨ s.plane.reseedAll = true ∨ (s.plane.warm.getD x []).getD y 0 = 255
        let y' := fun (next : Int) => (seeded → next = 256 * c) ∧
          (¬ seeded → next = old + asr (256 * c - old) (if s.prof.temporal = 2 then 2 else 1))
        q ≠ 0 → ∃ next : Int, (t.plane.y.getD x [])[y]? = some next ∧ y' next ∧
          ∃ n : CNode, (t.plane.combined.getD x [])[y]? = some n ∧ n.hold = false ∧
          n.value = clampInt (-8388608) 8388607 (if s.prof.temporal = 0 then c else asr (next + 128) 8) ∧
          (s.base.inForce = true → (t.base.delta.getD x [])[y]? = some (clampInt (-32768) 32767
            (roundAway (((s.bnode ((x : Int), (y : Int))).b - 256 * n.value) * (s.vRef : Int)) (256 * s.vFrame))))) ∧
      KeepsBut ([.scan, .plane, .base] ++ tallyComps) u t)

/-- Acquisition (06 R159 to R165): the forced phase 1 takes the present values; one with a reference names it; phase 2 ends with the means,
event 0x0201 and BASELINE_ACQUIRE's final reply. -/
def Obligations.AcquisitionRuns : Prop :=
  ∀ (s : State) (tk : Tick), s.calm →
    let u := s.entered tk
    (s.scan.stage = .combined → s.scan.dropped = false → s.base.acq = .wait 0 true →
      Runs (.acquisitionPhase1 tk) s fun t =>
        t.base.acq = .phase2 2 0xFE 0 0 ∧ t.base.inForce = true ∧ t.base.refInUse = 0xFE ∧
        (∀ x < s.front.senseCount, ∀ j < s.gridRows, (s.cnode ((x : Int), (j : Int))).hold = false →
          (t.bnode ((x : Int), (j : Int))).b = 256 * (s.cnode ((x : Int), (j : Int))).value) ∧
        KeepsBut [.base, .attn] u t) ∧
    (∀ slot : Nat, s.scan.stage = .combined → s.scan.dropped = false → s.base.acq = .wait 0 false →
      selectRef u (s.fnat 0x206) = .ok slot →
      Runs (.acquisitionPhase1 tk) s fun t =>
        t.base.acq = .phase2 0 slot 0 (refTempDiff u (u.refBytes slot)) ∧ t.base.inForce = true ∧ t.base.refInUse = slot ∧
        KeepsBut [.base, .attn] u t) ∧
    (∀ (mode slot n : Nat) (diff : Int) (d : Deferred), s.scan.stage ≠ .started → s.base.acq = .phase2 mode slot n diff →
      phase2Done s = true → writesNow s 6 → s.atTurn d → s.running.filter (fun d => d.opcode == 0x18) = [d] → d.opcode = 0x18 →
      Finishes (.acquisitionPhase2End tk) s u d 0
        (leBytes 1 mode ++ leBytes 1 slot ++ leBytes 2 (markedNodes s) ++ leSigned 2 diff) fun t =>
        t.base.acq = .idle ∧
        t.tally = (tally 0x201 (d48 [(8, mode), (8, slot), (16, markedNodes s), (16, unsigned 16 diff)]) u).tally ∧
        (∀ x < s.front.senseCount, ∀ j < s.gridRows, s.inOwnPhase ((x : Int), (j : Int)) = false →
          ∀ b, (s.base.nodes.getD x [])[j]? = some b → b.st = .free → 0 < b.p2n →
          ∃ b', (t.base.nodes.getD x [])[j]? = some b' ∧ b'.b = roundAway b.p2 b.p2n ∧ b'.st = .free) ∧
        KeepsBut (.base :: recordComps) u t)

/-- Tracking (06 R158, R168, R170, R171, R177, R183): a block's end moves the free baselines by their mean error shifted, and by the
temperature factor; a node leaves HELD at its present value; a scar and a resting object are taken into the baseline, with their events. Temperature and humidity (06 R174 to R178): a reading of the source in use is the compensation temperature, with the condensation test;
a stale source falls back to the die sensor, and its next reading restores it, with their records and events. -/
def Obligations.BaselinesAndTemperature : Prop :=
  (∀ (s : State) (tk : Tick), s.calm →
      let u := s.entered tk
      let scaled := fun (b : Int) => scaleBy (s.tempRatio s.base.tComp s.base.tApplied) b
      (s.scan.stage ≠ .started → blockDue s = true → s.base.releaseDue = [] →
        Runs (.trackingBlockEnd tk) s fun t =>
          t.base.blockAt = 0 ∧ t.base.tApplied = s.base.tComp ∧
          (∀ x < s.front.senseCount, ∀ j < s.gridRows,
            let p : Node := ((x : Int), (j : Int))
            let b := s.bnode p
            let e := divZero b.acc b.used - b.b
            b.st = .free → s.base.blockLen < 2 * b.used → s.water p = false → s.base.condRisk = false →
            (filmNodes s).contains p = false →
            (t.bnode p).b = scaled (b.b + asr e (if e < 0 then s.bnat 0x200 else s.bnat 0x201)) ∧
              (t.bnode p).acc = 0 ∧ (t.bnode p).used = 0) ∧
          KeepsBut [.base, .attn] u t) ∧
      (∀ (x j : Nat) (b : BNode), let node := x * s.gridRows + j
        x < s.front.senseCount → j < s.gridRows → node ∈ s.base.releaseDue → (s.base.nodes.getD x [])[j]? = some b → b.st = .held →
        Runs (.nodeStateRelease tk node) s fun t =>
          let b' := t.bnode ((x : Int), (j : Int))
          b'.b = 256 * (s.cnode ((x : Int), (j : Int))).value ∧ b'.leave = 0 ∧ (b'.st = .free ∨ b'.st = .frozen) ∧
          t.base.releaseDue = s.base.releaseDue.erase node ∧ KeepsBut [.base, .attn] u t) ∧
      (∀ (box i : Nat) (r : List Node), s.base.scarDue.find? (fun e => e.1 == box) = some (i, r) →
        Runs (.scarResolved tk box) s fun t =>
          let c := boxCentre s (bbox r)
          t.base.scars = s.base.scars.eraseIdx box ∧
          t.tally = (tally 0x207 (d48 [(16, unsigned 16 c.1), (16, unsigned 16 c.2), (16, r.length)]) u).tally ∧
          (∀ x j : Nat, ((x : Int), (j : Int)) ∈ r → ∀ b, (s.base.nodes.getD x [])[j]? = some b →
            (t.bnode ((x : Int), (j : Int))).b = 256 * (s.cnode ((x : Int), (j : Int))).value) ∧
          KeepsBut (.base :: tallyComps) u t) ∧
      (∀ (id : Nat) (c : Contact), id ∈ s.base.absorbDue → s.trk.contacts.find? (fun c => c.id == id) = some c → recordsNow s →
        s.casc.role = .standalone →
        Runs (.objectAbsorbed tk id) s fun t =>
          t.trk.contacts = s.trk.contacts.filter (fun c => c.id != id) ∧
          (∃ e ∈ t.trk.ended, e.id = id ∧ e.state = 4) ∧ t.base.absorbDue = s.base.absorbDue.erase id ∧
          t.report = u.reportPlus ([8, 2, 1] ++ leBytes 1 s.tileNo ++ leBytes 1 id ++ [0] ++ leBytes 2 (unsigned 16 c.x) ++
            leBytes 2 (unsigned 16 c.y) ++ leBytes 2 (absorbArea s (c.foot.map fun f => (f.1, f.2.1))) ++ leBytes 4 u.low32) ∧
          KeepsBut (.base :: recordComps) u t) ∧
      (∀ nodes : List Nat, 0 < s.base.rebuildDue → recordsNow s →
        Runs (.baselineRegionRebuild tk nodes) s fun t =>
          t.base.rebuildDue = s.base.rebuildDue - 1 ∧
          (∀ slot, selectRef s (s.fnat 0x206) = .ok slot → t.base.judge = s.base.judge ++ nodes) ∧
          t.base.ownPhase = (match s.base.acq with | .phase2 .. => s.base.ownPhase ++ [(nodes, 0)] | _ => s.base.ownPhase) ∧
          t.report.items.length = s.report.items.length + 1 ∧ KeepsBut (.base :: recordComps) u t)) ∧
  (∀ (s : State) (tk : Tick), s.calm → s.casc.role = .standalone →
      let u := s.entered tk
      let env := fun (cause src : Nat) => [8, 2] ++ leBytes 1 cause ++ leBytes 1 s.tileNo ++ leBytes 1 src ++ [0] ++
        leBytes 2 0xFFFF ++ leBytes 2 0xFFFF ++ leBytes 2 0 ++ leBytes 4 u.low32
      (∀ w : Int, s.scan.stage = .written →
        s.base.dieRead = none ∨ (∃ t0 : Time, s.base.dieRead = some t0 ∧ reached u.now (t0 + BitVec.ofNat 56 8388608) = true) →
        let v := 16 * Int.fdiv w 16
        Runs (.tempReading tk false 0 w) s fun t =>
          t.base.tDie = v ∧ t.base.dieRead = some u.now ∧
          t.base.tComp = (if s.base.sourceInUse = 0 then v else s.base.tComp) ∧ KeepsBut (.base :: tallyComps) u t) ∧
      (∀ (src : Nat) (v : Int), src ≠ 0 → s.base.tempSrc = src → s.base.tempFallback = false →
        Runs (.tempReading tk false src v) s fun t =>
          t.base.tComp = v ∧ t.base.tempLast = some u.now ∧ t.base.sourceInUse = src ∧
          (s.base.sourceInUse ≠ src → t.base.tApplied = v) ∧ KeepsBut (.base :: tallyComps) u t) ∧
      (∀ (src : Nat) (v : Int), src ≠ 0 → s.base.tempSrc = src → s.base.tempFallback = true → recordsNow s →
        Runs (.tempReading tk false src v) s fun t =>
          t.base.tComp = v ∧ t.base.tempFallback = false ∧ t.report = u.reportPlus (env 3 src) ∧ KeepsBut (.base :: recordComps) u t) ∧
      (∀ (src : Nat) (v : Int), src ≠ 0 → s.base.humidSrc = src →
        Runs (.tempReading tk true src v) s fun t =>
          t.base.humidity = some v.toNat ∧ t.base.humidLast = some u.now ∧ KeepsBut (.base :: tallyComps) u t) ∧
      (∀ t0 : Time, s.base.tempLast = some t0 → reached u.now (t0 + BitVec.ofNat 56 (8388608 * s.bnat 0x211)) = true →
        s.base.tempFallback = false → s.base.tempSrc ≠ 0 → recordsNow s →
        Runs (.tempSourceStale tk false) s fun t =>
          t.base.tempFallback = true ∧ t.base.sourceInUse = 0 ∧
          t.base.tComp = (if s.base.dieRead = none then s.base.tComp else s.base.tDie) ∧
          (s.base.dieRead ≠ none → t.base.tApplied = s.base.tDie) ∧
          t.report = u.reportPlus (env 2 s.base.tempSrc) ∧ KeepsBut (.base :: recordComps) u t))

/-- The tracker's frame (07 R198, R205): nothing is tracked in the two frames after a restart; a contact that no peak matches counts a
missed frame, and lifts when it has missed enough. A dropped frame tracks nothing. -/
def Obligations.TheTrackerMisses : Prop :=
  ∀ (s : State) (tk : Tick), s.calm → s.scan.stage = .combined →
    let u := s.entered tk
    (s.scan.dropped = true → Runs (.trackerFrame tk) s fun t =>
      t.scan = { s.scan with stage := .tracked } ∧ KeepsBut [.scan, .attn] u t) ∧
    (s.scan.dropped = false → s.casc.role = .standalone → phase1Due s = none → s.base.releaseDue = [] →
      s.base.forcedNow = false → s.trk.ownerDue = [] → s.trk.keySkip = [] →
      (s.noContacts = true → Runs (.trackerFrame tk) s fun t =>
        t.scan = { s.scan with stage := .tracked } ∧ t.trk.stamp = u.frameStamp ∧ t.trk.contacts = s.trk.contacts ∧
        t.trk.gests = s.trk.gests ∧ KeepsBut [.scan, .trk, .pwr, .attn] u t) ∧
      (s.noContacts = false → touched s = [] → (∀ c ∈ s.trk.contacts, c.palm = false ∧ 0 < c.age) →
        Runs (.trackerFrame tk) s fun t =>
          t.scan = { s.scan with stage := .tracked } ∧ t.trk.stamp = u.frameStamp ∧
          t.trk.contacts.map (fun c => (c.id, c.missed)) = s.trk.contacts.map (fun c => (c.id, c.missed + 1)) ∧
          t.trk.liftDue = s.trk.liftDue ++
            (s.trk.contacts.filter fun c => decide (s.fnat 0x306 ≤ c.missed + 1)).map (·.id) ∧
          KeepsBut [.scan, .trk, .pwr, .base, .attn] u t))

/-- Lifts, presses, deferred taps, keys and owners (07 R198, R204, R212, R215, R216; 09 R286). -/
def Obligations.ContactsAndKeysTurn : Prop :=
  ∀ (s : State) (tk : Tick), s.calm →
    let u := s.entered tk
    let tapGest := fun (a : TapRec) (t : Time) => (⟨1, a.id, gestBytes 1 a.id (a.gen % 16 + bitOf (bitAt (s.fnat 0x311) 1) 4) a.rx a.ry
      (roundRoot a.travel2 : Nat) (ticksMs (since a.lift a.start) : Nat) t⟩ : Gest)
    (∀ (id : Nat) (c : Contact), s.trk.liftDue = [id] → s.trk.contacts.find? (fun c => c.id == id) = some c →
      s.trk.taps.filter (fun t => t.partner == some id) = [] →
      (c.barred = true → Runs (.contactLift tk id) s fun t =>
        t.trk.contacts = s.trk.contacts.filter (fun c => c.id != id) ∧ t.trk.liftDue = [] ∧ t.trk.gests = s.trk.gests ∧
        (∃ e ∈ t.trk.ended, e.id = id ∧ e.state = 3 ∧ e.stamp = s.trk.stamp) ∧ KeepsBut [.trk, .base, .attn] u t) ∧
      (mayTap s c = true → s.gestOn 1 = true → s.gestOn 2 = false → s.gestOn 9 = false →
        (c.x - c.sx).natAbs < s.fnat 0x317 → (c.y - c.sy).natAbs < s.fnat 0x317 →
        Runs (.contactLift tk id) s fun t =>
          t.trk.contacts = s.trk.contacts.filter (fun c => c.id != id) ∧ t.trk.liftDue = [] ∧
          t.trk.gests = s.trk.gests ++ [tapGest (tapOf c s.trk.stamp) s.trk.stamp] ∧
          (∃ e ∈ t.trk.ended, e.id = id ∧ e.state = 3 ∧ e.stamp = s.trk.stamp) ∧ KeepsBut [.trk, .base, .attn] u t)) ∧
    (∀ (id : Nat) (c : Contact), s.scan.stage = .tracked → s.trk.contacts.find? (fun c => c.id == id) = some c →
      pressReady s c = true →
      Runs (.longPress tk id) s fun t =>
        (∀ q ∈ t.trk.contacts, q.id = id → q.longPressed = true) ∧
        t.trk.gests = s.trk.gests ++ (if s.gestOn 3 then [⟨3, id, gestBytes 3 id (c.gen.toNat + bitOf (bitAt (s.fnat 0x311) 3) 4)
          (reported s c).2.1 (reported s c).2.2 (roundRoot c.travel2 : Nat) (ticksMs (since s.trk.stamp c.start) : Nat) s.trk.stamp⟩] else []) ∧
        KeepsBut [.trk, .attn] u t) ∧
    (∀ (id : Nat) (a : TapRec), s.scan.stage = .tracked →
      s.trk.taps.find? (fun t => t.id == id && settleReady s t) = some a →
      let first := firstTap { s with trk := { s.trk with taps := s.trk.taps.filter (· != a) } } a
      s.gestOn 1 = true → s.gestOn 2 = false ∨ first = none →
      Runs (.tapDeferralSettle tk id) s fun t =>
        t.trk.taps = s.trk.taps.filter (· != a) ++
          [{ a with partner := none, spent := first.isSome }] ∧
        t.trk.gests = s.trk.gests ++ [tapGest a a.lift] ∧ KeepsBut [.trk, .attn] u t) ∧
    (∀ (i : Nat) (ph : KeyPhase), (s.key i).due = some ph → (s.key i).cancelled = false →
      Runs (.keyStateChange tk i) s fun t =>
        (t.key i).phase = ph ∧ (t.key i).due = none ∧ (t.key i).stamp = s.trk.stamp ∧
        (t.key i).changes = satAt 255 ((s.key i).changes + 1) ∧ (t.key i).tValue = (s.key i).value ∧
        (ph = .on → (t.key i).onStamp = s.trk.stamp ∧ (t.key i).onTime = 0) ∧
        (ph = .off → (t.key i).onTime = satAt 0xFFFFFFFF (since s.trk.stamp (s.key i).onStamp)) ∧
        (∀ j, j ≠ i → t.key j = s.key j) ∧ KeepsBut [.trk, .attn] u t) ∧
    (∀ id i owner : Nat, s.trk.ownerDue.find? (fun e => e.1 == id) = some (i, owner) →
      Runs (.contactOwnerChange tk id) s fun t =>
        t.trk.contacts = s.trk.contacts.map (fun c => if c.id = id then { c with owner := owner, rival := none } else c) ∧
        KeepsBut [.trk, .attn] u t)

/-- The frame group (07 R220 to R223; 05 R146; 17 R491, R492): written whole where it fits beside the reserve, header first, then contacts, keys and
gestures; withheld otherwise; a dropped frame writes nothing. `v` is the state after what the frame still owes and its images. -/
def Obligations.GroupsAreWrittenWhole : Prop :=
  ∀ (s : State) (tk : Tick) (pct : Nat), s.calm → s.scan.stage = .tracked → s.scan.noiseAlarm = false → s.pwr.wakeCheck = false →
    let u := s.entered tk
    (s.scan.dropped = true → Runs (.frameGroupWrite tk pct) s fun t =>
      t.scan = { s.scan with stage := .written } ∧ t.time.frameMargin = some pct ∧
      KeepsBut ([.scan, .time, .tel] ++ tallyComps) u t) ∧
    (s.scan.dropped = false → s.casc.role = .standalone →
      let v := snapFrame (streamFrame (flushFrame (takeMargin pct u)))
      let frame := [Comp.scan, .plane, .report, .trk, .pwr, .attn, .tally, .record, .tel, .casc]
      (groupSize v + s.fnat 0x309 ≤ v.report.free v.reportSize → Runs (.frameGroupWrite tk pct) s fun t =>
        let cs := contactRecs v
        let ks := (owedKeys v).map fun e => keyRec e.1 e.2
        let gs := groupGests v
        t.report.items = v.report.items ++ (frameHeader cs.length ks.length gs.length v ::
          (cs ++ ks ++ gs.map (·.bytes))).map (fun bs => ⟨bs, .plain⟩) ∧
        t.scan.stage = .written ∧ t.trk.withheld = 0 ∧ t.trk.queue = [] ∧ t.trk.gests = [] ∧
        t.plane.since = s.plane.since + 1 ∧ t.time.frameMargin = some pct ∧ KeepsBut frame v t) ∧
      (v.report.free v.reportSize < groupSize v + s.fnat 0x309 → Runs (.frameGroupWrite tk pct) s fun t =>
        t.report = v.report ∧ t.scan.stage = .written ∧ t.trk.withheld = v.trk.withheld + 1 ∧
        t.plane.since = s.plane.since + 1 ∧ t.time.frameMargin = some pct ∧ KeepsBut frame v t))

/-! ## Level (chapter 10) -/

/-- Level's conversions (10 R307, R311 to R319, R323; 05 R128, R129, R142, R143): triggers queue requests or are missed; an eligible request powers PD5 up and a
conversion starts with it; the open-wire check comes first where the slot asks for it; a settled fine boundary ends the decimation of its
modulator samples, and the value gives a result record 32 ticks later (05 R129). Level's supplies (10 R305, R307, R310, R317): the excitation reverses at its edges and trips on overcurrent, the reference buffer settles after
1,311 beats, and PD5 powers down 256 beats after its last need. -/
def Obligations.LevelConvertsAndSupplies : Prop :=
  (∀ (s : State) (tk : Tick), s.calm →
      let u := s.entered tk
      (∀ (slot : Nat) (t0 : Time), slot < s.lvl.slots.length → (s.lvl.slots.getD slot .initial).timerNext = some t0 →
        (s.lvl.slots.getD slot .initial).trigWas = none → s.pwr.pd1 = true →
        reached u.now t0 = true → byteAt (s.lvlTrigger slot) 0 = 1 → byteAt (s.lvlEntry slot) 0 ≠ 0xFF →
        let next := t0 + BitVec.ofNat 56 (256 * fieldAt (s.lvlTrigger slot) 6 2)
        (slotBusy s slot = false → Runs (.levelTimerTrigger tk slot) s fun t =>
          (t.lvl.slots.getD slot .initial).timerNext = some next ∧ t.lvl.queue.length = s.lvl.queue.length + 1 ∧
          (∃ q ∈ t.lvl.queue, q.slot = slot ∧ q.source = 1 ∧ q.count = byteAt (s.lvlTrigger slot) 2 ∧
            q.eligible = t0 + BitVec.ofNat 56 (fieldAt (s.lvlTrigger slot) 4 2)) ∧ KeepsBut [.lvl, .attn] u t) ∧
        (slotBusy s slot = true → Runs (.levelTimerTrigger tk slot) s fun t =>
          (t.lvl.slots.getD slot .initial).timerNext = some next ∧ t.lvl.queue = s.lvl.queue ∧
          (t.lvl.slots.getD slot .initial).missed = satAt 255 ((s.lvl.slots.getD slot .initial).missed + 1) ∧
          t.tally = (tally 0x603 (d48 [(8, slot)]) u).tally ∧ KeepsBut (.lvl :: tallyComps) u t)) ∧
      (∀ q ∈ s.lvl.queue, reached u.now q.eligible = true → s.part.hasLevel = true → s.pwr.pd1 = true →
        Runs (.levelRequestEligible tk q.slot) s fun t =>
          { q with ready := true } ∈ t.lvl.queue ∧ t.lvl.queue.length = s.lvl.queue.length ∧ t.lvl.pd5 = true ∧
          KeepsBut [.lvl, .attn] u t) ∧
      (∀ q : LvlReq, s.lvl.queue.find? (·.ready) = some q → mayStart u = true → byteAt (s.lvlEntry q.slot) 0 ≠ 0xFF →
        edgeActs (s.lvlEntry q.slot) = false →
        Runs (.levelConversionStart tk) s fun t =>
          t.lvl.queue = s.lvl.queue.filter (fun p => p.slot != q.slot) ∧
          (∃ r, t.lvl.running = some r ∧ r.req = q ∧ r.entry = s.lvlEntry q.slot ∧ r.startT = u.now ∧ r.fineT = u.now ∧
            r.tooFast = false ∧ r.checking = bitAt (byteAt (s.lvlEntry q.slot) 5) 2 ∧
            (r.checking = false → r.gain = byteAt (s.lvlEntry q.slot) 1)) ∧
          KeepsBut [.lvl, .plane, .attn] u t) ∧
      (∀ (r : LvlRun) (inp : RoundIn), s.lvl.running = some r → r.checking = true → r.stopReq = false → r.restart = false →
        s.lvl.held = [] → u.now.toNat % 32 = 0 →
        let n := since u.now r.fastT
        Runs (.planeServiceRound tk inp) s fun t =>
          (∃ r', t.lvl.running = some r' ∧ r'.checking = true ∧ r'.req = r.req ∧ (n ≠ 2048 → r'.owCode = r.owCode) ∧
            (n = 2048 → r'.owCode = some (clampInt (-8388607) 8388607
              (coarseCode (sincOut (sincFeed (sampleOf inp r u) r.fastAcc) r.fastComb).1)))) ∧ KeepsBut [.lvl, .plane, .attn] u t) ∧
      (∀ (r : LvlRun) (c : Int), s.lvl.running = some r → r.checking = true → r.owCode = some c →
        reached u.now (r.checkT + 2048) = true → r.req.slot < s.lvl.slots.length → recordsNow s →
        Runs (.openWireCheckEnd tk r.req.slot) s fun t =>
          (∃ r', t.lvl.running = some r' ∧ r'.checking = false ∧ r'.openWire = decide (7549747 ≤ c.natAbs) ∧ r'.fineT = u.now) ∧
          (t.lvl.slots.getD r.req.slot .initial).owFault = decide (7549747 ≤ c.natAbs) ∧
          t.report = (if 7549747 ≤ c.natAbs then u.reportPlus ([8, 6, 2] ++ leBytes 1 s.tileNo ++ leBytes 1 r.req.slot ++
            leBytes 1 (byteAt r.entry 0) ++ [0, 0] ++ leSigned 4 c ++ leBytes 4 u.low32) else s.report) ∧
          KeepsBut ([.lvl, .plane] ++ recordComps) u t) ∧
      (∀ (r : LvlRun) (inp : RoundIn), s.lvl.running = some r → r.checking = false → r.stopReq = false → r.pendEdge = none →
        s.lvl.held = [] → u.now.toNat % 32 = 0 →
        let f := since u.now r.fineT
        let per := 2 ^ (byteAt r.entry 2 + 5)
        let settle := respSettle (byteAt r.entry 3)
        (f % per ≠ 0 → since u.now r.fastT % 512 ≠ 0 → r.restart = false → Runs (.planeServiceRound tk inp) s fun t =>
          (∃ r', t.lvl.running = some r' ∧ r'.req = r.req ∧ r'.delivered = r.delivered ∧ r'.gain = r.gain ∧
            r'.overload = (r.overload || (inp.overload && decide (0 < f))) ∧
            (0 < f → r'.fineAcc = sincFeed (sampleOf inp r u) r.fineAcc)) ∧
          t.lvl.held = [] ∧ KeepsBut [.lvl, .plane, .attn] u t) ∧
        (0 < f → f % per = 0 → settle * per ≤ f → r.tooFast = false → r.req.count = r.delivered + 1 →
          Runs (.planeServiceRound tk inp) s fun t =>
            t.lvl.running = none ∧ t.lvl.lastEnd = some u.now ∧
            (∃ h, t.lvl.held.head? = some h ∧ h.give = true ∧ h.doneT = u.now ∧ h.run.req = r.req ∧
              h.value.coarse = false ∧ h.value.settling = false ∧ h.value.code = clampInt (-8388607) 8388607
                (fineCode (byteAt r.entry 3) (byteAt r.entry 2) (sincOut (sincFeed (sampleOf inp r u) r.fineAcc) r.fineComb).1 u).1) ∧
            KeepsBut [.lvl, .plane, .freeIdx, .attn] u t)) ∧
      (∀ (h : LvlHeld) (inp : RoundIn), s.lvl.held = [h] → s.lvl.running = none → reached u.now (h.doneT + 32) = true →
        u.now.toNat % 32 = 0 → h.give = true → byteAt h.run.entry 4 ≠ 1 → s.base.tempSrc ≠ 1 → s.base.humidSrc ≠ 1 →
        s.casc.role ≠ .member → s.lvl.waiting = [] → s.reportFits 32 = true →
        s.slotLost h.run.req.slot = false →
        Runs (.planeServiceRound tk inp) s fun t =>
          t.lvl.held = [] ∧
          (let bs := (t.report.items.getLast?.getD ⟨[], .plain⟩).bytes
           t.report = u.reportPlus bs ∧ bs.length = 32 ∧ bs.take 4 = [5, BitVec.ofNat 8 h.run.req.slot, 32, 0] ∧
            slice bs 4 4 = leSigned 4 h.value.code ∧ slice bs 16 8 = leBytes 8 (u.stampOf h.stamp).toNat) ∧
          KeepsBut [.lvl, .plane, .report, .pwr, .trk, .attn] u t) ∧
      (∀ (slot : Nat) (bs : List Byte) (rest : List (Nat × List Byte)), s.lvl.waiting = (slot, bs) :: rest → s.pwr.pd1 = true →
        s.casc.role ≠ .member → s.reportFits 32 = true → s.slotLost slot = false →
        Runs (.levelQueuedRecordWrite tk) s fun t =>
          t.lvl = { s.lvl with waiting := rest } ∧ t.report = u.reportPlus bs ∧ KeepsBut [.lvl, .report, .pwr, .trk, .attn] u t)) ∧
  (∀ (s : State) (tk : Tick), s.calm →
      let u := s.entered tk
      (∀ t0 : Time, s.lvl.nextEdge = some t0 → s.lvl.excOn = true → reached u.now t0 = true → s.lvl.running = none →
        triggersOf s 2 = [] →
        Runs (.excitationReversal tk) s fun t =>
          t.lvl = { s.lvl with
            reversed := !s.lvl.reversed, flipT := some u.now, nextEdge := some (t0 + BitVec.ofNat 56 (256 * s.lvl.halfPeriod)) } ∧
          KeepsBut [.lvl, .attn] u t) ∧
      (s.lvl.excOn = true → s.lvl.running = none → recordsNow s →
        Runs (.excitationOvercurrent tk) s fun t =>
          t.lvl = { s.lvl with
            excOn := false, reversed := false, flipT := if s.lvl.reversed then some u.now else s.lvl.flipT, nextEdge := none
            halfPeriod := 0, tripped := true, overcurrent := true } ∧
          t.tally = (tally 0x605 0 u).tally ∧
          t.report = u.reportPlus ([8, 6, 4] ++ leBytes 1 s.tileNo ++ [0xFF, 0xFF, 0, 0] ++ leBytes 4 0 ++ leBytes 4 u.low32) ∧
          KeepsBut (.lvl :: recordComps) u t) ∧
      (s.lvl.bufOn = true → s.lvl.bufOffT = none → reached u.now s.lvl.bufT = true → reached u.now (s.lvl.bufT + BitVec.ofNat 56 (1311 * 256)) = true →
        Runs (.refbufSettled tk) s fun t =>
          t.lvl = { s.lvl with bufSettled := true } ∧ KeepsBut [.lvl, .attn] u t) ∧
      (∀ t0 : Time, s.lvl.idleSince = some t0 → s.lvl.pd5 = true → levelNeed s = false →
        reached u.now (t0 + BitVec.ofNat 56 65536) = true →
        Runs (.pd5PowerDown tk) s fun t =>
          t.lvl = { s.lvl with
            pd5 := false, idleSince := none, bufOn := false, bufOffT := none, bufSettled := false, excOn := false, reversed := false
            nextEdge := none, halfPeriod := 0 } ∧ KeepsBut [.lvl, .attn] u t))
/-! ## Power, resets and the boot (chapters 08, 18 and 19) -/

/-- Entry to DORMANT and WATCH, and the wakes (08 R230 to R236, R245, R247; 02 R37): the entry at a beat at which nothing is owed to the host records
event 0x0403 and powers the domains down, and one to WATCH by sleep or idle without a Sill group is not made (R544); a wake begins by
the link, the timer or SYNC and powers PD4 with the Story Pole, and 4 beats later the state is reached. -/
def Obligations.SleepsAndWakes : Prop :=
  ∀ (s : State) (tk : Tick), s.scan.phase ≠ .stopping → s.pwr.next = none → s.pwr.checkFailed = false → s.pwr.sleepDue = false →
    s.casc.redo = false → s.scan.stopAt = none →
    let u := s.entered tk
    (∀ asked cause : Nat, asked ≤ 1 → s.pwr.entry = some ⟨asked, cause, none⟩ → s.scan.phase = .stopped → s.trust.boundary = false → nothingOwed u = true →
      u.now.toNat % 256 = 0 → ¬(asked = 1 ∧ (cause = 7 ∨ cause = 8) ∧ s.anySill = false) →
      let target := if cause = 12 then (if s.anySill then 1 else 0) else asked
      Runs (.sleepEntry tk) s fun t =>
        t.pwr.st = BitVec.ofNat 2 target ∧ t.pwr.pd1 = false ∧ t.pwr.pd2 = false ∧ t.pwr.pd4 = false ∧ t.pwr.entry = none ∧
        t.pwr.entryT = some u.now ∧ t.lvl.pd5 = false ∧ t.time.stage = .off ∧ t.time.t = u.now ∧ t.attn.attnN = false ∧
        t.attn.pending = 0 ∧ t.image.items = [] ∧ t.record.items = [] ∧ t.report = s.report ∧ t.params = s.params ∧
        t.tally = (tallyBy (powerOrigin cause) 0x403 (d48 [(8, s.pwr.st.toNat), (8, target), (8, cause)]) u).tally ∧
        (target = 1 → t.pwr.periodT = some (u.now + 1024))) ∧
    (∀ cause : Nat, cause = 7 ∨ cause = 8 → s.pwr.entry = some ⟨1, cause, none⟩ → s.scan.phase = .stopped → nothingOwed u = true →
      u.now.toNat % 256 = 0 → s.anySill = false → s.pwr.st ≠ 2 → s.pwr.entryRan = none → s.trust.boundary = false →
      Runs (.sleepEntry tk) s fun t =>
        t.pwr = { s.pwr with entry := none, idleFrom := u.now } ∧ KeepsBut [.pwr, .attn] u t) ∧
    (s.pwr.entry = none → s.dormant = true → s.pwr.waking = none →
      let begins := fun (w : Nat × Nat × Option Nat) (t : State) =>
        t.pwr.waking = some w ∧ t.pwr.wakeT = u.now ∧ t.pwr.periodT = none ∧ t.pwr.window = s.pwr.window ∧ t.pwr.st = s.pwr.st ∧
        t.time = { u.time with stage := .waitEdge, vcoreMv := 900 } ∧ KeepsBut [.time, .pwr, .attn] u t
      Runs (.hostCsNWake tk) s (begins (3, 3, none)) ∧
      (∀ t0 : Time, s.pwr.entryT = some t0 → s.pnat 0x40D ≠ 0 →
        reached u.now (t0 + BitVec.ofNat 56 (8388608 * s.pnat 0x40D)) = true →
        Runs (.timerWake tk) s (begins (if s.dozeOk then (4, 2, some (s.pnat 0x408)) else (4, 3, none)))) ∧
      (∀ low : Nat, s.inCascade = true → 512 ≤ low →
        Runs (.syncWakePulse tk low) s (begins (5, 3, some (s.pnat 0x111))))) ∧
    (∀ (cause target bad : Nat), s.pwr.entry = none → s.boot.phase = .done → s.pwr.waking = some (cause, target, none) →
      reached u.now (s.pwr.wakeT + 1024) = true → s.casc.role ≠ .member →
      Runs (.pd1Pd4Ready tk bad) s fun t =>
        t.pwr.st = BitVec.ofNat 2 target ∧ t.pwr.wakeCause = BitVec.ofNat 3 cause ∧ t.pwr.waking = none ∧ t.pwr.entryT = none ∧
        t.pwr.pd1 = true ∧ t.pwr.pd4 = true ∧ t.time.stage = s.time.stage ∧ t.time.vcoreMv = 900 ∧ t.boot.discovered = false ∧
        t.pwr.nodesRetained = (s.pwr.nodesHeld && bad == 0) ∧ t.scan = s.scan ∧
        (s.pnat 0x40B = 1 → s.pwr.nodesHeld = true → bad = 0 → t.base.nodes = s.base.nodes ∧ t.plane.reseedAll = true))

/-- Sill scan (08 R238 to R241): periods follow one another and the first group due is measured; four readings make a baseline, a quiet
reading moves it, a count out of range disables its group with event 0x0407, and a confirmed detection wakes. -/
def Obligations.SillScanDetects : Prop :=
  ∀ (s : State) (tk : Tick), s.calm → s.pwr.st = 1 → s.pwr.waking = none →
    let u := s.entered tk
    (∀ p : Time, s.pwr.periodT = some p → reached u.now p = true → s.pwr.window = none →
      let next := p + BitVec.ofNat 56 (256 * s.snat 0x400)
      Runs (.sillPeriodStart tk) s fun t =>
        t.pwr.periodT = some next ∧ KeepsBut [.pwr, .attn] u t ∧
        ∀ (g : Nat), g < 8 → (s.pwr.sills.getD g .idle).live = true →
          (∀ h < 8, h ≠ g → (s.pwr.sills.getD h .idle).live = true →
            g < h ∧ (s.pwr.sills.getD h .idle).armed = false) →
          let e := p + BitVec.ofNat 56 (256 * byteAt (s.sillEntry g) 0)
          reached next e = true → t.pwr.window = some (g, e)) ∧
    (∀ (g : Nat) (e : Time) (edges : Nat), s.pwr.window = some (g, e) → reached u.now e = true → g < s.pwr.sills.length →
      let q := s.pwr.sills.getD g .idle
      let d : Int := q.b / 256 - (edges : Int)
      (16 ≤ edges → edges < 65535 →
        (q.acq = 3 → Runs (.sillReading tk g edges) s fun t =>
          t.pwr.sills.getD g .idle = { q with last := edges, acq := 4, acqSum := q.acqSum + edges, above := false, b := 64 * ((q.acqSum + edges : Nat) : Int) } ∧
          KeepsBut [.pwr, .attn] u t) ∧
        (4 ≤ q.acq → q.armed = false → d < (fieldAt (s.sillEntry g) 2 2 : Int) → Runs (.sillReading tk g edges) s fun t =>
          t.pwr.sills.getD g .idle = { q with
            last := edges, above := false, b := q.b + asr (256 * (edges : Int) - q.b) (if d < 0 then 2 else s.snat 0x403) } ∧
          t.pwr.waking = none ∧ KeepsBut [.pwr, .attn] u t) ∧
        (4 ≤ q.acq → q.armed = false → q.above = false → (fieldAt (s.sillEntry g) 2 2 : Int) ≤ d → s.snat 0x402 ≤ 1 →
          s.snat 0x404 = 0 → Runs (.sillReading tk g edges) s fun t =>
          t.pwr.waking = some (1, 3, some (s.pnat 0x111)) ∧ t.pwr.wakeT = u.now ∧ t.pwr.periodT = none ∧
          KeepsBut [.time, .pwr, .attn] u t)) ∧
      (edges < 16 → (∃ h, h ≠ g ∧ h < s.pwr.sills.length ∧ (s.pwr.sills.getD h .idle).live = true) →
        Runs (.sillReading tk g edges) s fun t =>
          (t.pwr.sills.getD g .idle).faulty = true ∧ t.pwr.st = 1 ∧
          t.tally = (tally 0x407 (d48 [(8, g), (8, 0), (16, edges)]) u).tally ∧ KeepsBut (.pwr :: tallyComps) u t))

/-- The host's sleep, idle time and the wake check (08 R242 to R244, R544): HSLEEP sets and clears the sleeping host and requests sleep_state;
a surface idle for its time asks for DOZE; a wake check that no record ended fails with event 0x0405. -/
def Obligations.SleepingHostAndIdleTime : Prop :=
  ∀ (s : State) (tk : Tick), s.calm →
    let u := s.entered tk
    (s.pwr.hsleep = false → s.asleep = false → s.pwr.wakeCheck = false →
      (s.pnat 0x40C = 0 → Runs (.hsleepRise tk) s fun t =>
        t.pwr = { s.pwr with hsleep := true, sleepFrom := some u.now } ∧ KeepsBut [.pwr, .attn] u t) ∧
      (s.pnat 0x40C = 3 → 2 ≤ s.pwr.st.toNat → s.trust.boundary = false → s.scan.phase = .frames →
        s.scan.stage ≠ .none → s.scan.stage ≠ .written →
        Runs (.hsleepRise tk) s fun t => t.pwr.hsleep = true ∧ t.pwr.entry = some ⟨0, 7, none⟩ ∧ t.scan.phase = .stopping)) ∧
    (s.pwr.hsleep = true → s.pwr.hostAsleep = false →
      Runs (.hsleepFall tk) s fun t =>
        t.pwr = { s.pwr with hsleep := false, sleepFrom := none } ∧ KeepsBut [.pwr, .attn] u t) ∧
    (s.scan.phase = .frames → s.casc.role ≠ .member → s.trk.contacts = [] → s.pwr.wakeCheck = false → s.pwr.st = 3 → s.pnat 0x409 ≠ 0 →
      reached u.now (s.pwr.idleFrom + BitVec.ofNat 56 (8388608 * s.pnat 0x409)) = true → s.trust.boundary = false →
      Runs (.idleTimeout tk) s fun t =>
        t.pwr = { s.pwr with next := some (2, 8, s.pnat 0x408) } ∧
        KeepsBut [.pwr, .attn] u t) ∧
    (s.scan.phase = .frames → s.casc.role ≠ .member → s.trk.contacts = [] → s.pwr.wakeCheck = false → s.pwr.st = 2 → s.asleep = true →
      s.pnat 0x40A ≠ 0 → reached u.now (laterOf s.pwr.idleFrom s.pwr.sleepFrom + BitVec.ofNat 56 (8388608 * s.pnat 0x40A)) = true →
      s.trust.boundary = false → s.scan.stage = .decoded →
      Runs (.idleTimeout tk) s fun t =>
        t.pwr = { s.pwr with entry := some ⟨1, 8, none⟩, next := none } ∧
        KeepsBut [.pwr, .attn] u t) ∧
    (checkOver u = true → trivialCheck s = false → s.scan.phase = .frames → s.scan.stage ≠ .none → s.scan.stage ≠ .written →
      Runs (.wakeCheckTimeout tk) s fun t =>
        t.pwr.checkFailed = true ∧ t.scan.phase = .stopping ∧
        t.tally = (tally 0x405 (d48 [(8, s.pwr.wakeCause.toNat), (16, satAt 65535 s.pwr.checkFrames)]) u).tally ∧
        t.report.items = s.report.items.take s.pwr.checkRecs ∧ t.report.head = s.pwr.checkHead ∧ t.report.tail = s.report.tail ∧
        KeepsBut ([.pwr, .scan, .report] ++ tallyComps) u t)

/-- Resets (18 R496, R497, R503, Table 18.2; 12 R370; 08 R246): what every kind reinitialises and what each keeps. -/
def Obligations.ResetsKeepTheirState : Prop :=
  ∀ (s : State) (tk : Tick),
    let u := s.entered tk
    let fresh := fun (t : State) =>
      t.link = .initial ∧ t.attn = .initial ∧ t.cmd = .empty ∧ t.report = .empty ∧ t.image = .empty ∧ t.record = .empty ∧
      t.bench = .initial ∧ t.scan.frameCount = 0 ∧ t.scan.phase = .stopped ∧ t.trk = .initial ∧ t.front.lines = [] ∧
      t.front.driveRev = false ∧ t.front.senseRev = false ∧ t.trust.unlocked = false ∧ t.trust.keyHash = s.trust.keyHash ∧
      t.trust.revoked = s.trust.revoked ∧ t.trust.rollback = s.trust.rollback ∧ (s.mem.saving = [] → t.mem.flash = s.mem.flash) ∧
      t.boot.phase = .held ∧ t.pwr.pd1 = false ∧ t.pwr.pd2 = false ∧ t.pwr.pd4 = false
    let kept := fun (t : State) =>
      t.time.t.toNat = u.now.toNat / 256 * 256 ∧ t.time.calendarSet = s.time.calendarSet ∧ t.time.calOffset = s.time.calOffset ∧
      t.time.sourceFault = s.time.sourceFault ∧ t.time.poleFault = s.time.poleFault ∧ t.tally.seq = s.tally.seq ∧
      t.tally.epoch = s.tally.epoch ∧ t.tally.kept = s.tally.kept
    let boots := fun (kind : ResetKind) (t : State) =>
      fresh t ∧ kept t ∧ t.boot.kind = kind ∧ (kind = .warm → t.params = s.params ∧ t.tel = s.tel) ∧
      (kind ≠ .warm → t.params = [] ∧ t.tel = { Tel.initial with clearedAt := t.time.t, dayFrom := t.time.t, periodFrom := t.time.t })
    (∀ ns : Nat, s.pwr.onVbk = false → s.boot.heldT ≠ none ∨ s.boot.phase ≠ .held →
      (10000 ≤ ns → Runs (.resetNLow tk ns) s (boots .boot)) ∧
      (ns < 1000 → s.calm → Runs (.resetNLow tk ns) s fun t => KeepsBut [.attn] u t)) ∧
    Runs (.powerOnReset tk true) s (fun t => boots .vddReturn t ∧ t.trust.ir = 2) ∧
    Runs (.powerOnReset tk false) s (fun t =>
      fresh t ∧ t.time = .initial ∧ t.tally = .initial ∧ t.params = [] ∧ t.tel = .initial ∧ t.trust.ir = 2) ∧
    (s.pwr.onVbk = false →
      let old := s.pwr.st.toNat
      let v := { u with pwr := { u.pwr with pd1 := false, pd2 := false, pd4 := false } }
      let told := tally 0x404 (d48 [(8, old)]) v
      Runs (.vddLoss tk true) s fun t =>
        fresh t ∧ t.pwr.st = 0 ∧ t.pwr.onVbk = true ∧ t.params = [] ∧ t.time.calOffset = s.time.calOffset ∧
        t.tally.kept = (if old = 0 then told else tally 0x403 (d48 [(8, old), (8, 0), (8, 11)]) told).tally.kept) ∧
    (s.pwr.onVbk = false → Runs (.vddLoss tk false) s fun t => fresh t ∧ t.time = .initial ∧ t.tally = .initial ∧ t.params = []) ∧
    (∀ (k : Nat) (t0 : Time), s.bench.resetArmed = some (k, some t0) → reached u.now (t0 + BitVec.ofNat 56 8388608) = true →
      Runs (.resetReplyTimeout tk) s (boots (if k = 0 then (if s.link.mode = 2 then .boot else .warm) else if k = 1 then .boot
        else .recovery)))

/-- The boot (18 R498, R500, R504; 14 R427, R435; 15 R450, R463): the release after 4 beats, PD1 and PD4, node memory, discovery, verification,
and recovery with its event 0x0A15. -/
def Obligations.TheBootGoesOn : Prop :=
  ∀ (s : State) (tk : Tick), s.calm →
    let u := s.entered tk
    (∀ (t0 : Time) (mode : BitVec 2) (rn : Bool), s.boot.phase = .held → s.boot.heldT = some t0 → reached u.now (t0 + 1024) = true →
      Runs (.internalResetRelease tk mode rn) s fun t =>
        t.boot.phase = .released ∧ t.boot.releaseT = some u.now ∧ t.link.busy = true ∧ t.link.mode = 1 ∧ t.pwr.st = 3 ∧
        t.pwr.wakeCause = 6 ∧ t.time.stage = .waitEdge ∧ t.time.vcoreMv = 900 ∧
        (s.boot.kind = .warm → t.casc.role = s.casc.role) ∧
        (s.boot.kind ≠ .warm → t.casc.role = roleOf s.part mode ∧ t.boot.recoverLow = !rn) ∧
        KeepsBut ([.boot, .link, .pwr, .time, .casc] ++ tallyComps) u t) ∧
    (∀ (t0 : Time) (bad : Nat), s.boot.phase = .released → s.boot.releaseT = some t0 → reached u.now (t0 + 1024) = true →
      Runs (.pd1Pd4Ready tk bad) s fun t =>
        t.boot = { s.boot with phase := .starting } ∧ t.pwr.pd1 = true ∧ t.pwr.pd4 = true ∧ t.time.stage = s.time.stage ∧
        KeepsBut [.boot, .pwr, .time, .plane, .casc, .attn, .trk] u t) ∧
    (s.boot.phase = .starting → s.boot.nodeInit = false → s.boot.kind ≠ .warm →
      Runs (.nodeMemoryInitComplete tk) s fun t =>
        t.boot = { s.boot with nodeInit := true } ∧ t.cmd = .empty ∧ t.report = .empty ∧ t.image = .empty ∧ t.record = .empty ∧
        KeepsBut [.boot, .cmd, .report, .image, .record, .attn] u t) ∧
    (∀ (f : Sfdp) (h : SfdpHeader), s.boot.discovered = false → s.pwr.pd1 = true → s.boot.phase = .done → sfdpItem f = 0 →
      bfptHeader f = some h →
      Runs (.discoveryComplete tk f) s fun t =>
        let r := readInstrOf h.table (s.pnat 0xA01)
        t.mem = { s.mem with size := h.table.density, jedec := f.jedec, eraseMin := 4096, readWidth := r.1.width
                             readInstr := r.1, readClocks := r.2, sckMax := sckKhz (s.pnat 0xA00)
                             erase64 := h.table.erase64k.getD 0, bfptRead := min 16 h.dwords
                             issued := discoverySeq (r.1.width == 2) } ∧
        t.boot = { s.boot with discovered := true, discoveryFailed := false } ∧
        t.tally = (tally 0xA01 (d48 [(24, f.jedec), (8, h.table.density.log2), (8, t.mem.readWidth)]) u).tally ∧
        KeepsBut ([.mem, .boot] ++ tallyComps) u t) ∧
    (∀ f : Sfdp, s.boot.discovered = false → s.pwr.pd1 = true → s.boot.phase = .done → sfdpItem f ≠ 0 → recordsNow s →
      Runs (.discoveryComplete tk f) s fun t =>
        t.mem.size = 0 ∧ t.boot = { s.boot with discovered := true, discoveryFailed := true } ∧
        t.tally = (tally 0xA02 (d48 [(8, sfdpItem f)]) u).tally ∧
        t.report = u.reportPlus ([8, 0x0A, 4] ++ leBytes 1 s.tileNo ++ [0xFF, 0] ++ leBytes 2 0xFFFF ++ leBytes 4 0 ++ leBytes 4 u.low32) ∧
        KeepsBut ([.mem, .boot] ++ recordComps) u t) ∧
    (∀ n : Nat, n ≤ 1 → s.pwr.pd1 = true → s.boot.verifySlot = some (n, false) → s.boot.phase = .verifying →
      let img := s.slotBytes n
      let v := imgVerdict s.part s.trust img
      (v ≠ 0 → img ≠ [] → n < s.mem.slotState.length → slotUnread img = true → recordsNow s →
        Runs (.imageVerificationComplete tk true) s fun t =>
          t.mem.slotState = s.mem.slotState.set n 2 ∧ t.mem.failSeen = true ∧
          t.report = u.reportPlus ([8, 0x0A, 1] ++ leBytes 1 s.tileNo ++ leBytes 1 (1 + n) ++ [0] ++ leBytes 2 (1 + 64 * n) ++
            leBytes 4 (4096 * (1 + 64 * n)) ++ leBytes 4 u.low32)) ∧
      (v ≠ 0 → img ≠ [] → n < s.mem.slotState.length → slotUnread img = false →
        Runs (.imageVerificationComplete tk true) s fun t =>
          t.boot = { s.boot with verifySlot := some (1 - n, true) } ∧ t.mem.slotState = s.mem.slotState.set n 2 ∧
          (if n = 0 then t.trust.verdictA else t.trust.verdictB) = v ∧
          t.tally = (tally 0xA10 (d48 [(8, n), (8, v), (8, imgKeySlot img)]) u).tally ∧
          KeepsBut ([.boot, .mem, .trust] ++ tallyComps) u t) ∧
      (v = 0 → pointerSlot s = (n, true) → s.boot.recoveryDue = none → s.casc.role ≠ .member →
        Runs (.imageVerificationComplete tk true) s fun t =>
          t.boot.phase = .done ∧ t.link.busy = false ∧ t.link.mode = 0 ∧ t.mem.bootSlot = some n ∧
          t.mem.keySlot = some (imgKeySlot img) ∧ t.mem.rollback = imgRollback img)) ∧
    (∀ c : Nat, s.boot.recoveryDue = some c → s.boot.nodeInit = true → s.boot.phase ≠ .done →
      Runs (.recoveryEntry tk) s fun t =>
        t.boot = { s.boot with phase := .done, recovery := c, recoveryDue := none } ∧ t.link.busy = false ∧ t.link.mode = 2 ∧
        t.params = [] ∧ t.mem.bootSlot = none ∧
        KeepsBut ([.boot, .link, .params, .mem, .casc] ++ tallyComps) u t)

/-! ## The sensor bus (chapter 13) -/

/-- The bus start (13 R401, R402, R406, R407): VBR on and the settling time; lines low are watched for 820 beats, then VBR is off for 1,639 and
settles again; free lines make the bus ready with its roles, its record and event 0x0701, and lines still low make it stuck. On a ready bus the
first job of R413's order starts: alert responses, then transfers, environment reads and probes; a job that lost arbitration, or whose
address was not acknowledged, starts again (R404, R410); another controller's START makes the bus busy (R399), for the
bus-free time at least, which is the model's choice (log 102). -/
def Obligations.TheBusStarts : Prop :=
  ∀ (s : State) (tk : Tick), s.calm → s.pwr.pd1 = true →
    let u := s.entered tk
    let late := reached u.now s.bus.stageT = true
    let after := fun (beats : Nat) => u.now + BitVec.ofNat 56 (256 * beats)
    let starts := fun (j : BusJob) (t : State) =>
      t.bus.job = some j ∧ t.bus.active = true ∧ t.bus.foreign = false ∧ t.bus.jobT = u.now ∧ t.bus.retries = 0 ∧ t.bus.arbs = 0 ∧
      t.bus.retryT = none ∧ KeepsBut [.bus, .attn] u t
    (busOpen s = true → busFree u = true → s.bus.job = none →
      (∀ n r, s.bus.alerts = n :: r → Runs (.busJobStart tk) s fun t => starts (.alert n) t ∧ t.bus.alerts = r ∧ t.bus.xfers = s.bus.xfers) ∧
      (∀ j r, s.bus.alerts = [] → s.bus.xfers = j :: r → Runs (.busJobStart tk) s fun t => starts j t ∧ t.bus.xfers = r) ∧
      (∀ h r, s.bus.alerts = [] → s.bus.xfers = [] → s.bus.envDue = h :: r →
        Runs (.busJobStart tk) s fun t => starts (.env h) t ∧ t.bus.envDue = r ∧ t.bus.roll = s.bus.roll) ∧
      (∀ l e r, s.bus.alerts = [] → s.bus.xfers = [] → s.bus.envDue = [] → s.bus.roll = some l → l.filter s.entryUsed = e :: r →
        Runs (.busJobStart tk) s fun t => starts (.probe e) t ∧ t.bus.roll = some r)) ∧
    (busOpen s = true → s.bus.job.isSome = true →
      (s.bus.retryT = none → busFree u = true → Runs (.busJobStart tk) s fun t =>
        t.bus = { s.bus with active := true, foreign := false } ∧ KeepsBut [.bus, .attn] u t) ∧
      (∀ t0 : Time, s.bus.retryT = some t0 → reached u.now t0 = true → busFree u = true → Runs (.addressRetry tk) s fun t =>
        t.bus = { s.bus with active := true, retryT := none, foreign := false } ∧ KeepsBut [.bus, .attn] u t)) ∧
    (busOpen s = true → s.bus.foreign = false → Runs (.busBusy tk) s fun t =>
      t.bus = { s.bus with foreign := true, waitT := u.now, freeT := some (u.now + BitVec.ofNat 56 (busFreeTicks s.bus.speed)) } ∧ KeepsBut [.bus, .attn] u t) ∧
    (s.bus.phase = .starting → s.bus.stage = .none → late →
      Runs (.busStart tk) s fun t =>
        t.bus.vbr = 1 ∧ t.bus.stage = .settle ∧ t.bus.stageT = after (s.pnat 0x70C) ∧ t.bus.settle = s.pnat 0x70C ∧ t.bus.phase = .starting ∧
        (s.bus.vbr ≠ 1 → t.bus.vbrT = u.now) ∧ (s.bus.vbr = 1 → t.bus.vbrT = s.bus.vbrT) ∧
        (∀ e < 32, let p := s.bus.partners.getD e .unused
          t.bus.partners.getD e .unused = if s.entryUsed e = true ∧ p.state ≠ 1
            then { p with state := 1, misses := 0, changed := u.ownLow } else p) ∧
        KeepsBut [.bus, .attn] u t) ∧
    (∀ (scl sda : Bool) (probe : Option (Bool × Nat)), (scl && sda) = false →
      (s.bus.stage = .settle → late → Runs (.busStartTimer tk scl sda probe) s fun t =>
        t.bus = { s.bus with stage := .watch, stageT := after 820 } ∧ KeepsBut [.bus, .attn] u t) ∧
      (s.bus.stage = .watch → late → Runs (.busStartTimer tk scl sda probe) s fun t =>
        t.bus = { s.bus with stage := .offWait, stageT := after 1639, vbr := 0, vbrT := u.now } ∧ KeepsBut [.bus, .attn] u t) ∧
      (s.bus.stage = .settle2 → late → s.bus.recovering = false → recordsNow s → s.bus.job = none → s.bus.xfers = [] → s.bus.envDue = [] →
        s.bus.rollTags = [] → s.bus.rollTagsNext = [] →
        let lines := bitOf (!scl) 0 + bitOf (!sda) 1
        Runs (.busStartTimer tk scl sda probe) s fun t =>
          t.bus.phase = .stuck ∧ t.bus.stage = .none ∧ t.bus.wasStuck = true ∧ t.bus.roll = none ∧ t.bus.alerts = [] ∧
          t.report = u.reportPlus (partnerBytes u 6 0xFF 0xFF 0xFF lines 1) ∧
          t.tally = (tally 0x701 (d48 [(8, s.bus.roles), (8, 1)]) (tally 0x703 (d48 [(8, lines), (8, 1)]) u)).tally ∧
          KeepsBut (.bus :: recordComps) u t)) ∧
    (∀ (scl sda : Bool) (probe : Option (Bool × Nat)), s.bus.stage = .offWait → late → s.bus.vbr ≠ 1 →
      Runs (.busStartTimer tk scl sda probe) s fun t =>
        t.bus = { s.bus with stage := .settle2, stageT := after s.bus.settle, vbr := 1, vbrT := u.now } ∧
        KeepsBut [.bus, .attn] u t) ∧
    (∀ probe : Option (Bool × Nat), s.bus.recovering = false → s.bus.stage = .watch ∨ (s.bus.stage = .settle ∨ s.bus.stage = .settle2) ∧ late →
      recordsNow s → s.pnat 0x702 ≠ 2 → s.bus.keepRoles = false → s.bus.wasStuck = false →
      Runs (.busStartTimer tk true true probe) s fun t =>
        let roles := s.pnat 0x702
        t.bus.phase = .ready ∧ t.bus.stage = .none ∧ t.bus.roles = roles ∧ t.bus.exchanged = (roles == 1) ∧ t.bus.speed = s.pnat 0x701 ∧
        t.bus.envT = [some (u.now + BitVec.ofNat 56 (msTicks (fieldAt (s.envEntry false) 6 2))),
          some (u.now + BitVec.ofNat 56 (msTicks (fieldAt (s.envEntry true) 6 2)))] ∧
        (s.bus.roll = none → s.usedEntries ≠ [] → t.bus.roll = some s.usedEntries ∧ t.bus.rollFrom = some u.now) ∧
        (s.bus.roll = none → s.bus.rollAgain = false → s.usedEntries = [] → t.bus.roll = none ∧ t.bus.rollFrom = some u.now) ∧
        (s.bus.roll.isSome = true → t.bus.roll = s.bus.roll ∧ t.bus.rollAgain = true ∧ t.bus.rollTags = s.bus.rollTags) ∧
        ((s.outstanding 0x42).isSome = true → t.bus.branchDone = some 0) ∧
        t.report = u.reportPlus (partnerBytes u 5 0xFF 0xFF 0xFF roles 0xFF) ∧
        t.tally = (tally 0x701 (d48 [(8, roles), (8, 0)]) u).tally ∧ KeepsBut (.bus :: recordComps) u t)

/-- Ends of jobs (13 R403 to R405, R410, R411, R413): a retry after an unacknowledged address, arbitration lost, lines held low; the
outcomes of a transfer with their final replies. A reply that is ready while that of an earlier command of the unit is not waits
for its turn (12 R364). The reply gives what the last attempt had moved (13 R403); of an attempt cut in the midst of its bytes that is
free: the next of the free values (log 2). -/
def Obligations.BusJobsRun : Prop :=
  ∀ (s : State) (tk : Tick), s.calm →
    let u := s.entered tk
    let stretched := reached u.now (s.bus.jobT + BitVec.ofNat 56 (msTicks (s.pnat 0x705))) = true
    (s.bus.job.isSome = true → s.bus.active = true →
      (s.bus.retries < s.pnat 0x706 → Runs (.busTransactionEnd tk .nackAddress) s fun t =>
        t.bus = { s.bus with active := false, retries := s.bus.retries + 1, moved := (0, [])
                             retryT := some (u.now + BitVec.ofNat 56 (busFreeTicks s.bus.speed + 256 * s.pnat 0x707)) } ∧
        KeepsBut [.bus, .attn] u t) ∧
      (s.bus.recovering = false → s.bus.arbs < 3 → Runs (.arbitrationLost tk) s fun t =>
        t.bus = { s.bus with arbs := s.bus.arbs + 1, active := false, retryT := none, foreign := true, waitT := u.now
                             freeT := some (u.now + BitVec.ofNat 56 (busFreeTicks s.bus.speed)), moved := t.bus.moved } ∧
        (∀ j, s.bus.job = some j → t.bus.moved.1 ≤ (jobShape s j).1 + (jobShape s j).2.1 ∧
          t.bus.moved.2.length = t.bus.moved.1 - (jobShape s j).1) ∧
        KeepsBut [.bus, .attn, .freeIdx] u t) ∧
      (∀ (scl sda : Bool) (j : BusJob), s.bus.job = some j → s.bus.recovering = false → (scl && sda) = false → stretched →
        Runs (.clockStretchTimeout tk scl sda) s fun t =>
          t.bus = { s.bus with recovering := true, stage := .watch, stageT := u.now + BitVec.ofNat 56 209920 } ∧
          t.tally = (tally 0x705 (d48 [(8, jobAddress s j)]) u).tally ∧ KeepsBut (.bus :: tallyComps) u t)) ∧
    (∀ (tag addr form rlen : Nat) (wdata : List Byte) (d : Deferred), s.bus.job = some (.xfer tag addr form wdata rlen) →
      s.bus.branchDue = [] → s.bus.rolesDue = false → s.running.find? (fun d => d.tag == tag) = some d → d.opcode = 0x40 → s.atTurn d →
      writesNow s (2 + rlen) → s.bus.moved.2.length ≤ rlen →
      let ended := fun (t : State) => t.bus.job = none ∧ t.bus.active = false ∧ t.bus.branchDue = [] ∧ t.bus.xfers = s.bus.xfers
      let quiet := fun (t : State) => ended t ∧ KeepsBut [.bus, .bench, .attn, .report, .pwr, .trk] u t
      let n := u.draw.1 % (wdata.length + rlen + 1)
      let moved := if s.bus.active then (n, leBytes (n - wdata.length) u.draw.2.draw.1) else s.bus.moved
      let data := leBytes 2 moved.1 ++ moved.2
      let cut := fun (i : Instr) (st : Nat) (q : State → Prop) => Finishes i s u d st data q
      let quietCut := fun (t : State) => ended t ∧ KeepsBut [.bus, .bench, .attn, .report, .pwr, .trk, .freeIdx] u t
      (s.bus.active = true →
        (s.pnat 0x706 ≤ s.bus.retries → Finishes (.busTransactionEnd tk .nackAddress) s u d 10 (leBytes 2 0) quiet) ∧
        (∀ n, n + 1 < wdata.length ∨ (n + 1 = wdata.length ∧ form = 2) →
          Finishes (.busTransactionEnd tk (.nackByte n)) s u d 10 (leBytes 2 n) quiet) ∧
        (∀ n, n + 1 = wdata.length → form ≠ 2 → Finishes (.busTransactionEnd tk (.nackByte n)) s u d 0 (leBytes 2 n) quiet) ∧
        (form = 2 → Finishes (.busTransactionEnd tk .nackRestart) s u d 10 (leBytes 2 wdata.length) quiet) ∧
        (∀ read, read.length = rlen → Finishes (.busTransactionEnd tk (.moved read)) s u d 0 (leBytes 2 (wdata.length + rlen) ++ read) quiet)) ∧
      (s.bus.active = true → s.bus.recovering = false →
        (3 ≤ s.bus.arbs → cut (.arbitrationLost tk) 11 quietCut) ∧
        (stretched → cut (.clockStretchTimeout tk true true) 9 fun t => ended t ∧ t.bus.stage = .none ∧ t.bus.phase = s.bus.phase ∧
          t.tally = (tally 0x705 (d48 [(8, addr)]) u).tally) ∧
        (∀ atStop : Bool, s.bench.faultQueue = [] → s.reportFits ((14 + (2 + rlen) + 15) / 16 * 16 + 16) = true →
          let rest := s.bench.outstanding.filter (fun e => e.tag != d.tag)
          let point := if atStop then 1 else 2
          let reply := u.reportWith ⟨d.tag, d.opcode, 11, 2, d.seq, data, .plain⟩ rest.length
          Runs (.arbitrationLostAtStop tk atStop) s fun t => ended t ∧ t.bench.outstanding = rest ∧
            t.report = reply.put s.reportSize ⟨partnerBytes u 10 addr 0xFF 0xFF point 0, .plain⟩ ∧
            t.tally = (tally 0x706 (d48 [(8, addr), (8, point)]) u).tally ∧ KeepsBut ([.bus, .freeIdx] ++ recordComps) u t)) ∧
      (s.bus.recovering = false → reached u.now (s.bus.jobT + BitVec.ofNat 56 8388608) = true → cut (.busJobTimeLimit tk) 9 quietCut) ∧
      (s.bus.foreign = true → busOpen s = true → reached u.now (s.bus.waitT + BitVec.ofNat 56 8388608) = true →
        Finishes (.busFreeTimeout tk) s u d 9 (leBytes 2 s.bus.moved.1 ++ s.bus.moved.2) fun t => quiet t ∧ t.bus.waitT = u.now)) ∧
    (∀ (tag addr form rlen : Nat) (wdata read : List Byte) (d : Deferred), s.bus.job = some (.xfer tag addr form wdata rlen) →
      s.bus.active = true → s.bus.branchDue = [] → s.running.find? (fun d => d.tag == tag) = some d → s.ahead d = true →
      read.length = rlen →
      Runs (.busTransactionEnd tk (.moved read)) s fun t =>
        t.bench = { s.bench with
          turn := s.bench.turn ++ [⟨d.tag, d.opcode, 0, 2, d.seq, leBytes 2 (wdata.length + rlen) ++ read, .plain⟩] } ∧
        t.bus.job = none ∧ KeepsBut [.bus, .bench, .attn] u t)

/-- Partners, alerts, the environment feed and VBR (13 R407, R409, R412, R415, R416, R419, R420, Table 13.4): probes, the roll call,
alert responses, due reads, and the supply switch. Final replies of the bus's commands stand in ring order (12 R364): one that is
ready sooner follows the roll call's. -/
def Obligations.PartnersAreWatched : Prop :=
  ∀ (s : State) (tk : Tick), s.calm →
    let u := s.entered tk
    (∀ e : Nat, e < 32 → s.bus.partners.length = 32 → s.bus.job = some (.probe e) → s.bus.active = true → s.bus.discard = false →
      s.bus.branchDue = [] →
      let p := s.bus.partners.getD e .unused
      let v := s.rollEntry e
      (∀ b : Byte, byteAt v 1 = 2 → s.bus.jobEntry = v → recordsNow s →
        let hit := byteAt v 4 = 0 ∨ (b.toNat &&& byteAt v 4) = byteAt v 3
        let seen := { p with misses := 0, lastByte := b.toNat, seen := u.ownLow }
        Runs (.busTransactionEnd tk (.moved [b])) s fun t =>
          (hit → p.state = 2 → t.bus.partners.getD e .unused = seen ∧ KeepsBut [.bus, .attn] u t) ∧
          (hit → p.state ≠ 2 → t.bus.partners.getD e .unused = { seen with state := 2, changed := u.ownLow } ∧
            t.report = u.reportPlus (partnerBytes u 1 (byteAt v 0) e 2 p.state b.toNat)) ∧
          (¬ hit → p.state ≠ 4 → t.bus.partners.getD e .unused = { seen with state := 4, changed := u.ownLow } ∧
            t.report = u.reportPlus (partnerBytes u 3 (byteAt v 0) e 4 p.state b.toNat)) ∧
          KeepsBut (.bus :: recordComps) u t) ∧
      (s.pnat 0x706 ≤ s.bus.retries → p.misses + 1 < s.pnat 0x70A → p.misses < 255 → Runs (.busTransactionEnd tk .nackAddress) s fun t =>
        t.bus.partners.getD e .unused = { p with misses := p.misses + 1 } ∧ KeepsBut [.bus, .attn] u t) ∧
      (s.pnat 0x706 ≤ s.bus.retries → s.pnat 0x70A ≤ p.misses + 1 → p.misses < 255 → p.state ≠ 3 → recordsNow s →
        Runs (.busTransactionEnd tk .nackAddress) s fun t =>
          t.bus.partners.getD e .unused = { p with misses := p.misses + 1, state := 3, changed := u.ownLow } ∧
          t.report = u.reportPlus (partnerBytes u 2 (byteAt v 0) e 3 p.state (p.misses + 1)) ∧ KeepsBut (.bus :: recordComps) u t)) ∧
    (∀ (n : Nat) (b : Byte), s.bus.job = some (.alert n) → s.bus.active = true → s.bus.alerts = [] → s.bus.branchDue = [] → recordsNow s →
      Runs (.busTransactionEnd tk (.moved [b])) s fun t =>
        t.report = u.reportPlus (partnerBytes u 4 (b.toNat / 2) 0xFF 0xFF n 0) ∧
        t.bus.alerts = (if s.bus.alertLow = true ∧ n < 8 ∧ s.bus.phase = .ready then [n + 1] else []) ∧
        KeepsBut (.bus :: recordComps) u t) ∧
    (∀ low : Bool, s.pwr.pd1 = true → Runs (.sbAlertChange tk low) s fun t =>
      t.bus.alertLow = low ∧
      (low = true → s.bus.alertLow = false → s.pnat 0x708 = 1 → s.bus.phase = .ready ∨ s.bus.phase = .starting →
        t.bus.alerts = s.bus.alerts ++ [1]) ∧
      (low = false → t.bus.alerts = s.bus.alerts) ∧ KeepsBut [.bus, .attn] u t) ∧
    (∀ t0 : Time, s.bus.rollFrom = some t0 → s.pnat 0x709 ≠ 0 → s.pwr.pd1 = true → s.bus.phase = .ready →
      reached u.now (t0 + BitVec.ofNat 56 (8388608 * s.pnat 0x709)) = true →
      (s.bus.roll = none → Runs (.rollcallDue tk) s fun t =>
        t.bus = { s.bus with roll := some s.usedEntries, rollFrom := some u.now, rollAgain := false
                             rollTags := s.bus.rollTagsNext, rollTagsNext := [] } ∧ KeepsBut [.bus, .attn] u t) ∧
      (s.bus.roll.isSome = true → rollOver s = false → Runs (.rollcallDue tk) s fun t =>
        t.bus = { s.bus with rollAgain := true } ∧ KeepsBut [.bus, .attn] u t)) ∧
    (∀ (tag : Nat) (d : Deferred), rollOver s = true → s.bus.rollTags = [tag] → s.bus.rollAgain = false →
      s.running.find? (fun d => d.tag == tag) = some d → d.opcode = 0x41 → s.atTurn d → writesNow s 392 →
      Finishes (.rollcallEnd tk) s u d 0 (partnerTable u) fun t =>
        t.bus = { s.bus with roll := none, rollTags := [] } ∧ KeepsBut [.bus, .bench, .attn, .report, .pwr, .trk] u t) ∧
    (∀ (d e : Deferred) (r : Reply), rollOver s = true → s.bus.rollTags = [d.tag] → s.bus.rollAgain = false → s.bench.outstanding = [d, e] →
      d.opcode = 0x41 → e.opcode = 0x40 → e.tag ≠ d.tag → s.bench.turn = [r] → r.tag = e.tag → r.opcode = 0x40 → r.kind = 2 → r.mark = .plain →
      s.casc.role ≠ .member → s.bench.held = [] → s.reportFits (416 + r.size) = true →
      Runs (.rollcallEnd tk) s fun t =>
        t.bench = { s.bench with outstanding := [], turn := [] } ∧
        t.report = (u.reportWith ⟨d.tag, 0x41, 0, 2, d.seq, partnerTable u, .plain⟩ 1).put s.reportSize ⟨r.bytes 0, .plain⟩) ∧
    (∀ (humid : Bool) (t0 : Time), s.bus.envT.getD (if humid then 1 else 0) none = some t0 → s.pwr.pd1 = true → reached u.now t0 = true →
      Runs (.envReadDue tk humid) s fun t =>
        t.bus.envT = s.bus.envT.set (if humid then 1 else 0)
          (some (t0 + BitVec.ofNat 56 (msTicks (fieldAt (s.envEntry humid) 6 2)))) ∧
        t.bus.envDue = (if s.bus.phase = .ready ∧ byteAt (s.envEntry humid) 0 ≠ 0xFF ∧ humid ∉ s.bus.envDue
          then s.bus.envDue ++ [humid] else s.bus.envDue) ∧ KeepsBut [.bus, .attn] u t) ∧
    (s.bus.vbr = 1 → s.pwr.pd1 = false → Runs (.vbrCurrentLimit tk) s fun t =>
      t.bus = { s.bus with limitSlept := true, vbr := 0, vbrT := u.now } ∧ KeepsBut [.bus, .attn] u t) ∧
    (s.bus.vbr = 1 → s.pwr.pd1 = true → recordsNow s → s.bus.job = none → s.bus.xfers = [] → s.bus.envDue = [] → s.bus.rollTags = [] →
      s.bus.rollTagsNext = [] → Runs (.vbrCurrentLimit tk) s fun t =>
        t.bus.phase = .stuck ∧ t.bus.stage = .none ∧ t.bus.vbrT = u.now ∧ t.bus.vbr = (if s.bus.closings < 3 then 3 else 2) ∧
        t.report = u.reportPlus (partnerBytes u 8 0xFF 0xFF 0xFF s.bus.closings 0) ∧
        t.tally = (tally 0x704 (d48 [(8, s.bus.closings)]) u).tally ∧ KeepsBut (.bus :: recordComps) u t) ∧
    (s.bus.vbr = 3 → s.pwr.pd1 = true → reached u.now (s.bus.vbrT + BitVec.ofNat 56 8388608) = true → Runs (.vbrReclose tk) s fun t =>
      t.bus.vbr = 1 ∧ t.bus.vbrT = u.now ∧ t.bus.closings = s.bus.closings + 1 ∧ t.bus.phase = .starting ∧ t.bus.stage = .none ∧
      t.bus.stageT = u.now ∧ KeepsBut [.bus, .attn] u t) ∧
    (s.bus.vbr = 1 → 0 < s.bus.closings → reached u.now (s.bus.vbrT + BitVec.ofNat 56 8388608) = true → Runs (.vbrClosingClear tk) s fun t =>
      t.bus = { s.bus with closings := 0 } ∧ KeepsBut [.bus, .attn] u t)

/-! ## The recorder, the flash, trust and telemetry (chapters 14 to 17) -/

/-- Writing to the Tally recorder (16 R470 to R473, R475, R477): a new record takes the next seq of the epoch, an equal open one is counted,
seq 0xFFFFFFFF begins an epoch with record 0x0002, a full retention memory loses its oldest; marks, closing and the drain, when the
port serves it (14 R443). -/
def Obligations.TallyKeepsItsRecords : Prop :=
  (∀ (s : State) (origin code data : Nat),
    let y := s.tally
    let source := 16 * origin + s.tileNo % 16
    let flags := bitOf (!s.pwr.pd1 || y.degraded) 2 + bitOf s.tbFault 1
    let push := fun (r : TallyRec) => if y.kept.length < 64 then y.kept ++ [r] else y.kept.drop 1 ++ [r]
    let t := tallyBy origin code data s
    (y.unavailable = true → t = s) ∧
    (y.unavailable = false → tallyRepeats source code data s = true →
      KeepsBut [.tally] s t ∧ t.tally.kept.length = y.kept.length ∧ t.tally.kept.dropLast = y.kept.dropLast ∧
      t.tally.kept.getLast? = y.kept.getLast?.map fun r => { r with count := r.count + 1 }) ∧
    (y.unavailable = false → tallyRepeats source code data s = false → KeepsBut tallyComps s t ∧
      (y.started = false ∨ y.seq ≠ 0xFFFFFFFF →
        let n := if y.started then y.seq + 1 else y.seq
        t.tally.kept = push ⟨y.epoch, n, code, source, flags, 0, data⟩ ∧ t.tally.seq = n ∧ t.tally.epoch = y.epoch ∧
        t.tally.openT = (if code = 1 ∨ code = 2 ∨ code = 7 then none else some s.now)) ∧
      (y.started = true → y.seq = 0xFFFFFFFF → y.kept.length + 2 ≤ 64 →
        let e := (y.epoch + 1) % 65536
        t.tally.kept = y.kept ++ [⟨e, 0, 2, s.tileNo % 16, flags, 0, d48 [(16, y.epoch), (16, e)]⟩, ⟨e, 1, code, source, flags, 0, data⟩] ∧
        t.tally.seq = 1 ∧ t.tally.epoch = e))) ∧
  (∀ (s : State) (tk : Tick), s.calm →
    let u := s.entered tk
    (∀ t0 : Time, s.tally.openT = some t0 → reached u.now (t0 + BitVec.ofNat 56 (8388608 * s.pnat 0x901)) = true →
      Runs (.tallyRecordClose tk) s fun t => t.tally = { s.tally with openT := none } ∧ KeepsBut [.tally, .attn] u t) ∧
    (∀ t0 : Time, s.tally.lastMarkT = some t0 → s.pnat 0x900 ≠ 0 → s.tally.unavailable = false → s.tally.started = true →
      s.tally.seq + 2 ≤ 0xFFFFFFFF → s.tally.kept.length + 2 ≤ 64 →
      reached u.now (beatEnd (t0 + BitVec.ofNat 56 (60 * 8388608 * s.pnat 0x900))) = true →
      let flags := bitOf (!s.pwr.pd1 || s.tally.degraded) 2 + bitOf s.tbFault 1
      let back := s.time.calendarSet && s.tally.lastMarkCal.any fun c => decide (calendar u < c)
      Runs (.tallyTimeMark tk) s fun t =>
        t.tally.kept = s.tally.kept ++ [⟨s.tally.epoch, s.tally.seq + 1, 1, s.tileNo % 16, flags + bitOf back 0, 0, (calendar u).toNat⟩,
          ⟨s.tally.epoch, s.tally.seq + 2, 7, s.tileNo % 16, flags, 0, u.now.toNat / 256⟩] ∧
        t.tally.seq = s.tally.seq + 2 ∧ t.tally.openT = none ∧ t.tally.lastMarkT = some u.now ∧ KeepsBut tallyComps u t) ∧
    (∀ r : TallyRec, canDrain s = true → closedRecords s = [r] → s.tally.lostRun = none → portServes u .tallyWrite = true →
      (∀ sec, s.mem.flash.log.getLast? = some sec → sectorTakes s sec r = true →
        Runs (.tallyDrain tk .ok) s fun t =>
          t.mem = { s.mem with flash := { s.mem.flash with log := s.mem.flash.log.dropLast ++ [{ sec with places := sec.places ++ [some r] }] },
                               begun := if s.mem.begun = some .tallyWrite then none else s.mem.begun, issued := programSeq 1 } ∧
          t.tally = { s.tally with kept := s.tally.kept.drop 1, failedRun := 0 } ∧ KeepsBut [.mem, .tally, .attn] u t) ∧
      (∀ n rest, s.mem.flash.log = [] → logSectors s = n :: rest →
        Runs (.tallyDrain tk .ok) s fun t =>
          t.mem.flash.log = [⟨n, r.epoch, r.seq, [some r]⟩] ∧ t.mem.led.tallyErases = s.mem.led.tallyErases + 1 ∧
          t.mem.issued = eraseSectors 1 ++ programSeq 2 ∧
          t.tally = { s.tally with kept := s.tally.kept.drop 1, failedRun := 0 } ∧ KeepsBut [.mem, .tally, .attn] u t)) ∧
    (s.tally.checkedT = none ∨ (∃ t0 : Time, s.tally.checkedT = some t0 ∧ reached u.now (t0 + BitVec.ofNat 56 8388608) = true) →
      Runs (.retentionCheck tk false) s (fun t =>
        t.tally = { s.tally with checkedT := some u.now } ∧ KeepsBut [.tally, .attn] u t) ∧
      (s.tally.unavailable = false → Runs (.retentionCheck tk true) s fun t =>
        t.tally = { s.tally with checkedT := some u.now, unavailable := true, openT := none } ∧
        t.attn.pending.getLsbD 20 = true ∧ KeepsBut [.tally, .attn] u t)))

/-- The flash at rest (06 R160; 14 R440 to R443) and telemetry's periods (17 R493): re-verification, a ledger snapshot, a reference read, the
end of an availability day and a telemetry period. -/
def Obligations.FlashAndTelemetryGoOn : Prop :=
  ∀ (s : State) (tk : Tick), s.calm →
    let u := s.entered tk
    let begun := fun (w : PortWork) => if s.mem.begun = some w then none else s.mem.begun
    (s.pnat 0xA02 ≠ 0 → portServes u .reverify = true → trustIdle s = true → s.pwr.pd1 = true → s.mem.size ≠ 0 → s.mem.session = .closed → s.casc.role ≠ .member → s.mem.spoiled = [] →
      (∀ m < 4, (s.mem.led.place.getD m (0, 0, false, 0, [])).2.2.1 = false) →
      reached u.now (s.mem.verifyT + BitVec.ofNat 56 (8388608 * 3600 * s.pnat 0xA02)) = true →
      ((∀ n < 2, s.slotBytes n = [] ∨ verdictOf false s.part s.trust (s.slotBytes n) = 0) →
        Runs (.reverifyDue tk []) s fun t =>
          t.mem = { s.mem with verifyT := u.now, begun := begun .reverify, issued := [.read]
                               slotState := (s.mem.slotState.set 0 (if s.slotBytes 0 = [] then 0 else 1)).set 1 (if s.slotBytes 1 = [] then 0 else 1) } ∧
          (s.slotBytes 0 ≠ [] → t.trust.verdictA = 0) ∧ (s.slotBytes 1 ≠ [] → t.trust.verdictB = 0) ∧
          KeepsBut [.mem, .trust, .attn] u t) ∧
      (∀ v, v ≠ 0 → s.slotBytes 1 = [] → s.slotBytes 0 ≠ [] → v = verdictOf false s.part s.trust (s.slotBytes 0) → recordsNow s →
        Runs (.reverifyDue tk []) s fun t =>
          t.mem.slotState = (s.mem.slotState.set 0 2).set 1 0 ∧ t.mem.failSeen = true ∧ t.trust.verdictA = v ∧
          t.report = u.reportPlus (memoryBytes u 5 1 1 4096) ∧
          t.tally = (tally 0xA0D (d48 [(8, 1)]) (tally 0xA10 (d48 [(8, 0), (8, v), (8, imgKeySlot (s.slotBytes 0))]) u)).tally ∧
          KeepsBut ([.mem, .trust] ++ recordComps) u t)) ∧
    (snapWaits s = true → s.mem.flash.torn = [] → portServes u .snapshot = true → s.pwr.pd1 = true → 0 < s.mem.size → s.mem.led.retired = [] → s.mem.snapPlace < 12 → s.mem.flash.ledger.length = 12 →
      Runs (.ledgerSnapshot tk .ok) s fun t =>
        t.mem.led = { s.mem.led with seq := s.mem.led.seq + 1 } ∧ t.mem.snapDue = s.mem.snapDue - 1 ∧ t.mem.snapTally = (s.mem.snapTally && decide (0 < s.mem.snapDue)) ∧ t.mem.snapPlace = (s.mem.snapPlace + 1) % 12 ∧
        t.mem.flash.ledger.getD s.mem.snapPlace none = some t.mem.led ∧
        (∀ i < 12, i / 4 ≠ s.mem.snapPlace / 4 → t.mem.flash.ledger.getD i none = s.mem.flash.ledger.getD i none) ∧
        KeepsBut [.mem, .attn] u t) ∧
    (∀ slot : Nat, slot < 4 → s.pwr.pd1 = true → s.mem.size ≠ 0 →
      let img := s.mem.flash.refs.getD slot (0, [])
      Runs (.referenceRead tk slot true) s (fun t =>
        t.mem = { s.mem with refsHeld := s.mem.refsHeld.set slot (some img.2), begun := begun .referenceRead, issued := [.read] } ∧
        t.base = { s.base with refFault := s.base.refFault.erase slot } ∧
        KeepsBut [.mem, .base, .attn] u t) ∧
      (recordsNow s → let sector := if img.1 = 0 then 0x81 + 16 * slot else img.1
        Runs (.referenceRead tk slot false) s fun t =>
          t.mem = { s.mem with refsValid := s.mem.refsValid.set slot false, failSeen := true,
                               begun := begun .referenceRead, issued := [.read, .reRead] } ∧
          t.base = { s.base with refFault := slot :: s.base.refFault.erase slot } ∧
          t.report = u.reportPlus (memoryBytes u 1 (regionOf sector) sector (4096 * sector)) ∧
          t.tally = (tally 0xA0A (d48 [(8, regionOf sector), (16, sector)]) u).tally ∧ KeepsBut ([.mem, .base] ++ recordComps) u t)) ∧
    (s.pwr.pd4 = true → reached u.now (s.tel.dayFrom + BitVec.ofNat 56 (256 * 2831155200)) = true →
      Runs (.availabilityDayEnd tk) s fun t =>
        t.tel = { s.tel with days := (s.tel.today :: s.tel.days).take 30, today := (0, 0)
                             dayFrom := s.tel.dayFrom + BitVec.ofNat 56 (256 * 2831155200) } ∧
        (s.pnat 0xB04 ≠ 0 → s.pnat 0xB04 < lossPpb t.tel → t.attn.pending.getLsbD 24 = true) ∧ KeepsBut [.tel, .attn] u t) ∧
    (s.pwr.pd4 = true → s.pnat 0xB03 ≠ 0 →
      let d := BitVec.ofNat 56 (256 * 32768 * 60 * s.pnat 0xB03)
      reached u.now (s.tel.periodFrom + d) = true →
      Runs (.telemetryPeriod tk) s fun t =>
        t.tel = { s.tel with periodFrom := s.tel.periodFrom + d } ∧ t.attn.pending.getLsbD 24 = true ∧ KeepsBut [.tel, .attn] u t)

/-- Fuses, test access and the challenge (15 R453 to R456, R458 to R461): one fuse step in 64 beats while scanning is stopped, the public and
boundary instructions of the test port, a private one while locked, and a challenge that expires. -/
def Obligations.FusesAndTestPort : Prop :=
  ∀ (s : State) (tk : Tick), s.calm →
    let u := s.entered tk
    (∀ (f : FuseStep) (rest : List FuseStep), s.pwr.st = 3 → s.pwr.pd1 = true → s.scan.phase = .stopped → s.trust.work = f :: rest →
      s.trust.stepT = none ∨ (∃ t0 : Time, s.trust.stepT = some t0 ∧ reached u.now (t0 + BitVec.ofNat 56 16384) = true) →
      (∀ n, f = .revoke n → s.trust.advanceFrom = none → Runs (.fuseStepWhileStopped tk true) s fun t =>
        t.trust = { s.trust with revoked := s.trust.revoked.set n true, work := rest, retry := false, stepT := some u.now } ∧
        t.tally = (tallyBy 2 0xA17 (d48 [(8, n)]) u).tally ∧ KeepsBut (.trust :: tallyComps) u t) ∧
      (∀ n h, f = .provision n h → s.trust.advanceFrom = none → Runs (.fuseStepWhileStopped tk true) s fun t =>
        t.trust = { s.trust with keyHash := s.trust.keyHash.set n h, work := rest, retry := false, stepT := some u.now } ∧
        t.tally = (tallyBy 2 0xA16 (d48 [(8, n)]) u).tally ∧ KeepsBut (.trust :: tallyComps) u t) ∧
      (∀ i, f = .rollback i → rest ≠ [] → Runs (.fuseStepWhileStopped tk true) s fun t =>
        t.trust = { s.trust with rollback := s.trust.rollback.set i 3, advanceFrom := some (s.trust.advanceFrom.getD s.trust.steps)
                                 work := rest, retry := false, stepT := some u.now } ∧
        (s.trust.rollback[i]? = some 0 → t.trust.steps = s.trust.steps + 1) ∧ KeepsBut [.trust, .attn] u t) ∧
      (∀ i, f = .rollback i → rest = [] → s.trust.rollback[i]? = some 0 → s.trust.advanceFrom.getD 0 ≤ s.trust.steps →
        Runs (.fuseStepWhileStopped tk true) s fun t =>
        t.trust = { s.trust with rollback := s.trust.rollback.set i 3, advanceFrom := none, work := [], retry := false, stepT := some u.now } ∧
        t.tally = (tallyBy 2 0xA11 (d48 [(8, s.trust.advanceFrom.getD s.trust.steps), (8, s.trust.steps + 1)]) u).tally ∧ t.trust.steps = s.trust.steps + 1 ∧
        KeepsBut (.trust :: tallyComps) u t) ∧
      (s.trust.retry = false → Runs (.fuseStepWhileStopped tk false) s fun t =>
        t.trust = { s.trust with retry := true, stepT := some u.now } ∧ KeepsBut [.trust, .attn] u t) ∧
      (∀ n, f = .revoke n → s.trust.retry = true → s.trust.advanceFrom = none → Runs (.fuseStepWhileStopped tk false) s fun t =>
        t.trust = { s.trust with work := rest, retry := false, stepT := some u.now } ∧
        t.tally = (tallyBy 2 0xA19 (d48 [(8, 2), (8, n), (8, 2)]) u).tally ∧ KeepsBut (.trust :: tallyComps) u t)) ∧
    (∀ ir : Byte, ir = 1 ∨ ir = 2 ∨ ir = 0xFF → Runs (.tapPublicInstruction tk ir) s fun t =>
      t.trust = { s.trust with ir := ir } ∧ KeepsBut [.trust, .attn] u t) ∧
    (∀ ir : Byte, ir = 0 ∨ ir = 3 ∨ ir = 4 → s.pwr.pd1 = true →
      (s.scan.phase = .stopped → Runs (.tapBoundaryTestMode tk ir) s fun t =>
        t.trust = { s.trust with ir := ir, boundary := true } ∧ t.pwr = { s.pwr with st := 3, ordered := none } ∧ t.attn.pending.getLsbD 21 = true ∧
        t.tally = (tally 0xA18 (d48 [(8, ir.toNat)]) u).tally ∧ KeepsBut ([.trust, .pwr] ++ tallyComps) u t) ∧
      (s.scan.phase = .frames → s.scan.stage = .decoded ∨ s.scan.stage = .combined ∨ s.scan.stage = .tracked →
        Runs (.tapBoundaryTestMode tk ir) s fun t =>
          t.trust = { s.trust with ir := ir, boundary := true } ∧ t.scan = { s.scan with phase := .stopping } ∧
          KeepsBut ([.trust, .pwr, .scan] ++ tallyComps) u t)) ∧
    (∀ ir : Byte, 5 ≤ ir.toNat → ir.toNat ≤ 0xFE → s.trust.unlocked = false → Runs (.tapPrivateInstruction tk ir) s fun t =>
      t.trust = { s.trust with ir := 0xFF, privateSeen := true } ∧
      (s.trust.privateSeen = true → KeepsBut [.trust, .attn] u t) ∧
      (s.trust.privateSeen = false → t.attn.pending.getLsbD 21 = true ∧ t.tally = (tally 0xA14 (d48 [(8, ir.toNat)]) u).tally) ∧
      KeepsBut (.trust :: tallyComps) u t) ∧
    (∀ (c : List Byte) (t0 : Time), s.trust.challenge = some (c, t0) → reached u.now (t0 + BitVec.ofNat 56 (1048576 * 256)) = true →
      Runs (.challengeExpiry tk) s fun t => t.trust = { s.trust with challenge := none } ∧ KeepsBut [.trust, .attn] u t)

/-! ## The cascade (chapter 09) -/

/-- The Tenon ports (09 R262 to R265, Tables 9.12, 9.16): the polarity trials and their restart, RUN with its event 0x0505, a port that goes down with
0x0506, messages with a CRC error, and a mismatched pairing, which faults the port. -/
def Obligations.TenonPortsComeUp : Prop :=
  ∀ (s : State) (tk : Tick) (port : Fin 4), s.calm → s.casc.ports.length = 4 →
    let u := s.entered tk
    let p := s.port port
    let routesSame := s.casc.rerouted = false ∧ s.joinedTiles = []
    let others := fun (t : State) => ∀ q < 4, q ≠ port.val → t.port q = s.port q
    (∀ t0 : Time, p.upFrom = some t0 → p.phase = .bringup → s.pwr.pd1 = true →
      reached u.now (t0 + BitVec.ofNat 56 (2048 * (p.tried + 1))) = true →
      Runs (.tenonPolarityTrial tk port) s fun t =>
        let n := (p.tried + 1) % 4
        t.port port = { p with tried := p.tried + 1, diInv := decide (2 ≤ n), siInv := decide (n = 1 ∨ n = 3) } ∧ others t ∧
        (s.casc.role ≠ .master → KeepsBut [.casc, .attn] u t)) ∧
    (p.phase = .bringup → s.pwr.pd1 = true →
      let inv := bitOf p.diInv 1 + bitOf p.siInv 0
      let rate := if s.casc.planValid then s.casc.rate else 0
      (recordsNow s ∨ s.casc.role = .member → Runs (.tenonRun tk port) s fun t =>
        t.port port = { p with phase := .run, rate := BitVec.ofNat 2 rate, upFrom := none } ∧ others t ∧
        t.tally = (tally 0x505 (d48 [(8, port), (8, inv), (8, rate)]) u).tally) ∧
      (recordsNow s → routesSame → s.casc.enumT = none → s.casc.closedT = none → s.casc.planValid = true → port.val = 0 ∨ port.val = 3 →
        Runs (.tenonRun tk port) s fun t =>
          t.report = u.reportPlus (cascadeBytes u 4 (s.casc.tile.getD 0xFF) port inv) ∧ KeepsBut recordComps u t)) ∧
    (s.portRun port = true → ∀ kind : TenonError, recordsNow s ∨ s.casc.role = .member →
      Runs (.tenonPortDown tk port kind) s fun t =>
        t.port port = { Port.initial with upFrom := some (u.now + BitVec.ofNat 56 128) } ∧ others t ∧
        t.casc.relink = (s.casc.relink || s.casc.tile.isSome) ∧
        t.tally = (tally 0x506 (d48 [(8, port), (8, match kind with | .parity => 1 | .credit => 2 | .disconnect => 3)]) u).tally ∧
        (recordsNow s → routesSame → t.report = u.reportPlus (cascadeBytes u 5 (s.casc.tile.getD 0xFF) port 0) ∧ KeepsBut recordComps u t)) ∧
    (∀ t0 : Time, p.upFrom = some t0 → p.phase = .down → s.pwr.pd1 = true → reached u.now t0 = true →
      Runs (.tenonBringupRestart tk port) s fun t =>
        t.port port = { p with phase := .bringup, upFrom := some u.now, tried := 0 } ∧ others t ∧ KeepsBut [.casc, .attn] u t) ∧
    (∀ msg : List Byte, s.portRun port = true →
      (wireOk msg = false → Runs (.tenonMessageCrcFail tk ⟨port, msg⟩) s fun t =>
        t.tel = { s.tel with tenonCrc := satAt 0xFFFFFFFF (s.tel.tenonCrc + 1) } ∧ KeepsBut [.tel, .attn] u t) ∧
      (wireOk msg = true → Runs (.tenonMessageCrcFail tk ⟨port, msg⟩) s (KeepsBut [.attn] u))) ∧
    (∀ (h : MsgHdr) (body : DirectBody), h.inPort = port → s.portRun port = true → s.casc.role ≠ .standalone → h.port ≠ (port.val + 2) % 4 →
      recordsNow s → routesSame → Runs (.direct tk h body) s fun t =>
        t.port port = { p with phase := .fault } ∧ others t ∧
        t.report = u.reportPlus (cascadeBytes u 9 (s.casc.tile.getD 0xFF) port 0) ∧
        KeepsBut recordComps u t)

/-- Enumeration and joining (09 R271 to R275, R293, R298, R299): a member takes the position that ENUM implies, replies and passes ENUM on; a master
becomes a member; replies place tiles until the window closes; a tile that asks to come back joins, waits, or is refused. That a reply
outside the grid is refused as tile 0xFF (log 50), that a second ENUM on a placed member's port begins a new enumeration (log 81), and
that a master that becomes a member closes its update session (log 104), are the model's choices. -/
def Obligations.TilesEnumerateAndJoin : Prop :=
  ∀ (s : State) (tk : Tick), s.calm →
    let u := s.entered tk
    (∀ h : MsgHdr, s.portRun h.inPort = true → h.port = (h.inPort.val + 2) % 4 →
      (∀ col row : Nat, h.inPort.val = 0 ∨ h.inPort.val = 3 →
        let c := if h.inPort.val = 3 then col + 1 else col
        let r := if h.inPort.val = 3 then row else row + 1
        c ≤ 3 → r ≤ 3 →
        (s.casc.role = .member → s.casc.tile = none → Runs (.enum tk h col row) s fun t =>
          t.casc.tile = some (4 * r + c) ∧ t.casc.relink = false ∧ t.casc.role = .member ∧
          (∃ m ∈ t.casc.out, m.type = 1 ∧ m.payload = .enum c r ∧ m.ports = [1, 2].filter s.portRun) ∧
          KeepsBut [.casc, .tel, .attn] u t) ∧
        (s.casc.role = .member → s.casc.tile = some (4 * r + c) → s.casc.relink = false → Runs (.enum tk h col row) s fun t =>
          t.casc.tile = s.casc.tile ∧
          (s.casc.enumPorts.contains h.inPort.val = false →
            t.casc.out = [] ∧ t.casc.enumPorts = h.inPort.val :: s.casc.enumPorts ∧ KeepsBut [.casc, .attn] u t) ∧
          (s.casc.enumPorts.contains h.inPort.val = true →
            t.casc.enumPorts = [h.inPort.val] ∧ KeepsBut [.casc, .tel, .attn] u t ∧
            ∃ m ∈ t.casc.out, m.type = 1 ∧ m.payload = .enum c r ∧ m.ports = [1, 2].filter s.portRun)) ∧
        (s.casc.role = .master → s.scan.phase = .stopped → Runs (.enum tk h col row) s fun t =>
          t.casc.role = .member ∧ t.casc.tile = some (4 * r + c) ∧ t.casc.planValid = false ∧ t.time.declared = false ∧ t.time.sourceFault = true ∧
          t.time.clk32 = false ∧ t.pwr.syncLow = none ∧ t.attn.wake = .low ∧
          t.mem.session = .closed ∧ t.boot.verifySlot = none ∧
          (s.mem.session = .closed → s.boot.verifySlot = none → s.boot.phase ≠ .verifying →
            (s.running.filter fun d => within 0x52 0x54 d.opcode) = [] →
            t.tally = (tally 0x508 0 u).tally ∧ KeepsBut ([.casc, .tel, .time, .pwr] ++ tallyComps) u t))) ∧
      (∀ (cap : TileCap) (col row : Nat), arrives s h → s.casc.role = .master → s.casc.members.length = 16 →
        (∀ t0 : Time, s.casc.enumT = some t0 → col ≤ 3 → row ≤ 3 → Runs (.enumReply tk h cap col row) s fun t =>
          let m := s.member (4 * row + col)
          t.member (4 * row + col) = { m with placed := true, cap := cap } ∧
          (∀ x < 16, x ≠ 4 * row + col → t.member x = s.member x) ∧
          t.casc.enumT = some (if m.placed = true ∧ m.cap = cap then t0 else u.now) ∧ KeepsBut [.casc, .attn] u t) ∧
        (3 < col ∨ 3 < row → recordsNow s → Runs (.enumReply tk h cap col row) s fun t =>
          t.report = u.reportPlus (cascadeBytes u 3 0xFF 0xFF 8) ∧ t.tally = (tally 0x504 (d48 [(8, 0xFF), (8, 8)]) u).tally ∧
          KeepsBut recordComps u t)) ∧
      (∀ cap : TileCap, arrives s h → s.casc.role = .master → s.casc.members.length = 16 → s.casc.planValid = true → s.casc.enumT = none →
        0 < h.src → h.src ≤ 15 → (s.member h.src).joined = false →
        let k := if (s.member h.src).placed then (s.member h.src).cap else cap
        let room := s.joinedTiles.length + 1 < tileLimit (s.modMember h.src fun m => { m with placed := true, cap := k })
        let fits := cap.driveCount = s.casc.driveCounts.getD (h.src / 4) 0 ∧ cap.senseCount = s.casc.senseCounts.getD (h.src % 4) 0 ∧
          ((s.member h.src).placed = true → (s.member h.src).cap.partCode = cap.partCode) ∧ h.src % 4 < s.casc.cols ∧ h.src / 4 < s.casc.rows
        (s.pnat 0x504 = 1 → Runs (.join tk h cap) s fun t =>
          t.member h.src = { s.member h.src with waiting := true, offer := cap } ∧ KeepsBut [.casc, .attn] u t) ∧
        (s.pnat 0x504 ≠ 1 → recordsNow s → fits → room → Runs (.join tk h cap) s fun t =>
          (t.member h.src).joined = true ∧ (t.member h.src).refused = false ∧
          t.tally = (tally 0x503 (d48 [(8, h.src), (16, s.casc.planId.toNat)]) u).tally ∧
          t.report = u.reportPlus (cascadeBytes t 1 h.src 0xFF 0) ∧ KeepsBut recordComps u t) ∧
        (∀ reason : Nat, s.pnat 0x504 ≠ 1 → recordsNow s → (¬ fits ∧ reason = 4) ∨ (fits ∧ ¬ room ∧ reason = 5) →
          Runs (.join tk h cap) s fun t =>
            (t.member h.src).joined = false ∧ (t.member h.src).refused = true ∧ (t.member h.src).reason = reason ∧
            t.tally = (tally 0x504 (d48 [(8, h.src), (8, reason)]) u).tally ∧
            t.report = u.reportPlus (cascadeBytes t 3 h.src 0xFF reason) ∧ KeepsBut recordComps u t))) ∧
    (∀ t0 : Time, s.casc.role = .master → s.casc.enumT = some t0 → reached u.now (t0 + BitVec.ofNat 56 (256 * s.pnat 0x506)) = true →
      s.casc.resume = none → s.casc.replan = false → Runs (.enumWindowClose tk) s fun t =>
        t.casc.enumT = none ∧ (t.casc.cols, t.casc.rows) = gridOfPlaced s ∧ t.casc.role = .master) ∧
    (∀ t0 : Time, s.casc.role = .master → s.casc.closedT = some t0 → s.casc.members.length = 16 → s.casc.resume = none →
      reached u.now (t0 + BitVec.ofNat 56 8388608) = true → Runs (.memberReadyTimeout tk) s fun t =>
        t.casc.closedT = none ∧ ∀ x < 16, (s.member x).ready = false → (t.member x).joined = false) ∧
    (∀ t0 : Time, s.casc.role = .master → s.casc.closedT = none → s.boot.releaseT = some t0 → s.ownSource = false →
      s.casc.planValid = false → s.casc.enumT = none → s.casc.alone = false → s.boot.phase = .done →
      reached u.now (t0 + BitVec.ofNat 56 8388608) = true → Runs (.memberReadyTimeout tk) s fun t =>
        t.casc.alone = true ∧ t.casc.degraded = true ∧ t.casc.planValid = false ∧ (∀ x < 16, (t.member x).joined = false) ∧
        KeepsBut [.casc, .attn] u t)

/-- Messages between joined tiles (09 R267, R274, R276, R277, R279, R281, R282, R284, R290, R295, R296; 02 R63): what each does on the tile that takes it.
Which of two equal forwards a reply answers is the model's choice (log 103). -/
def Obligations.TilesTakeTheirMessages : Prop :=
  ∀ (s : State) (tk : Tick) (h : MsgHdr), s.calm → arrives s h →
    let u := s.entered tk
    (s.casc.role = .member →
      (∀ n : Nat, Runs (.time tk h n) s fun t =>
        t.time = { u.time with masterDiff := BitVec.ofNat 56 n - u.now } ∧ KeepsBut [.time, .attn] u t) ∧
      let shared := fun (ps : List (Nat × List Byte)) => applyRecords s.part (s.params.filter fun e => !isShared e.1) ps
      (∀ b : PlanBody, s.scan.phase = .frames ∨ (s.scan.phase = .waitFrame ∧ 0 < b.firstFrame ∧ s.bench.owed = none) → Runs (.plan tk h b) s fun t =>
        t.casc.nextPlan = some b ∧ t.casc.told = b.present ∧ t.params = shared b.params ∧
        t.scan = { s.scan with profChange := t.scan.profChange } ∧ KeepsBut [.casc, .tel, .params, .scan, .attn] u t) ∧
      (∀ b : PlanBody, s.scan.phase = .waitFrame → b.firstFrame = 0 → s.bench.owed = none → Runs (.plan tk h b) s fun t =>
        t.casc.planValid = true ∧ t.casc.planId = BitVec.ofNat 16 b.planId ∧ t.casc.cols = b.cols ∧ t.casc.rows = b.rows ∧
        t.casc.codeLog = b.codeLog ∧ t.casc.driveCounts = b.driveCounts ∧ t.casc.senseCounts = b.senseCounts ∧ t.plane.y = [] ∧
        t.params = shared b.params ∧ KeepsBut [.casc, .tel, .params, .plane, .base, .attn] u t) ∧
      (∀ b : DirectBody, b.absorb = [] → b.envTemp = [] → b.envHumid = [] → s.scan.phase ≠ .stopped → s.trust.boundary = false →
        b.power = none ∨ (∃ p, b.power = some p ∧ 2 ≤ p) → Runs (.direct tk h b) s fun t =>
          t.params = shared b.params ∧
          t.scan = { s.scan with namedSet := some b.activeSet, nextLevel := if b.level = s.scan.level then none else some b.level
                                 nextProfile := if b.profile = s.scan.profile then none else some b.profile
                                 profChange := t.scan.profChange } ∧
          t.casc.probeFrom = b.probe ∧ t.casc.probeNow = s.casc.probeNow ∧ t.casc.told = b.present ∧
          t.bench.snapModes = (if b.snap = [] then s.bench.snapModes else b.snap) ∧
          t.pwr = { s.pwr with next := match b.power with
            | some p => if s.pwr.st.toNat = p then none else some (p, 5, b.profile)
            | none => none } ∧
          KeepsBut [.params, .scan, .casc, .bench, .pwr, .attn] u t) ∧
      (∀ bs : List Byte, s.boot.phase = .waitImage ∨ s.boot.phase = .done → Runs (.imageChunk tk h 0 bs) s fun t =>
        t.casc.imageRx = bs ∧
        t.boot = { s.boot with phase := if s.boot.phase = .waitImage ∧ imageWhole bs = true then .verifying else s.boot.phase } ∧
        t.casc.imageDue = (if imageWhole bs = false then none else if s.boot.phase = .done then some u.now else s.casc.imageDue) ∧
        KeepsBut [.casc, .tel, .boot, .attn] u t) ∧
      (∀ bs : List Byte, s.bench.resetArmed.isSome = true ∨ s.boot.phase ≠ .done ∨ s.pwr.pd1 = false →
        Runs (.forward tk h bs) s fun t => KeepsBut [.casc, .tel, .attn] u t) ∧
      (∀ (bs : List Byte) (p : Packet) (n : Nat), s.bench.resetArmed = none → s.boot.phase = .done → s.pwr.pd1 = true → 2 ≤ s.pwr.st.toNat →
        takePacket bs = .packet p n → p.opcode = 0 → p.par = [] → Runs (.forward tk h bs) s fun t =>
          t.bench.packetSeq = s.bench.packetSeq + 1 ∧ KeepsBut [.casc, .tel, .bench, .attn] u t ∧
          ∀ port b, routeTo s 0 = some (port, b) → ∃ m ∈ t.casc.out, m.type = 0x0D ∧ m.dest = 0 ∧ m.ports = [port] ∧
            m.payload = .bytes ((replyOf s p 0 0 []).bytes s.bench.outstanding.length))) ∧
    (s.casc.role = .master → s.casc.members.length = 16 →
      (∀ b : ReportBody, (s.member h.src).joined = true → h.src < 16 → b.imageBad = false → s.casc.closedT = none →
        Runs (.report tk h b) s fun t =>
          t.member h.src = { s.member h.src with
            missed := 0, reported := true, ready := (s.member h.src).ready || b.ready, metrics := b.metrics, headNum := b.headNum
            headDen := b.headDen, sat := b.sat, levels := b.levels, noiseMax := b.noiseMax, peaks := b.peaks, pieces := b.pieces
            keys := b.keys, more := b.more, water := b.water } ∧
          (∀ x < 16, x ≠ h.src → t.member x = s.member x) ∧ KeepsBut [.casc, .attn] u t) ∧
      (∀ bs : List Byte, recordsNow s → bs.length = 16 →
        (byteAt bs 0 = 8 → byteAt bs 1 ≠ 0x0A → Runs (.event tk h bs) s fun t => t.report = u.reportPlus bs ∧ KeepsBut recordComps u t) ∧
        (byteAt bs 0 = 7 → Runs (.event tk h bs) s fun t =>
          t.report = u.reportPlus bs ∧ t.attn.pending.getLsbD 12 = true ∧ KeepsBut recordComps u t) ∧
        (byteAt bs 0 = 9 → Runs (.event tk h bs) s fun t =>
          t.report = u.reportPlus (bs.take 4 ++ leBytes 2 s.presentMap ++ leBytes 2 s.absentMap ++ slice bs 8 1 ++
            leBytes 1 (s.casc.planId.toNat % 256) ++ bs.drop 10) ∧
          t.attn.pending.getLsbD 13 = true ∧ KeepsBut recordComps u t)) ∧
      (∀ (bs : List Byte) (d : Deferred), forwardOf s h.src bs = some d → s.atTurn d → writesNow s bs.length →
        Finishes (.forwardReply tk h bs) s u d 0 bs (KeepsBut [.casc, .tel, .bench, .attn, .report, .pwr, .trk] u)) ∧
      (∀ (bs : List Byte) (old : Nat × List Byte), (s.member h.src).joined = true → s.casc.imageIn.find? (fun e => e.1 == h.src) = some old →
        Runs (.imageData tk h bs false false) s fun t =>
          t.casc.imageIn = s.casc.imageIn.filter (fun e => e.1 != h.src) ++ [(h.src, old.2 ++ bs)] ∧ KeepsBut [.casc, .attn] u t)) ∧
    (∀ type seq : Byte,
      let left := s.casc.ackWait.filter fun w => !(w.msg.type == type.toNat && w.msg.seq == seq.toNat && w.msg.dest == h.src)
      let image := left.any fun w => w.msg.type == 3 && w.msg.dest == h.src
      ((s.member h.src).planDue = false ∨ image = true → Runs (.ack tk h type seq) s fun t =>
        t.casc.ackWait = left ∧ KeepsBut [.casc, .attn] u t) ∧
      (∀ port b, (s.member h.src).planDue = true → image = false → h.src ≠ 0xFF → routeTo s h.src = some (port, b) →
        Runs (.ack tk h type seq) s fun t =>
          t.casc.out.map (fun m => (m.type, m.dest, m.ports)) = [(6, h.src, [port]), (5, h.src, [port])] ∧
          (t.member h.src).planDue = false ∧ KeepsBut [.casc, .attn] u t)) ∧
    (∀ nodes : List StripNode, s.scan.stage = .started ∨ s.scan.stage = .decoded ∨ s.scan.stage = .combined →
      ∀ i ∈ [Instr.scarfStrip tk h nodes, .scarfCorner tk h nodes], Runs i s fun t =>
        let ns := t.casc.seam.drop s.casc.seam.length
        t.casc.seam.take s.casc.seam.length = s.casc.seam ∧ ns.length = min (farNodes s h.src).length nodes.length ∧
        (∀ k < ns.length, ∀ (n : SeamNode) (p : StripNode), ns[k]? = some n → nodes[k]? = some p →
          (farNodes s h.src)[k]? = some (n.col, n.row) ∧ n.delta = p.delta ∧ n.flags = p.flags ∧ n.inc = p.inc) ∧
        KeepsBut [.casc, .attn] u t) ∧
    (∀ deltas : List Int, s.scan.stage = .started ∨ s.scan.stage = .decoded → s.casc.merged = false →
      let row0 := s.origin.2 + (if h.src < s.casc.tile.getD 0 then 0 else s.front.driveCount - 4)
      Runs (.scarfCross tk h deltas) s fun t =>
        let es := t.casc.cross.drop s.casc.cross.length
        t.casc.cross.take s.casc.cross.length = s.casc.cross ∧ es.length = deltas.length ∧
        (∀ k < es.length, es[k]? = some (((s.origin.1 + k / 4 : Nat) : Int), ((row0 + k % 4 : Nat) : Int), deltas.getD k 0)) ∧
        KeepsBut [.casc, .attn] u t)

/-- Acknowledgement, member loss and SYNC (09 R267, R269, R270, R291, R292): a message not acknowledged in 256 beats goes again, three times; a member
without a report or a route is lost; frame pulses set the member's due instant, and mismatches lose the lock. -/
def Obligations.TilesStayInStep : Prop :=
  ∀ (s : State) (tk : Tick), s.calm →
    let u := s.entered tk
    (∀ (dest type seq : Nat) (w : AckWait),
      let mine := fun (w : AckWait) => w.msg.dest == dest && w.msg.type == type && w.msg.seq == seq
      s.casc.ackWait.find? mine = some w → reached u.now (w.sentT + BitVec.ofNat 56 65536) = true →
      (w.resends < 3 → Runs (.ackTimeout tk dest type seq) s fun t =>
        t.casc.ackWait = s.casc.ackWait.map (fun q => if mine q then { q with sentT := u.now, resends := q.resends + 1 } else q) ∧
        (∀ port b, routeTo s w.msg.dest = some (port, b) → t.casc.out = [{ w.msg with ports := [port] }]) ∧
        KeepsBut [.casc, .tel, .attn] u t) ∧
      (3 ≤ w.resends → s.casc.role = .member → Runs (.ackTimeout tk dest type seq) s fun t =>
        t.casc.ackWait = s.casc.ackWait.filter (fun q => !mine q) ∧ KeepsBut [.casc, .attn] u t)) ∧
    (∀ tile reason : Nat, s.casc.role = .master → tile < 16 → s.casc.members.length = 16 → (s.member tile).joined = true →
      ((reason = 1 ∨ reason = 3) ∧ s.pnat 0x503 ≤ (s.member tile).missed) ∨ (reason = 2 ∧ routeTo s tile = none) →
      s.trk.contacts = [] → s.casc.closedT = none → recordsNow s → s.joinedTiles = [tile] → s.casc.rerouted = false → s.running = [] →
      Runs (.memberLost tk tile reason) s fun t =>
        (t.member tile).joined = false ∧ (t.member tile).reason = reason ∧ (∀ x < 16, x ≠ tile → t.member x = s.member x) ∧
        t.tally = (tally 0x502 (d48 [(8, tile), (8, reason)]) u).tally ∧
        t.report = u.reportPlus (cascadeBytes t 2 tile 0xFF reason) ∧ KeepsBut recordComps u t) ∧
    (s.casc.role = .member → s.dormant = false → s.casc.planValid = true → s.time.cascadeLocked = true → s.casc.syncLost = false →
      (∀ low : Nat, 16 ≤ low → low ≤ 40 →
        let at0 := u.now - BitVec.ofNat 56 low + 64
        (s.casc.syncLocked = false → Runs (.syncPulse tk low) s fun t =>
          t.casc = { u.casc with
            syncPulseT := some at0, syncFrameT := some at0, syncMiss := false, syncLocked := true, syncBad := 0, syncNext := some at0 } ∧
          KeepsBut [.casc, .attn] u t) ∧
        (∀ (p : Time) (j d : Nat), s.casc.syncLocked = true → s.casc.syncFrameT = some p → 1 ≤ j → 2 * d < s.scan.frameTicks →
          (j + 1) * s.scan.frameTicks < 2 ^ 56 →
          let sched := p + BitVec.ofNat 56 (j * s.scan.frameTicks)
          at0 = sched + BitVec.ofNat 56 d ∨ at0 + BitVec.ofNat 56 d = sched → Runs (.syncPulse tk low) s fun t =>
            t.casc = { u.casc with
              syncPulseT := some at0, syncFrameT := some sched, syncMiss := decide (0 < d), syncNext := some at0
              syncBad := (if s.casc.syncMiss then s.casc.syncBad else 0) + (j - 1) + (if d = 0 then 0 else 1) } ∧
            KeepsBut [.casc, .attn] u t)) ∧
      (∀ low : Nat, 4 ≤ low → low ≤ 15 →
        let at0 := u.now - BitVec.ofNat 56 low + 64
        Runs (.syncPulse tk low) s fun t =>
          let miss := !(passInstants s).contains at0
          t.casc = { u.casc with
            passNext := some at0, syncMiss := s.casc.syncMiss || miss
            syncBad := s.casc.syncBad + (if miss && !s.casc.syncMiss then 1 else 0) } ∧
          KeepsBut [.casc, .attn] u t) ∧
      (∀ low : Nat, 41 ≤ low → Runs (.syncPulse tk low) s fun t =>
        t.casc = { u.casc with syncMiss := true, syncBad := s.casc.syncBad + (if s.casc.syncMiss then 0 else 1) } ∧ KeepsBut [.casc, .attn] u t) ∧
      (s.casc.syncLocked = true → 2 ≤ s.casc.syncBad → Runs (.syncLost tk) s fun t =>
        t.casc = { u.casc with syncLost := true, syncLocked := false } ∧
        t.scan = (match passEnd u with
          | some e => { s.scan with stopAt := some e }
          | none => { s.scan with phase := .stopped, stage := .none }) ∧
        t.tally = (tally 0x509 (d48 [(16, 2)]) u).tally ∧ KeepsBut ([.casc, .scan] ++ tallyComps) u t)) ∧
    (∀ frame : Bool, s.casc.role = .master →
      (scheduled frame (u.now + 64) u = true → Runs (.syncAnnounce tk frame) s fun t =>
        t.pwr = { s.pwr with syncLow := some (u.now + BitVec.ofNat 56 (if frame then 24 else 8)) } ∧
        t.casc = { u.casc with syncNext := if frame then some (u.now + 64) else s.casc.syncNext
                               passNext := if frame then none else some (u.now + 64) } ∧
        KeepsBut [.pwr, .casc, .attn] u t) ∧
      (scheduled frame (u.now + 64) u = false → Runs (.syncAnnounce tk frame) s (KeepsBut [.attn] u))) ∧
    (∀ e : Time, s.pwr.syncLow = some e → s.casc.role = .master →
      (reached s.now e = false → syncDrive s = .low) ∧
      (reached s.now e = true → reached s.now (e + 4) = false → syncDrive s = .high) ∧
      (reached s.now e = true → reached s.now (e + 4) = true → syncDrive s = .released))
end

