-- ==== Sys2Proof/Laws/State.lean ====
section
/-! SUPPORT. What the updates of State leave as it is, one lemma for each field. -/

namespace Sys2Proof.Machine

/-! The state in which a command acts (02 R37). -/

@[simp] theorem State.entered_part (s : State) (tk : Tick) : (s.entered tk).part = s.part := by unfold State.entered State.atTick; split <;> rfl
@[simp] theorem State.entered_dieRevision (s : State) (tk : Tick) : (s.entered tk).dieRevision = s.dieRevision := by unfold State.entered State.atTick; split <;> rfl
@[simp] theorem State.entered_front (s : State) (tk : Tick) : (s.entered tk).front = s.front := by unfold State.entered State.atTick; split <;> rfl
@[simp] theorem State.entered_scan (s : State) (tk : Tick) : (s.entered tk).scan = s.scan := by unfold State.entered State.atTick; split <;> rfl
@[simp] theorem State.entered_plane (s : State) (tk : Tick) : (s.entered tk).plane = s.plane := by unfold State.entered State.atTick; split <;> rfl
@[simp] theorem State.entered_base (s : State) (tk : Tick) : (s.entered tk).base = s.base := by unfold State.entered State.atTick; split <;> rfl
@[simp] theorem State.entered_trk (s : State) (tk : Tick) : (s.entered tk).trk = s.trk := by unfold State.entered State.atTick; split <;> rfl
@[simp] theorem State.entered_pwr (s : State) (tk : Tick) : (s.entered tk).pwr = s.pwr := by unfold State.entered State.atTick; split <;> rfl
@[simp] theorem State.entered_lvl (s : State) (tk : Tick) : (s.entered tk).lvl = s.lvl := by unfold State.entered State.atTick; split <;> rfl
@[simp] theorem State.entered_link (s : State) (tk : Tick) : (s.entered tk).link = s.link := by unfold State.entered State.atTick; split <;> rfl
@[simp] theorem State.entered_attn (s : State) (tk : Tick) : (s.entered tk).attn = s.attn := by unfold State.entered State.atTick; split <;> rfl
@[simp] theorem State.entered_cmd (s : State) (tk : Tick) : (s.entered tk).cmd = s.cmd := by unfold State.entered State.atTick; split <;> rfl
@[simp] theorem State.entered_report (s : State) (tk : Tick) : (s.entered tk).report = s.report := by unfold State.entered State.atTick; split <;> rfl
@[simp] theorem State.entered_image (s : State) (tk : Tick) : (s.entered tk).image = s.image := by unfold State.entered State.atTick; split <;> rfl
@[simp] theorem State.entered_record (s : State) (tk : Tick) : (s.entered tk).record = s.record := by unfold State.entered State.atTick; split <;> rfl
@[simp] theorem State.entered_bench (s : State) (tk : Tick) : (s.entered tk).bench = s.bench := by unfold State.entered State.atTick; split <;> rfl
@[simp] theorem State.entered_params (s : State) (tk : Tick) : (s.entered tk).params = s.params := by unfold State.entered State.atTick; split <;> rfl
@[simp] theorem State.entered_bus (s : State) (tk : Tick) : (s.entered tk).bus = s.bus := by unfold State.entered State.atTick; split <;> rfl
@[simp] theorem State.entered_mem (s : State) (tk : Tick) : (s.entered tk).mem = s.mem := by unfold State.entered State.atTick; split <;> rfl
@[simp] theorem State.entered_trust (s : State) (tk : Tick) : (s.entered tk).trust = s.trust := by unfold State.entered State.atTick; split <;> rfl
@[simp] theorem State.entered_tally (s : State) (tk : Tick) : (s.entered tk).tally = s.tally := by unfold State.entered State.atTick; split <;> rfl
@[simp] theorem State.entered_tel (s : State) (tk : Tick) : (s.entered tk).tel = s.tel := by unfold State.entered State.atTick; split <;> rfl
@[simp] theorem State.entered_boot (s : State) (tk : Tick) : (s.entered tk).boot = s.boot := by unfold State.entered State.atTick; split <;> rfl
@[simp] theorem State.entered_pending (s : State) (tk : Tick) : (s.entered tk).pending = s.pending := by unfold State.entered State.atTick; split <;> rfl
@[simp] theorem State.entered_freeIdx (s : State) (tk : Tick) : (s.entered tk).freeIdx = s.freeIdx := by unfold State.entered State.atTick; split <;> rfl

@[simp] theorem State.entered_time_n (s : State) (tk : Tick) : (s.entered tk).time.n = s.time.n := by
  unfold State.entered State.atTick; split <;> rfl
@[simp] theorem State.entered_time_stage (s : State) (tk : Tick) : (s.entered tk).time.stage = s.time.stage := by
  unfold State.entered State.atTick; split <;> rfl
@[simp] theorem State.entered_time_inRange (s : State) (tk : Tick) : (s.entered tk).time.inRange = s.time.inRange := by
  unfold State.entered State.atTick; split <;> rfl
@[simp] theorem State.entered_time_poleFault (s : State) (tk : Tick) : (s.entered tk).time.poleFault = s.time.poleFault := by
  unfold State.entered State.atTick; split <;> rfl
@[simp] theorem State.entered_time_sourceFault (s : State) (tk : Tick) : (s.entered tk).time.sourceFault = s.time.sourceFault := by
  unfold State.entered State.atTick; split <;> rfl
@[simp] theorem State.entered_time_sourceCause (s : State) (tk : Tick) : (s.entered tk).time.sourceCause = s.time.sourceCause := by
  unfold State.entered State.atTick; split <;> rfl
@[simp] theorem State.entered_time_cascadeLocked (s : State) (tk : Tick) : (s.entered tk).time.cascadeLocked = s.time.cascadeLocked := by
  unfold State.entered State.atTick; split <;> rfl
@[simp] theorem State.entered_time_calendarSet (s : State) (tk : Tick) : (s.entered tk).time.calendarSet = s.time.calendarSet := by
  unfold State.entered State.atTick; split <;> rfl
@[simp] theorem State.entered_time_crystalRunning (s : State) (tk : Tick) : (s.entered tk).time.crystalRunning = s.time.crystalRunning := by
  unfold State.entered State.atTick; split <;> rfl
@[simp] theorem State.entered_time_declared (s : State) (tk : Tick) : (s.entered tk).time.declared = s.time.declared := by
  unfold State.entered State.atTick; split <;> rfl
@[simp] theorem State.entered_time_takeoverDue (s : State) (tk : Tick) : (s.entered tk).time.takeoverDue = s.time.takeoverDue := by
  unfold State.entered State.atTick; split <;> rfl
@[simp] theorem State.entered_time_lastSwitch (s : State) (tk : Tick) : (s.entered tk).time.lastSwitch = s.time.lastSwitch := by
  unfold State.entered State.atTick; split <;> rfl
@[simp] theorem State.entered_time_calOffset (s : State) (tk : Tick) : (s.entered tk).time.calOffset = s.time.calOffset := by
  unfold State.entered State.atTick; split <;> rfl
@[simp] theorem State.entered_time_hiLatch (s : State) (tk : Tick) : (s.entered tk).time.hiLatch = s.time.hiLatch := by
  unfold State.entered State.atTick; split <;> rfl
@[simp] theorem State.entered_time_masterDiff (s : State) (tk : Tick) : (s.entered tk).time.masterDiff = s.time.masterDiff := by
  unfold State.entered State.atTick; split <;> rfl
@[simp] theorem State.entered_time_vcoreMv (s : State) (tk : Tick) : (s.entered tk).time.vcoreMv = s.time.vcoreMv := by
  unfold State.entered State.atTick; split <;> rfl
@[simp] theorem State.entered_time_margins (s : State) (tk : Tick) : (s.entered tk).time.margins = s.time.margins := by
  unfold State.entered State.atTick; split <;> rfl
@[simp] theorem State.entered_time_frameMargin (s : State) (tk : Tick) : (s.entered tk).time.frameMargin = s.time.frameMargin := by
  unfold State.entered State.atTick; split <;> rfl
@[simp] theorem State.entered_casc (s : State) (tk : Tick) : (s.entered tk).casc = { s.casc with out := [] } := by
  unfold State.entered State.atTick; split <;> rfl

/-! What no command changes. -/

@[simp] theorem sealed_part (s t : State) : (sealed s t).part = s.part := rfl
@[simp] theorem sealed_dieRevision (s t : State) : (sealed s t).dieRevision = s.dieRevision := rfl
@[simp] theorem sealed_time (s t : State) : (sealed s t).time = t.time := rfl
@[simp] theorem sealed_front (s t : State) : (sealed s t).front = t.front := rfl
@[simp] theorem sealed_scan (s t : State) : (sealed s t).scan = t.scan := rfl
@[simp] theorem sealed_plane (s t : State) : (sealed s t).plane = t.plane := rfl
@[simp] theorem sealed_base (s t : State) : (sealed s t).base = t.base := rfl
@[simp] theorem sealed_trk (s t : State) : (sealed s t).trk = t.trk := rfl
@[simp] theorem sealed_pwr (s t : State) : (sealed s t).pwr = t.pwr := rfl
@[simp] theorem sealed_casc (s t : State) : (sealed s t).casc = t.casc := rfl
@[simp] theorem sealed_lvl (s t : State) : (sealed s t).lvl = t.lvl := rfl
@[simp] theorem sealed_link (s t : State) : (sealed s t).link = t.link := rfl
@[simp] theorem sealed_attn (s t : State) : (sealed s t).attn = t.attn := rfl
@[simp] theorem sealed_cmd (s t : State) : (sealed s t).cmd = t.cmd := rfl
@[simp] theorem sealed_report (s t : State) : (sealed s t).report = t.report := rfl
@[simp] theorem sealed_image (s t : State) : (sealed s t).image = t.image := rfl
@[simp] theorem sealed_record (s t : State) : (sealed s t).record = t.record := rfl
@[simp] theorem sealed_bench (s t : State) : (sealed s t).bench = t.bench := rfl
@[simp] theorem sealed_params (s t : State) : (sealed s t).params = t.params := rfl
@[simp] theorem sealed_bus (s t : State) : (sealed s t).bus = t.bus := rfl
@[simp] theorem sealed_mem (s t : State) : (sealed s t).mem = t.mem := rfl
@[simp] theorem sealed_trust (s t : State) : (sealed s t).trust = t.trust := rfl
@[simp] theorem sealed_tally (s t : State) : (sealed s t).tally = t.tally := rfl
@[simp] theorem sealed_tel (s t : State) : (sealed s t).tel = t.tel := rfl
@[simp] theorem sealed_boot (s t : State) : (sealed s t).boot = t.boot := rfl
@[simp] theorem sealed_pending (s t : State) : (sealed s t).pending = s.pending := rfl
@[simp] theorem sealed_freeIdx (s t : State) : (sealed s t).freeIdx = t.freeIdx := rfl

/-! A free value is drawn (log 2). -/

@[simp] theorem State.draw_part (s : State) : (s.draw.2).part = s.part := rfl
@[simp] theorem State.draw_dieRevision (s : State) : (s.draw.2).dieRevision = s.dieRevision := rfl
@[simp] theorem State.draw_time (s : State) : (s.draw.2).time = s.time := rfl
@[simp] theorem State.draw_front (s : State) : (s.draw.2).front = s.front := rfl
@[simp] theorem State.draw_scan (s : State) : (s.draw.2).scan = s.scan := rfl
@[simp] theorem State.draw_plane (s : State) : (s.draw.2).plane = s.plane := rfl
@[simp] theorem State.draw_base (s : State) : (s.draw.2).base = s.base := rfl
@[simp] theorem State.draw_trk (s : State) : (s.draw.2).trk = s.trk := rfl
@[simp] theorem State.draw_pwr (s : State) : (s.draw.2).pwr = s.pwr := rfl
@[simp] theorem State.draw_casc (s : State) : (s.draw.2).casc = s.casc := rfl
@[simp] theorem State.draw_lvl (s : State) : (s.draw.2).lvl = s.lvl := rfl
@[simp] theorem State.draw_link (s : State) : (s.draw.2).link = s.link := rfl
@[simp] theorem State.draw_attn (s : State) : (s.draw.2).attn = s.attn := rfl
@[simp] theorem State.draw_cmd (s : State) : (s.draw.2).cmd = s.cmd := rfl
@[simp] theorem State.draw_report (s : State) : (s.draw.2).report = s.report := rfl
@[simp] theorem State.draw_image (s : State) : (s.draw.2).image = s.image := rfl
@[simp] theorem State.draw_record (s : State) : (s.draw.2).record = s.record := rfl
@[simp] theorem State.draw_bench (s : State) : (s.draw.2).bench = s.bench := rfl
@[simp] theorem State.draw_params (s : State) : (s.draw.2).params = s.params := rfl
@[simp] theorem State.draw_bus (s : State) : (s.draw.2).bus = s.bus := rfl
@[simp] theorem State.draw_mem (s : State) : (s.draw.2).mem = s.mem := rfl
@[simp] theorem State.draw_trust (s : State) : (s.draw.2).trust = s.trust := rfl
@[simp] theorem State.draw_tally (s : State) : (s.draw.2).tally = s.tally := rfl
@[simp] theorem State.draw_tel (s : State) : (s.draw.2).tel = s.tel := rfl
@[simp] theorem State.draw_boot (s : State) : (s.draw.2).boot = s.boot := rfl
@[simp] theorem State.draw_pending (s : State) : (s.draw.2).pending = s.pending := rfl

/-! The idle time. -/

@[simp] theorem restartIdle_part (s : State) : (restartIdle s).part = s.part := rfl
@[simp] theorem restartIdle_dieRevision (s : State) : (restartIdle s).dieRevision = s.dieRevision := rfl
@[simp] theorem restartIdle_time (s : State) : (restartIdle s).time = s.time := rfl
@[simp] theorem restartIdle_front (s : State) : (restartIdle s).front = s.front := rfl
@[simp] theorem restartIdle_scan (s : State) : (restartIdle s).scan = s.scan := rfl
@[simp] theorem restartIdle_plane (s : State) : (restartIdle s).plane = s.plane := rfl
@[simp] theorem restartIdle_base (s : State) : (restartIdle s).base = s.base := rfl
@[simp] theorem restartIdle_trk (s : State) : (restartIdle s).trk = s.trk := rfl
@[simp] theorem restartIdle_casc (s : State) : (restartIdle s).casc = s.casc := rfl
@[simp] theorem restartIdle_lvl (s : State) : (restartIdle s).lvl = s.lvl := rfl
@[simp] theorem restartIdle_link (s : State) : (restartIdle s).link = s.link := rfl
@[simp] theorem restartIdle_attn (s : State) : (restartIdle s).attn = s.attn := rfl
@[simp] theorem restartIdle_cmd (s : State) : (restartIdle s).cmd = s.cmd := rfl
@[simp] theorem restartIdle_report (s : State) : (restartIdle s).report = s.report := rfl
@[simp] theorem restartIdle_image (s : State) : (restartIdle s).image = s.image := rfl
@[simp] theorem restartIdle_record (s : State) : (restartIdle s).record = s.record := rfl
@[simp] theorem restartIdle_bench (s : State) : (restartIdle s).bench = s.bench := rfl
@[simp] theorem restartIdle_params (s : State) : (restartIdle s).params = s.params := rfl
@[simp] theorem restartIdle_bus (s : State) : (restartIdle s).bus = s.bus := rfl
@[simp] theorem restartIdle_mem (s : State) : (restartIdle s).mem = s.mem := rfl
@[simp] theorem restartIdle_trust (s : State) : (restartIdle s).trust = s.trust := rfl
@[simp] theorem restartIdle_tally (s : State) : (restartIdle s).tally = s.tally := rfl
@[simp] theorem restartIdle_tel (s : State) : (restartIdle s).tel = s.tel := rfl
@[simp] theorem restartIdle_boot (s : State) : (restartIdle s).boot = s.boot := rfl
@[simp] theorem restartIdle_pending (s : State) : (restartIdle s).pending = s.pending := rfl
@[simp] theorem restartIdle_freeIdx (s : State) : (restartIdle s).freeIdx = s.freeIdx := rfl

/-! Hardware sets attention bits (00 R9). -/

@[simp] theorem Attn.setBits_pending (a : Attn) (t : Time) (p : BitVec 25) (c : BitVec 6) : (a.setBits t p c).pending = a.pending ||| p := rfl
@[simp] theorem Attn.setBits_cbs (a : Attn) (t : Time) (p : BitVec 25) (c : BitVec 6) : (a.setBits t p c).cbs = a.cbs ||| c := rfl
@[simp] theorem Attn.setBits_setT (a : Attn) (t : Time) (p : BitVec 25) (c : BitVec 6) : (a.setBits t p c).setT = t := rfl
@[simp] theorem Attn.setBits_vector (a : Attn) (t : Time) (p : BitVec 25) (c : BitVec 6) : (a.setBits t p c).vector = a.vector := rfl
@[simp] theorem Attn.setBits_active (a : Attn) (t : Time) (p : BitVec 25) (c : BitVec 6) : (a.setBits t p c).active = a.active := rfl
@[simp] theorem Attn.setBits_inService (a : Attn) (t : Time) (p : BitVec 25) (c : BitVec 6) : (a.setBits t p c).inService = a.inService := rfl
@[simp] theorem Attn.setBits_acked (a : Attn) (t : Time) (p : BitVec 25) (c : BitVec 6) : (a.setBits t p c).acked = a.acked := rfl
@[simp] theorem Attn.setBits_claimed (a : Attn) (t : Time) (p : BitVec 25) (c : BitVec 6) : (a.setBits t p c).claimed = a.claimed := rfl
@[simp] theorem Attn.setBits_enable (a : Attn) (t : Time) (p : BitVec 25) (c : BitVec 6) : (a.setBits t p c).enable = a.enable := rfl
@[simp] theorem Attn.setBits_global (a : Attn) (t : Time) (p : BitVec 25) (c : BitVec 6) : (a.setBits t p c).global = a.global := rfl
@[simp] theorem Attn.setBits_base (a : Attn) (t : Time) (p : BitVec 25) (c : BitVec 6) : (a.setBits t p c).base = a.base := rfl
@[simp] theorem Attn.setBits_stride (a : Attn) (t : Time) (p : BitVec 25) (c : BitVec 6) : (a.setBits t p c).stride = a.stride := rfl
@[simp] theorem Attn.setBits_groups (a : Attn) (t : Time) (p : BitVec 25) (c : BitVec 6) : (a.setBits t p c).groups = a.groups := rfl
@[simp] theorem Attn.setBits_wakeGroups (a : Attn) (t : Time) (p : BitVec 25) (c : BitVec 6) : (a.setBits t p c).wakeGroups = a.wakeGroups := rfl
@[simp] theorem Attn.setBits_attnN (a : Attn) (t : Time) (p : BitVec 25) (c : BitVec 6) : (a.setBits t p c).attnN = a.attnN := rfl
@[simp] theorem Attn.setBits_wake (a : Attn) (t : Time) (p : BitVec 25) (c : BitVec 6) : (a.setBits t p c).wake = a.wake := rfl
@[simp] theorem Attn.setBits_wakeDue (a : Attn) (t : Time) (p : BitVec 25) (c : BitVec 6) : (a.setBits t p c).wakeDue = a.wakeDue := rfl
@[simp] theorem Attn.setBits_wakeSet (a : Attn) (t : Time) (p : BitVec 25) (c : BitVec 6) : (a.setBits t p c).wakeSet = a.wakeSet := rfl

end Sys2Proof.Machine
end

