-- ==== Sys2Proof/Laws/Ops.lean ====
section
/-! SUPPORT. What the shared operations leave as it is, one lemma for each field that an operation does not touch. -/

namespace Sys2Proof.Machine

/-- A fold keeps what each of its steps keeps. -/
theorem foldl_keeps {σ α β : Type} (p : σ → β) (f : σ → α → σ) (h : ∀ s a, p (f s a) = p s) (l : List α) (s : σ) :
    p (l.foldl f s) = p s := by
  induction l generalizing s with
  | nil => rfl
  | cons a r ih => rw [List.foldl_cons, ih, h]

/-! An event of a source (11 R347). -/

@[simp] theorem raise_part (src : Nat) (s : State) : (raise src s).part = s.part := by
  simp only [raise]; repeat' split
  all_goals (first | rfl | simp)
@[simp] theorem raise_dieRevision (src : Nat) (s : State) : (raise src s).dieRevision = s.dieRevision := by
  simp only [raise]; repeat' split
  all_goals (first | rfl | simp)
@[simp] theorem raise_time (src : Nat) (s : State) : (raise src s).time = s.time := by
  simp only [raise]; repeat' split
  all_goals (first | rfl | simp)
@[simp] theorem raise_front (src : Nat) (s : State) : (raise src s).front = s.front := by
  simp only [raise]; repeat' split
  all_goals (first | rfl | simp)
@[simp] theorem raise_scan (src : Nat) (s : State) : (raise src s).scan = s.scan := by
  simp only [raise]; repeat' split
  all_goals (first | rfl | simp)
@[simp] theorem raise_plane (src : Nat) (s : State) : (raise src s).plane = s.plane := by
  simp only [raise]; repeat' split
  all_goals (first | rfl | simp)
@[simp] theorem raise_base (src : Nat) (s : State) : (raise src s).base = s.base := by
  simp only [raise]; repeat' split
  all_goals (first | rfl | simp)
@[simp] theorem raise_pwr (src : Nat) (s : State) : (raise src s).pwr = s.pwr := by
  simp only [raise]; repeat' split
  all_goals (first | rfl | simp)
@[simp] theorem raise_casc (src : Nat) (s : State) : (raise src s).casc = s.casc := by
  simp only [raise]; repeat' split
  all_goals (first | rfl | simp)
@[simp] theorem raise_lvl (src : Nat) (s : State) : (raise src s).lvl = s.lvl := by
  simp only [raise]; repeat' split
  all_goals (first | rfl | simp)
@[simp] theorem raise_link (src : Nat) (s : State) : (raise src s).link = s.link := by
  simp only [raise]; repeat' split
  all_goals (first | rfl | simp)
@[simp] theorem raise_cmd (src : Nat) (s : State) : (raise src s).cmd = s.cmd := by
  simp only [raise]; repeat' split
  all_goals (first | rfl | simp)
@[simp] theorem raise_report (src : Nat) (s : State) : (raise src s).report = s.report := by
  simp only [raise]; repeat' split
  all_goals (first | rfl | simp)
@[simp] theorem raise_image (src : Nat) (s : State) : (raise src s).image = s.image := by
  simp only [raise]; repeat' split
  all_goals (first | rfl | simp)
@[simp] theorem raise_record (src : Nat) (s : State) : (raise src s).record = s.record := by
  simp only [raise]; repeat' split
  all_goals (first | rfl | simp)
@[simp] theorem raise_bench (src : Nat) (s : State) : (raise src s).bench = s.bench := by
  simp only [raise]; repeat' split
  all_goals (first | rfl | simp)
@[simp] theorem raise_params (src : Nat) (s : State) : (raise src s).params = s.params := by
  simp only [raise]; repeat' split
  all_goals (first | rfl | simp)
@[simp] theorem raise_bus (src : Nat) (s : State) : (raise src s).bus = s.bus := by
  simp only [raise]; repeat' split
  all_goals (first | rfl | simp)
@[simp] theorem raise_mem (src : Nat) (s : State) : (raise src s).mem = s.mem := by
  simp only [raise]; repeat' split
  all_goals (first | rfl | simp)
@[simp] theorem raise_trust (src : Nat) (s : State) : (raise src s).trust = s.trust := by
  simp only [raise]; repeat' split
  all_goals (first | rfl | simp)
@[simp] theorem raise_tally (src : Nat) (s : State) : (raise src s).tally = s.tally := by
  simp only [raise]; repeat' split
  all_goals (first | rfl | simp)
@[simp] theorem raise_tel (src : Nat) (s : State) : (raise src s).tel = s.tel := by
  simp only [raise]; repeat' split
  all_goals (first | rfl | simp)
@[simp] theorem raise_boot (src : Nat) (s : State) : (raise src s).boot = s.boot := by
  simp only [raise]; repeat' split
  all_goals (first | rfl | simp)
@[simp] theorem raise_pending (src : Nat) (s : State) : (raise src s).pending = s.pending := by
  simp only [raise]; repeat' split
  all_goals (first | rfl | simp)
@[simp] theorem raise_freeIdx (src : Nat) (s : State) : (raise src s).freeIdx = s.freeIdx := by
  simp only [raise]; repeat' split
  all_goals (first | rfl | simp)

/-! The Tally recorder (16 R470 to R475). -/

@[simp] theorem copyRecord_part (bs : List Byte) (s : State) : (copyRecord bs s).part = s.part := by
  simp only [copyRecord]; repeat' split
  all_goals (first | rfl | simp)
@[simp] theorem copyRecord_dieRevision (bs : List Byte) (s : State) : (copyRecord bs s).dieRevision = s.dieRevision := by
  simp only [copyRecord]; repeat' split
  all_goals (first | rfl | simp)
@[simp] theorem copyRecord_time (bs : List Byte) (s : State) : (copyRecord bs s).time = s.time := by
  simp only [copyRecord]; repeat' split
  all_goals (first | rfl | simp)
@[simp] theorem copyRecord_front (bs : List Byte) (s : State) : (copyRecord bs s).front = s.front := by
  simp only [copyRecord]; repeat' split
  all_goals (first | rfl | simp)
@[simp] theorem copyRecord_scan (bs : List Byte) (s : State) : (copyRecord bs s).scan = s.scan := by
  simp only [copyRecord]; repeat' split
  all_goals (first | rfl | simp)
@[simp] theorem copyRecord_plane (bs : List Byte) (s : State) : (copyRecord bs s).plane = s.plane := by
  simp only [copyRecord]; repeat' split
  all_goals (first | rfl | simp)
@[simp] theorem copyRecord_base (bs : List Byte) (s : State) : (copyRecord bs s).base = s.base := by
  simp only [copyRecord]; repeat' split
  all_goals (first | rfl | simp)
@[simp] theorem copyRecord_pwr (bs : List Byte) (s : State) : (copyRecord bs s).pwr = s.pwr := by
  simp only [copyRecord]; repeat' split
  all_goals (first | rfl | simp)
@[simp] theorem copyRecord_casc (bs : List Byte) (s : State) : (copyRecord bs s).casc = s.casc := by
  simp only [copyRecord]; repeat' split
  all_goals (first | rfl | simp)
@[simp] theorem copyRecord_lvl (bs : List Byte) (s : State) : (copyRecord bs s).lvl = s.lvl := by
  simp only [copyRecord]; repeat' split
  all_goals (first | rfl | simp)
@[simp] theorem copyRecord_link (bs : List Byte) (s : State) : (copyRecord bs s).link = s.link := by
  simp only [copyRecord]; repeat' split
  all_goals (first | rfl | simp)
@[simp] theorem copyRecord_cmd (bs : List Byte) (s : State) : (copyRecord bs s).cmd = s.cmd := by
  simp only [copyRecord]; repeat' split
  all_goals (first | rfl | simp)
@[simp] theorem copyRecord_report (bs : List Byte) (s : State) : (copyRecord bs s).report = s.report := by
  simp only [copyRecord]; repeat' split
  all_goals (first | rfl | simp)
@[simp] theorem copyRecord_image (bs : List Byte) (s : State) : (copyRecord bs s).image = s.image := by
  simp only [copyRecord]; repeat' split
  all_goals (first | rfl | simp)
@[simp] theorem copyRecord_bench (bs : List Byte) (s : State) : (copyRecord bs s).bench = s.bench := by
  simp only [copyRecord]; repeat' split
  all_goals (first | rfl | simp)
@[simp] theorem copyRecord_params (bs : List Byte) (s : State) : (copyRecord bs s).params = s.params := by
  simp only [copyRecord]; repeat' split
  all_goals (first | rfl | simp)
@[simp] theorem copyRecord_bus (bs : List Byte) (s : State) : (copyRecord bs s).bus = s.bus := by
  simp only [copyRecord]; repeat' split
  all_goals (first | rfl | simp)
@[simp] theorem copyRecord_mem (bs : List Byte) (s : State) : (copyRecord bs s).mem = s.mem := by
  simp only [copyRecord]; repeat' split
  all_goals (first | rfl | simp)
@[simp] theorem copyRecord_trust (bs : List Byte) (s : State) : (copyRecord bs s).trust = s.trust := by
  simp only [copyRecord]; repeat' split
  all_goals (first | rfl | simp)
@[simp] theorem copyRecord_tally (bs : List Byte) (s : State) : (copyRecord bs s).tally = s.tally := by
  simp only [copyRecord]; repeat' split
  all_goals (first | rfl | simp)
@[simp] theorem copyRecord_tel (bs : List Byte) (s : State) : (copyRecord bs s).tel = s.tel := by
  simp only [copyRecord]; repeat' split
  all_goals (first | rfl | simp)
@[simp] theorem copyRecord_boot (bs : List Byte) (s : State) : (copyRecord bs s).boot = s.boot := by
  simp only [copyRecord]; repeat' split
  all_goals (first | rfl | simp)
@[simp] theorem copyRecord_pending (bs : List Byte) (s : State) : (copyRecord bs s).pending = s.pending := by
  simp only [copyRecord]; repeat' split
  all_goals (first | rfl | simp)
@[simp] theorem copyRecord_freeIdx (bs : List Byte) (s : State) : (copyRecord bs s).freeIdx = s.freeIdx := by
  simp only [copyRecord]; repeat' split
  all_goals (first | rfl | simp)

@[simp] theorem tallyPut_part (a b c d : Nat) (s : State) : (tallyPut a b c d s).part = s.part := by
  simp only [tallyPut]; repeat' split
  all_goals simp
@[simp] theorem tallyPut_dieRevision (a b c d : Nat) (s : State) : (tallyPut a b c d s).dieRevision = s.dieRevision := by
  simp only [tallyPut]; repeat' split
  all_goals simp
@[simp] theorem tallyPut_time (a b c d : Nat) (s : State) : (tallyPut a b c d s).time = s.time := by
  simp only [tallyPut]; repeat' split
  all_goals simp
@[simp] theorem tallyPut_front (a b c d : Nat) (s : State) : (tallyPut a b c d s).front = s.front := by
  simp only [tallyPut]; repeat' split
  all_goals simp
@[simp] theorem tallyPut_scan (a b c d : Nat) (s : State) : (tallyPut a b c d s).scan = s.scan := by
  simp only [tallyPut]; repeat' split
  all_goals simp
@[simp] theorem tallyPut_plane (a b c d : Nat) (s : State) : (tallyPut a b c d s).plane = s.plane := by
  simp only [tallyPut]; repeat' split
  all_goals simp
@[simp] theorem tallyPut_base (a b c d : Nat) (s : State) : (tallyPut a b c d s).base = s.base := by
  simp only [tallyPut]; repeat' split
  all_goals simp
@[simp] theorem tallyPut_pwr (a b c d : Nat) (s : State) : (tallyPut a b c d s).pwr = s.pwr := by
  simp only [tallyPut]; repeat' split
  all_goals simp
@[simp] theorem tallyPut_casc (a b c d : Nat) (s : State) : (tallyPut a b c d s).casc = s.casc := by
  simp only [tallyPut]; repeat' split
  all_goals simp
@[simp] theorem tallyPut_lvl (a b c d : Nat) (s : State) : (tallyPut a b c d s).lvl = s.lvl := by
  simp only [tallyPut]; repeat' split
  all_goals simp
@[simp] theorem tallyPut_link (a b c d : Nat) (s : State) : (tallyPut a b c d s).link = s.link := by
  simp only [tallyPut]; repeat' split
  all_goals simp
@[simp] theorem tallyPut_cmd (a b c d : Nat) (s : State) : (tallyPut a b c d s).cmd = s.cmd := by
  simp only [tallyPut]; repeat' split
  all_goals simp
@[simp] theorem tallyPut_report (a b c d : Nat) (s : State) : (tallyPut a b c d s).report = s.report := by
  simp only [tallyPut]; repeat' split
  all_goals simp
@[simp] theorem tallyPut_image (a b c d : Nat) (s : State) : (tallyPut a b c d s).image = s.image := by
  simp only [tallyPut]; repeat' split
  all_goals simp
@[simp] theorem tallyPut_bench (a b c d : Nat) (s : State) : (tallyPut a b c d s).bench = s.bench := by
  simp only [tallyPut]; repeat' split
  all_goals simp
@[simp] theorem tallyPut_params (a b c d : Nat) (s : State) : (tallyPut a b c d s).params = s.params := by
  simp only [tallyPut]; repeat' split
  all_goals simp
@[simp] theorem tallyPut_bus (a b c d : Nat) (s : State) : (tallyPut a b c d s).bus = s.bus := by
  simp only [tallyPut]; repeat' split
  all_goals simp
@[simp] theorem tallyPut_mem (a b c d : Nat) (s : State) : (tallyPut a b c d s).mem = s.mem := by
  simp only [tallyPut]; repeat' split
  all_goals simp
@[simp] theorem tallyPut_trust (a b c d : Nat) (s : State) : (tallyPut a b c d s).trust = s.trust := by
  simp only [tallyPut]; repeat' split
  all_goals simp
@[simp] theorem tallyPut_tel (a b c d : Nat) (s : State) : (tallyPut a b c d s).tel = s.tel := by
  simp only [tallyPut]; repeat' split
  all_goals simp
@[simp] theorem tallyPut_boot (a b c d : Nat) (s : State) : (tallyPut a b c d s).boot = s.boot := by
  simp only [tallyPut]; repeat' split
  all_goals simp
@[simp] theorem tallyPut_pending (a b c d : Nat) (s : State) : (tallyPut a b c d s).pending = s.pending := by
  simp only [tallyPut]; repeat' split
  all_goals simp
@[simp] theorem tallyPut_freeIdx (a b c d : Nat) (s : State) : (tallyPut a b c d s).freeIdx = s.freeIdx := by
  simp only [tallyPut]; repeat' split
  all_goals simp

@[simp] theorem tallyNew_part (a b c d : Nat) (s : State) : (tallyNew a b c d s).part = s.part := by
  simp only [tallyNew]; repeat' split
  all_goals simp
@[simp] theorem tallyNew_dieRevision (a b c d : Nat) (s : State) : (tallyNew a b c d s).dieRevision = s.dieRevision := by
  simp only [tallyNew]; repeat' split
  all_goals simp
@[simp] theorem tallyNew_time (a b c d : Nat) (s : State) : (tallyNew a b c d s).time = s.time := by
  simp only [tallyNew]; repeat' split
  all_goals simp
@[simp] theorem tallyNew_front (a b c d : Nat) (s : State) : (tallyNew a b c d s).front = s.front := by
  simp only [tallyNew]; repeat' split
  all_goals simp
@[simp] theorem tallyNew_scan (a b c d : Nat) (s : State) : (tallyNew a b c d s).scan = s.scan := by
  simp only [tallyNew]; repeat' split
  all_goals simp
@[simp] theorem tallyNew_plane (a b c d : Nat) (s : State) : (tallyNew a b c d s).plane = s.plane := by
  simp only [tallyNew]; repeat' split
  all_goals simp
@[simp] theorem tallyNew_base (a b c d : Nat) (s : State) : (tallyNew a b c d s).base = s.base := by
  simp only [tallyNew]; repeat' split
  all_goals simp
@[simp] theorem tallyNew_pwr (a b c d : Nat) (s : State) : (tallyNew a b c d s).pwr = s.pwr := by
  simp only [tallyNew]; repeat' split
  all_goals simp
@[simp] theorem tallyNew_casc (a b c d : Nat) (s : State) : (tallyNew a b c d s).casc = s.casc := by
  simp only [tallyNew]; repeat' split
  all_goals simp
@[simp] theorem tallyNew_lvl (a b c d : Nat) (s : State) : (tallyNew a b c d s).lvl = s.lvl := by
  simp only [tallyNew]; repeat' split
  all_goals simp
@[simp] theorem tallyNew_link (a b c d : Nat) (s : State) : (tallyNew a b c d s).link = s.link := by
  simp only [tallyNew]; repeat' split
  all_goals simp
@[simp] theorem tallyNew_cmd (a b c d : Nat) (s : State) : (tallyNew a b c d s).cmd = s.cmd := by
  simp only [tallyNew]; repeat' split
  all_goals simp
@[simp] theorem tallyNew_report (a b c d : Nat) (s : State) : (tallyNew a b c d s).report = s.report := by
  simp only [tallyNew]; repeat' split
  all_goals simp
@[simp] theorem tallyNew_image (a b c d : Nat) (s : State) : (tallyNew a b c d s).image = s.image := by
  simp only [tallyNew]; repeat' split
  all_goals simp
@[simp] theorem tallyNew_bench (a b c d : Nat) (s : State) : (tallyNew a b c d s).bench = s.bench := by
  simp only [tallyNew]; repeat' split
  all_goals simp
@[simp] theorem tallyNew_params (a b c d : Nat) (s : State) : (tallyNew a b c d s).params = s.params := by
  simp only [tallyNew]; repeat' split
  all_goals simp
@[simp] theorem tallyNew_bus (a b c d : Nat) (s : State) : (tallyNew a b c d s).bus = s.bus := by
  simp only [tallyNew]; repeat' split
  all_goals simp
@[simp] theorem tallyNew_mem (a b c d : Nat) (s : State) : (tallyNew a b c d s).mem = s.mem := by
  simp only [tallyNew]; repeat' split
  all_goals simp
@[simp] theorem tallyNew_trust (a b c d : Nat) (s : State) : (tallyNew a b c d s).trust = s.trust := by
  simp only [tallyNew]; repeat' split
  all_goals simp
@[simp] theorem tallyNew_tel (a b c d : Nat) (s : State) : (tallyNew a b c d s).tel = s.tel := by
  simp only [tallyNew]; repeat' split
  all_goals simp
@[simp] theorem tallyNew_boot (a b c d : Nat) (s : State) : (tallyNew a b c d s).boot = s.boot := by
  simp only [tallyNew]; repeat' split
  all_goals simp
@[simp] theorem tallyNew_pending (a b c d : Nat) (s : State) : (tallyNew a b c d s).pending = s.pending := by
  simp only [tallyNew]; repeat' split
  all_goals simp
@[simp] theorem tallyNew_freeIdx (a b c d : Nat) (s : State) : (tallyNew a b c d s).freeIdx = s.freeIdx := by
  simp only [tallyNew]; repeat' split
  all_goals simp

@[simp] theorem tallyBy_part (o c d : Nat) (s : State) : (tallyBy o c d s).part = s.part := by
  simp only [tallyBy]; repeat' split
  all_goals (first | rfl | simp)
@[simp] theorem tallyBy_dieRevision (o c d : Nat) (s : State) : (tallyBy o c d s).dieRevision = s.dieRevision := by
  simp only [tallyBy]; repeat' split
  all_goals (first | rfl | simp)
@[simp] theorem tallyBy_time (o c d : Nat) (s : State) : (tallyBy o c d s).time = s.time := by
  simp only [tallyBy]; repeat' split
  all_goals (first | rfl | simp)
@[simp] theorem tallyBy_front (o c d : Nat) (s : State) : (tallyBy o c d s).front = s.front := by
  simp only [tallyBy]; repeat' split
  all_goals (first | rfl | simp)
@[simp] theorem tallyBy_scan (o c d : Nat) (s : State) : (tallyBy o c d s).scan = s.scan := by
  simp only [tallyBy]; repeat' split
  all_goals (first | rfl | simp)
@[simp] theorem tallyBy_plane (o c d : Nat) (s : State) : (tallyBy o c d s).plane = s.plane := by
  simp only [tallyBy]; repeat' split
  all_goals (first | rfl | simp)
@[simp] theorem tallyBy_base (o c d : Nat) (s : State) : (tallyBy o c d s).base = s.base := by
  simp only [tallyBy]; repeat' split
  all_goals (first | rfl | simp)
@[simp] theorem tallyBy_pwr (o c d : Nat) (s : State) : (tallyBy o c d s).pwr = s.pwr := by
  simp only [tallyBy]; repeat' split
  all_goals (first | rfl | simp)
@[simp] theorem tallyBy_casc (o c d : Nat) (s : State) : (tallyBy o c d s).casc = s.casc := by
  simp only [tallyBy]; repeat' split
  all_goals (first | rfl | simp)
@[simp] theorem tallyBy_lvl (o c d : Nat) (s : State) : (tallyBy o c d s).lvl = s.lvl := by
  simp only [tallyBy]; repeat' split
  all_goals (first | rfl | simp)
@[simp] theorem tallyBy_link (o c d : Nat) (s : State) : (tallyBy o c d s).link = s.link := by
  simp only [tallyBy]; repeat' split
  all_goals (first | rfl | simp)
@[simp] theorem tallyBy_cmd (o c d : Nat) (s : State) : (tallyBy o c d s).cmd = s.cmd := by
  simp only [tallyBy]; repeat' split
  all_goals (first | rfl | simp)
@[simp] theorem tallyBy_report (o c d : Nat) (s : State) : (tallyBy o c d s).report = s.report := by
  simp only [tallyBy]; repeat' split
  all_goals (first | rfl | simp)
@[simp] theorem tallyBy_image (o c d : Nat) (s : State) : (tallyBy o c d s).image = s.image := by
  simp only [tallyBy]; repeat' split
  all_goals (first | rfl | simp)
@[simp] theorem tallyBy_bench (o c d : Nat) (s : State) : (tallyBy o c d s).bench = s.bench := by
  simp only [tallyBy]; repeat' split
  all_goals (first | rfl | simp)
@[simp] theorem tallyBy_params (o c d : Nat) (s : State) : (tallyBy o c d s).params = s.params := by
  simp only [tallyBy]; repeat' split
  all_goals (first | rfl | simp)
@[simp] theorem tallyBy_bus (o c d : Nat) (s : State) : (tallyBy o c d s).bus = s.bus := by
  simp only [tallyBy]; repeat' split
  all_goals (first | rfl | simp)
@[simp] theorem tallyBy_mem (o c d : Nat) (s : State) : (tallyBy o c d s).mem = s.mem := by
  simp only [tallyBy]; repeat' split
  all_goals (first | rfl | simp)
@[simp] theorem tallyBy_trust (o c d : Nat) (s : State) : (tallyBy o c d s).trust = s.trust := by
  simp only [tallyBy]; repeat' split
  all_goals (first | rfl | simp)
@[simp] theorem tallyBy_tel (o c d : Nat) (s : State) : (tallyBy o c d s).tel = s.tel := by
  simp only [tallyBy]; repeat' split
  all_goals (first | rfl | simp)
@[simp] theorem tallyBy_boot (o c d : Nat) (s : State) : (tallyBy o c d s).boot = s.boot := by
  simp only [tallyBy]; repeat' split
  all_goals (first | rfl | simp)
@[simp] theorem tallyBy_pending (o c d : Nat) (s : State) : (tallyBy o c d s).pending = s.pending := by
  simp only [tallyBy]; repeat' split
  all_goals (first | rfl | simp)
@[simp] theorem tallyBy_freeIdx (o c d : Nat) (s : State) : (tallyBy o c d s).freeIdx = s.freeIdx := by
  simp only [tallyBy]; repeat' split
  all_goals (first | rfl | simp)

@[simp] theorem tally_part (c d : Nat) (s : State) : (tally c d s).part = s.part := by simp [tally]
@[simp] theorem tally_dieRevision (c d : Nat) (s : State) : (tally c d s).dieRevision = s.dieRevision := by simp [tally]
@[simp] theorem tally_time (c d : Nat) (s : State) : (tally c d s).time = s.time := by simp [tally]
@[simp] theorem tally_front (c d : Nat) (s : State) : (tally c d s).front = s.front := by simp [tally]
@[simp] theorem tally_scan (c d : Nat) (s : State) : (tally c d s).scan = s.scan := by simp [tally]
@[simp] theorem tally_plane (c d : Nat) (s : State) : (tally c d s).plane = s.plane := by simp [tally]
@[simp] theorem tally_base (c d : Nat) (s : State) : (tally c d s).base = s.base := by simp [tally]
@[simp] theorem tally_pwr (c d : Nat) (s : State) : (tally c d s).pwr = s.pwr := by simp [tally]
@[simp] theorem tally_casc (c d : Nat) (s : State) : (tally c d s).casc = s.casc := by simp [tally]
@[simp] theorem tally_lvl (c d : Nat) (s : State) : (tally c d s).lvl = s.lvl := by simp [tally]
@[simp] theorem tally_link (c d : Nat) (s : State) : (tally c d s).link = s.link := by simp [tally]
@[simp] theorem tally_cmd (c d : Nat) (s : State) : (tally c d s).cmd = s.cmd := by simp [tally]
@[simp] theorem tally_report (c d : Nat) (s : State) : (tally c d s).report = s.report := by simp [tally]
@[simp] theorem tally_image (c d : Nat) (s : State) : (tally c d s).image = s.image := by simp [tally]
@[simp] theorem tally_bench (c d : Nat) (s : State) : (tally c d s).bench = s.bench := by simp [tally]
@[simp] theorem tally_params (c d : Nat) (s : State) : (tally c d s).params = s.params := by simp [tally]
@[simp] theorem tally_bus (c d : Nat) (s : State) : (tally c d s).bus = s.bus := by simp [tally]
@[simp] theorem tally_mem (c d : Nat) (s : State) : (tally c d s).mem = s.mem := by simp [tally]
@[simp] theorem tally_trust (c d : Nat) (s : State) : (tally c d s).trust = s.trust := by simp [tally]
@[simp] theorem tally_tel (c d : Nat) (s : State) : (tally c d s).tel = s.tel := by simp [tally]
@[simp] theorem tally_boot (c d : Nat) (s : State) : (tally c d s).boot = s.boot := by simp [tally]
@[simp] theorem tally_pending (c d : Nat) (s : State) : (tally c d s).pending = s.pending := by simp [tally]
@[simp] theorem tally_freeIdx (c d : Nat) (s : State) : (tally c d s).freeIdx = s.freeIdx := by simp [tally]

@[simp] theorem timeMark_part (o : Nat) (s : State) : (timeMark o s).part = s.part := by
  simp only [timeMark]; repeat' split
  all_goals (first | rfl | simp)
@[simp] theorem timeMark_dieRevision (o : Nat) (s : State) : (timeMark o s).dieRevision = s.dieRevision := by
  simp only [timeMark]; repeat' split
  all_goals (first | rfl | simp)
@[simp] theorem timeMark_time (o : Nat) (s : State) : (timeMark o s).time = s.time := by
  simp only [timeMark]; repeat' split
  all_goals (first | rfl | simp)
@[simp] theorem timeMark_front (o : Nat) (s : State) : (timeMark o s).front = s.front := by
  simp only [timeMark]; repeat' split
  all_goals (first | rfl | simp)
@[simp] theorem timeMark_scan (o : Nat) (s : State) : (timeMark o s).scan = s.scan := by
  simp only [timeMark]; repeat' split
  all_goals (first | rfl | simp)
@[simp] theorem timeMark_plane (o : Nat) (s : State) : (timeMark o s).plane = s.plane := by
  simp only [timeMark]; repeat' split
  all_goals (first | rfl | simp)
@[simp] theorem timeMark_base (o : Nat) (s : State) : (timeMark o s).base = s.base := by
  simp only [timeMark]; repeat' split
  all_goals (first | rfl | simp)
@[simp] theorem timeMark_pwr (o : Nat) (s : State) : (timeMark o s).pwr = s.pwr := by
  simp only [timeMark]; repeat' split
  all_goals (first | rfl | simp)
@[simp] theorem timeMark_casc (o : Nat) (s : State) : (timeMark o s).casc = s.casc := by
  simp only [timeMark]; repeat' split
  all_goals (first | rfl | simp)
@[simp] theorem timeMark_lvl (o : Nat) (s : State) : (timeMark o s).lvl = s.lvl := by
  simp only [timeMark]; repeat' split
  all_goals (first | rfl | simp)
@[simp] theorem timeMark_link (o : Nat) (s : State) : (timeMark o s).link = s.link := by
  simp only [timeMark]; repeat' split
  all_goals (first | rfl | simp)
@[simp] theorem timeMark_cmd (o : Nat) (s : State) : (timeMark o s).cmd = s.cmd := by
  simp only [timeMark]; repeat' split
  all_goals (first | rfl | simp)
@[simp] theorem timeMark_report (o : Nat) (s : State) : (timeMark o s).report = s.report := by
  simp only [timeMark]; repeat' split
  all_goals (first | rfl | simp)
@[simp] theorem timeMark_image (o : Nat) (s : State) : (timeMark o s).image = s.image := by
  simp only [timeMark]; repeat' split
  all_goals (first | rfl | simp)
@[simp] theorem timeMark_bench (o : Nat) (s : State) : (timeMark o s).bench = s.bench := by
  simp only [timeMark]; repeat' split
  all_goals (first | rfl | simp)
@[simp] theorem timeMark_params (o : Nat) (s : State) : (timeMark o s).params = s.params := by
  simp only [timeMark]; repeat' split
  all_goals (first | rfl | simp)
@[simp] theorem timeMark_bus (o : Nat) (s : State) : (timeMark o s).bus = s.bus := by
  simp only [timeMark]; repeat' split
  all_goals (first | rfl | simp)
@[simp] theorem timeMark_mem (o : Nat) (s : State) : (timeMark o s).mem = s.mem := by
  simp only [timeMark]; repeat' split
  all_goals (first | rfl | simp)
@[simp] theorem timeMark_trust (o : Nat) (s : State) : (timeMark o s).trust = s.trust := by
  simp only [timeMark]; repeat' split
  all_goals (first | rfl | simp)
@[simp] theorem timeMark_tel (o : Nat) (s : State) : (timeMark o s).tel = s.tel := by
  simp only [timeMark]; repeat' split
  all_goals (first | rfl | simp)
@[simp] theorem timeMark_boot (o : Nat) (s : State) : (timeMark o s).boot = s.boot := by
  simp only [timeMark]; repeat' split
  all_goals (first | rfl | simp)
@[simp] theorem timeMark_pending (o : Nat) (s : State) : (timeMark o s).pending = s.pending := by
  simp only [timeMark]; repeat' split
  all_goals (first | rfl | simp)
@[simp] theorem timeMark_freeIdx (o : Nat) (s : State) : (timeMark o s).freeIdx = s.freeIdx := by
  simp only [timeMark]; repeat' split
  all_goals (first | rfl | simp)

/-! Records of the report ring (11 R343). -/

@[simp] theorem wakeCheckPass_part (s : State) : (wakeCheckPass s).part = s.part := by
  simp only [wakeCheckPass]; repeat' split
  all_goals (first | rfl | simp)
@[simp] theorem wakeCheckPass_dieRevision (s : State) : (wakeCheckPass s).dieRevision = s.dieRevision := by
  simp only [wakeCheckPass]; repeat' split
  all_goals (first | rfl | simp)
@[simp] theorem wakeCheckPass_time (s : State) : (wakeCheckPass s).time = s.time := by
  simp only [wakeCheckPass]; repeat' split
  all_goals (first | rfl | simp)
@[simp] theorem wakeCheckPass_front (s : State) : (wakeCheckPass s).front = s.front := by
  simp only [wakeCheckPass]; repeat' split
  all_goals (first | rfl | simp)
@[simp] theorem wakeCheckPass_scan (s : State) : (wakeCheckPass s).scan = s.scan := by
  simp only [wakeCheckPass]; repeat' split
  all_goals (first | rfl | simp)
@[simp] theorem wakeCheckPass_plane (s : State) : (wakeCheckPass s).plane = s.plane := by
  simp only [wakeCheckPass]; repeat' split
  all_goals (first | rfl | simp)
@[simp] theorem wakeCheckPass_base (s : State) : (wakeCheckPass s).base = s.base := by
  simp only [wakeCheckPass]; repeat' split
  all_goals (first | rfl | simp)
@[simp] theorem wakeCheckPass_casc (s : State) : (wakeCheckPass s).casc = s.casc := by
  simp only [wakeCheckPass]; repeat' split
  all_goals (first | rfl | simp)
@[simp] theorem wakeCheckPass_lvl (s : State) : (wakeCheckPass s).lvl = s.lvl := by
  simp only [wakeCheckPass]; repeat' split
  all_goals (first | rfl | simp)
@[simp] theorem wakeCheckPass_link (s : State) : (wakeCheckPass s).link = s.link := by
  simp only [wakeCheckPass]; repeat' split
  all_goals (first | rfl | simp)
@[simp] theorem wakeCheckPass_cmd (s : State) : (wakeCheckPass s).cmd = s.cmd := by
  simp only [wakeCheckPass]; repeat' split
  all_goals (first | rfl | simp)
@[simp] theorem wakeCheckPass_report (s : State) : (wakeCheckPass s).report = s.report := by
  simp only [wakeCheckPass]; repeat' split
  all_goals (first | rfl | simp)
@[simp] theorem wakeCheckPass_image (s : State) : (wakeCheckPass s).image = s.image := by
  simp only [wakeCheckPass]; repeat' split
  all_goals (first | rfl | simp)
@[simp] theorem wakeCheckPass_record (s : State) : (wakeCheckPass s).record = s.record := by
  simp only [wakeCheckPass]; repeat' split
  all_goals (first | rfl | simp)
@[simp] theorem wakeCheckPass_bench (s : State) : (wakeCheckPass s).bench = s.bench := by
  simp only [wakeCheckPass]; repeat' split
  all_goals (first | rfl | simp)
@[simp] theorem wakeCheckPass_params (s : State) : (wakeCheckPass s).params = s.params := by
  simp only [wakeCheckPass]; repeat' split
  all_goals (first | rfl | simp)
@[simp] theorem wakeCheckPass_bus (s : State) : (wakeCheckPass s).bus = s.bus := by
  simp only [wakeCheckPass]; repeat' split
  all_goals (first | rfl | simp)
@[simp] theorem wakeCheckPass_mem (s : State) : (wakeCheckPass s).mem = s.mem := by
  simp only [wakeCheckPass]; repeat' split
  all_goals (first | rfl | simp)
@[simp] theorem wakeCheckPass_trust (s : State) : (wakeCheckPass s).trust = s.trust := by
  simp only [wakeCheckPass]; repeat' split
  all_goals (first | rfl | simp)
@[simp] theorem wakeCheckPass_tally (s : State) : (wakeCheckPass s).tally = s.tally := by
  simp only [wakeCheckPass]; repeat' split
  all_goals (first | rfl | simp)
@[simp] theorem wakeCheckPass_tel (s : State) : (wakeCheckPass s).tel = s.tel := by
  simp only [wakeCheckPass]; repeat' split
  all_goals (first | rfl | simp)
@[simp] theorem wakeCheckPass_boot (s : State) : (wakeCheckPass s).boot = s.boot := by
  simp only [wakeCheckPass]; repeat' split
  all_goals (first | rfl | simp)
@[simp] theorem wakeCheckPass_pending (s : State) : (wakeCheckPass s).pending = s.pending := by
  simp only [wakeCheckPass]; repeat' split
  all_goals (first | rfl | simp)
@[simp] theorem wakeCheckPass_freeIdx (s : State) : (wakeCheckPass s).freeIdx = s.freeIdx := by
  simp only [wakeCheckPass]; repeat' split
  all_goals (first | rfl | simp)

@[simp] theorem writeReport_part (bs : List Byte) (m : RecMark) (s : State) : (writeReport bs m s).part = s.part := by simp [writeReport]
@[simp] theorem writeReport_dieRevision (bs : List Byte) (m : RecMark) (s : State) : (writeReport bs m s).dieRevision = s.dieRevision := by simp [writeReport]
@[simp] theorem writeReport_time (bs : List Byte) (m : RecMark) (s : State) : (writeReport bs m s).time = s.time := by simp [writeReport]
@[simp] theorem writeReport_front (bs : List Byte) (m : RecMark) (s : State) : (writeReport bs m s).front = s.front := by simp [writeReport]
@[simp] theorem writeReport_scan (bs : List Byte) (m : RecMark) (s : State) : (writeReport bs m s).scan = s.scan := by simp [writeReport]
@[simp] theorem writeReport_plane (bs : List Byte) (m : RecMark) (s : State) : (writeReport bs m s).plane = s.plane := by simp [writeReport]
@[simp] theorem writeReport_base (bs : List Byte) (m : RecMark) (s : State) : (writeReport bs m s).base = s.base := by simp [writeReport]
@[simp] theorem writeReport_casc (bs : List Byte) (m : RecMark) (s : State) : (writeReport bs m s).casc = s.casc := by simp [writeReport]
@[simp] theorem writeReport_lvl (bs : List Byte) (m : RecMark) (s : State) : (writeReport bs m s).lvl = s.lvl := by simp [writeReport]
@[simp] theorem writeReport_link (bs : List Byte) (m : RecMark) (s : State) : (writeReport bs m s).link = s.link := by simp [writeReport]
@[simp] theorem writeReport_cmd (bs : List Byte) (m : RecMark) (s : State) : (writeReport bs m s).cmd = s.cmd := by simp [writeReport]
@[simp] theorem writeReport_image (bs : List Byte) (m : RecMark) (s : State) : (writeReport bs m s).image = s.image := by simp [writeReport]
@[simp] theorem writeReport_record (bs : List Byte) (m : RecMark) (s : State) : (writeReport bs m s).record = s.record := by simp [writeReport]
@[simp] theorem writeReport_bench (bs : List Byte) (m : RecMark) (s : State) : (writeReport bs m s).bench = s.bench := by simp [writeReport]
@[simp] theorem writeReport_params (bs : List Byte) (m : RecMark) (s : State) : (writeReport bs m s).params = s.params := by simp [writeReport]
@[simp] theorem writeReport_bus (bs : List Byte) (m : RecMark) (s : State) : (writeReport bs m s).bus = s.bus := by simp [writeReport]
@[simp] theorem writeReport_mem (bs : List Byte) (m : RecMark) (s : State) : (writeReport bs m s).mem = s.mem := by simp [writeReport]
@[simp] theorem writeReport_trust (bs : List Byte) (m : RecMark) (s : State) : (writeReport bs m s).trust = s.trust := by simp [writeReport]
@[simp] theorem writeReport_tally (bs : List Byte) (m : RecMark) (s : State) : (writeReport bs m s).tally = s.tally := by simp [writeReport]
@[simp] theorem writeReport_tel (bs : List Byte) (m : RecMark) (s : State) : (writeReport bs m s).tel = s.tel := by simp [writeReport]
@[simp] theorem writeReport_boot (bs : List Byte) (m : RecMark) (s : State) : (writeReport bs m s).boot = s.boot := by simp [writeReport]
@[simp] theorem writeReport_pending (bs : List Byte) (m : RecMark) (s : State) : (writeReport bs m s).pending = s.pending := by simp [writeReport]
@[simp] theorem writeReport_freeIdx (bs : List Byte) (m : RecMark) (s : State) : (writeReport bs m s).freeIdx = s.freeIdx := by simp [writeReport]

/-! Tenon messages (09 R264 to R267). -/

@[simp] theorem countDropped_part (s : State) : (countDropped s).part = s.part := rfl
@[simp] theorem countDropped_dieRevision (s : State) : (countDropped s).dieRevision = s.dieRevision := rfl
@[simp] theorem countDropped_time (s : State) : (countDropped s).time = s.time := rfl
@[simp] theorem countDropped_front (s : State) : (countDropped s).front = s.front := rfl
@[simp] theorem countDropped_scan (s : State) : (countDropped s).scan = s.scan := rfl
@[simp] theorem countDropped_plane (s : State) : (countDropped s).plane = s.plane := rfl
@[simp] theorem countDropped_base (s : State) : (countDropped s).base = s.base := rfl
@[simp] theorem countDropped_trk (s : State) : (countDropped s).trk = s.trk := rfl
@[simp] theorem countDropped_pwr (s : State) : (countDropped s).pwr = s.pwr := rfl
@[simp] theorem countDropped_casc (s : State) : (countDropped s).casc = s.casc := rfl
@[simp] theorem countDropped_lvl (s : State) : (countDropped s).lvl = s.lvl := rfl
@[simp] theorem countDropped_link (s : State) : (countDropped s).link = s.link := rfl
@[simp] theorem countDropped_attn (s : State) : (countDropped s).attn = s.attn := rfl
@[simp] theorem countDropped_cmd (s : State) : (countDropped s).cmd = s.cmd := rfl
@[simp] theorem countDropped_report (s : State) : (countDropped s).report = s.report := rfl
@[simp] theorem countDropped_image (s : State) : (countDropped s).image = s.image := rfl
@[simp] theorem countDropped_record (s : State) : (countDropped s).record = s.record := rfl
@[simp] theorem countDropped_bench (s : State) : (countDropped s).bench = s.bench := rfl
@[simp] theorem countDropped_params (s : State) : (countDropped s).params = s.params := rfl
@[simp] theorem countDropped_bus (s : State) : (countDropped s).bus = s.bus := rfl
@[simp] theorem countDropped_mem (s : State) : (countDropped s).mem = s.mem := rfl
@[simp] theorem countDropped_trust (s : State) : (countDropped s).trust = s.trust := rfl
@[simp] theorem countDropped_tally (s : State) : (countDropped s).tally = s.tally := rfl
@[simp] theorem countDropped_boot (s : State) : (countDropped s).boot = s.boot := rfl
@[simp] theorem countDropped_pending (s : State) : (countDropped s).pending = s.pending := rfl
@[simp] theorem countDropped_freeIdx (s : State) : (countDropped s).freeIdx = s.freeIdx := rfl

@[simp] theorem sendOne_part (m : TenonMsg) (s : State) : (sendOne m s).part = s.part := by
  simp only [sendOne]; repeat' split
  all_goals (first | rfl | simp)
@[simp] theorem sendOne_dieRevision (m : TenonMsg) (s : State) : (sendOne m s).dieRevision = s.dieRevision := by
  simp only [sendOne]; repeat' split
  all_goals (first | rfl | simp)
@[simp] theorem sendOne_time (m : TenonMsg) (s : State) : (sendOne m s).time = s.time := by
  simp only [sendOne]; repeat' split
  all_goals (first | rfl | simp)
@[simp] theorem sendOne_front (m : TenonMsg) (s : State) : (sendOne m s).front = s.front := by
  simp only [sendOne]; repeat' split
  all_goals (first | rfl | simp)
@[simp] theorem sendOne_scan (m : TenonMsg) (s : State) : (sendOne m s).scan = s.scan := by
  simp only [sendOne]; repeat' split
  all_goals (first | rfl | simp)
@[simp] theorem sendOne_plane (m : TenonMsg) (s : State) : (sendOne m s).plane = s.plane := by
  simp only [sendOne]; repeat' split
  all_goals (first | rfl | simp)
@[simp] theorem sendOne_base (m : TenonMsg) (s : State) : (sendOne m s).base = s.base := by
  simp only [sendOne]; repeat' split
  all_goals (first | rfl | simp)
@[simp] theorem sendOne_trk (m : TenonMsg) (s : State) : (sendOne m s).trk = s.trk := by
  simp only [sendOne]; repeat' split
  all_goals (first | rfl | simp)
@[simp] theorem sendOne_pwr (m : TenonMsg) (s : State) : (sendOne m s).pwr = s.pwr := by
  simp only [sendOne]; repeat' split
  all_goals (first | rfl | simp)
@[simp] theorem sendOne_lvl (m : TenonMsg) (s : State) : (sendOne m s).lvl = s.lvl := by
  simp only [sendOne]; repeat' split
  all_goals (first | rfl | simp)
@[simp] theorem sendOne_link (m : TenonMsg) (s : State) : (sendOne m s).link = s.link := by
  simp only [sendOne]; repeat' split
  all_goals (first | rfl | simp)
@[simp] theorem sendOne_attn (m : TenonMsg) (s : State) : (sendOne m s).attn = s.attn := by
  simp only [sendOne]; repeat' split
  all_goals (first | rfl | simp)
@[simp] theorem sendOne_cmd (m : TenonMsg) (s : State) : (sendOne m s).cmd = s.cmd := by
  simp only [sendOne]; repeat' split
  all_goals (first | rfl | simp)
@[simp] theorem sendOne_report (m : TenonMsg) (s : State) : (sendOne m s).report = s.report := by
  simp only [sendOne]; repeat' split
  all_goals (first | rfl | simp)
@[simp] theorem sendOne_image (m : TenonMsg) (s : State) : (sendOne m s).image = s.image := by
  simp only [sendOne]; repeat' split
  all_goals (first | rfl | simp)
@[simp] theorem sendOne_record (m : TenonMsg) (s : State) : (sendOne m s).record = s.record := by
  simp only [sendOne]; repeat' split
  all_goals (first | rfl | simp)
@[simp] theorem sendOne_bench (m : TenonMsg) (s : State) : (sendOne m s).bench = s.bench := by
  simp only [sendOne]; repeat' split
  all_goals (first | rfl | simp)
@[simp] theorem sendOne_params (m : TenonMsg) (s : State) : (sendOne m s).params = s.params := by
  simp only [sendOne]; repeat' split
  all_goals (first | rfl | simp)
@[simp] theorem sendOne_bus (m : TenonMsg) (s : State) : (sendOne m s).bus = s.bus := by
  simp only [sendOne]; repeat' split
  all_goals (first | rfl | simp)
@[simp] theorem sendOne_mem (m : TenonMsg) (s : State) : (sendOne m s).mem = s.mem := by
  simp only [sendOne]; repeat' split
  all_goals (first | rfl | simp)
@[simp] theorem sendOne_trust (m : TenonMsg) (s : State) : (sendOne m s).trust = s.trust := by
  simp only [sendOne]; repeat' split
  all_goals (first | rfl | simp)
@[simp] theorem sendOne_tally (m : TenonMsg) (s : State) : (sendOne m s).tally = s.tally := by
  simp only [sendOne]; repeat' split
  all_goals (first | rfl | simp)
@[simp] theorem sendOne_boot (m : TenonMsg) (s : State) : (sendOne m s).boot = s.boot := by
  simp only [sendOne]; repeat' split
  all_goals (first | rfl | simp)
@[simp] theorem sendOne_pending (m : TenonMsg) (s : State) : (sendOne m s).pending = s.pending := by
  simp only [sendOne]; repeat' split
  all_goals (first | rfl | simp)
@[simp] theorem sendOne_freeIdx (m : TenonMsg) (s : State) : (sendOne m s).freeIdx = s.freeIdx := by
  simp only [sendOne]; repeat' split
  all_goals (first | rfl | simp)

@[simp] theorem newMsg_part (t d : Nat) (b : TenonBody) (s : State) : ((newMsg t d b s).2).part = s.part := rfl
@[simp] theorem newMsg_dieRevision (t d : Nat) (b : TenonBody) (s : State) : ((newMsg t d b s).2).dieRevision = s.dieRevision := rfl
@[simp] theorem newMsg_time (t d : Nat) (b : TenonBody) (s : State) : ((newMsg t d b s).2).time = s.time := rfl
@[simp] theorem newMsg_front (t d : Nat) (b : TenonBody) (s : State) : ((newMsg t d b s).2).front = s.front := rfl
@[simp] theorem newMsg_scan (t d : Nat) (b : TenonBody) (s : State) : ((newMsg t d b s).2).scan = s.scan := rfl
@[simp] theorem newMsg_plane (t d : Nat) (b : TenonBody) (s : State) : ((newMsg t d b s).2).plane = s.plane := rfl
@[simp] theorem newMsg_base (t d : Nat) (b : TenonBody) (s : State) : ((newMsg t d b s).2).base = s.base := rfl
@[simp] theorem newMsg_trk (t d : Nat) (b : TenonBody) (s : State) : ((newMsg t d b s).2).trk = s.trk := rfl
@[simp] theorem newMsg_pwr (t d : Nat) (b : TenonBody) (s : State) : ((newMsg t d b s).2).pwr = s.pwr := rfl
@[simp] theorem newMsg_lvl (t d : Nat) (b : TenonBody) (s : State) : ((newMsg t d b s).2).lvl = s.lvl := rfl
@[simp] theorem newMsg_link (t d : Nat) (b : TenonBody) (s : State) : ((newMsg t d b s).2).link = s.link := rfl
@[simp] theorem newMsg_attn (t d : Nat) (b : TenonBody) (s : State) : ((newMsg t d b s).2).attn = s.attn := rfl
@[simp] theorem newMsg_cmd (t d : Nat) (b : TenonBody) (s : State) : ((newMsg t d b s).2).cmd = s.cmd := rfl
@[simp] theorem newMsg_report (t d : Nat) (b : TenonBody) (s : State) : ((newMsg t d b s).2).report = s.report := rfl
@[simp] theorem newMsg_image (t d : Nat) (b : TenonBody) (s : State) : ((newMsg t d b s).2).image = s.image := rfl
@[simp] theorem newMsg_record (t d : Nat) (b : TenonBody) (s : State) : ((newMsg t d b s).2).record = s.record := rfl
@[simp] theorem newMsg_bench (t d : Nat) (b : TenonBody) (s : State) : ((newMsg t d b s).2).bench = s.bench := rfl
@[simp] theorem newMsg_params (t d : Nat) (b : TenonBody) (s : State) : ((newMsg t d b s).2).params = s.params := rfl
@[simp] theorem newMsg_bus (t d : Nat) (b : TenonBody) (s : State) : ((newMsg t d b s).2).bus = s.bus := rfl
@[simp] theorem newMsg_mem (t d : Nat) (b : TenonBody) (s : State) : ((newMsg t d b s).2).mem = s.mem := rfl
@[simp] theorem newMsg_trust (t d : Nat) (b : TenonBody) (s : State) : ((newMsg t d b s).2).trust = s.trust := rfl
@[simp] theorem newMsg_tally (t d : Nat) (b : TenonBody) (s : State) : ((newMsg t d b s).2).tally = s.tally := rfl
@[simp] theorem newMsg_tel (t d : Nat) (b : TenonBody) (s : State) : ((newMsg t d b s).2).tel = s.tel := rfl
@[simp] theorem newMsg_boot (t d : Nat) (b : TenonBody) (s : State) : ((newMsg t d b s).2).boot = s.boot := rfl
@[simp] theorem newMsg_pending (t d : Nat) (b : TenonBody) (s : State) : ((newMsg t d b s).2).pending = s.pending := rfl
@[simp] theorem newMsg_freeIdx (t d : Nat) (b : TenonBody) (s : State) : ((newMsg t d b s).2).freeIdx = s.freeIdx := rfl

@[simp] theorem awaitAck_part (m : TenonMsg) (s : State) : (awaitAck m s).part = s.part := rfl
@[simp] theorem awaitAck_dieRevision (m : TenonMsg) (s : State) : (awaitAck m s).dieRevision = s.dieRevision := rfl
@[simp] theorem awaitAck_time (m : TenonMsg) (s : State) : (awaitAck m s).time = s.time := rfl
@[simp] theorem awaitAck_front (m : TenonMsg) (s : State) : (awaitAck m s).front = s.front := rfl
@[simp] theorem awaitAck_scan (m : TenonMsg) (s : State) : (awaitAck m s).scan = s.scan := rfl
@[simp] theorem awaitAck_plane (m : TenonMsg) (s : State) : (awaitAck m s).plane = s.plane := rfl
@[simp] theorem awaitAck_base (m : TenonMsg) (s : State) : (awaitAck m s).base = s.base := rfl
@[simp] theorem awaitAck_trk (m : TenonMsg) (s : State) : (awaitAck m s).trk = s.trk := rfl
@[simp] theorem awaitAck_pwr (m : TenonMsg) (s : State) : (awaitAck m s).pwr = s.pwr := rfl
@[simp] theorem awaitAck_lvl (m : TenonMsg) (s : State) : (awaitAck m s).lvl = s.lvl := rfl
@[simp] theorem awaitAck_link (m : TenonMsg) (s : State) : (awaitAck m s).link = s.link := rfl
@[simp] theorem awaitAck_attn (m : TenonMsg) (s : State) : (awaitAck m s).attn = s.attn := rfl
@[simp] theorem awaitAck_cmd (m : TenonMsg) (s : State) : (awaitAck m s).cmd = s.cmd := rfl
@[simp] theorem awaitAck_report (m : TenonMsg) (s : State) : (awaitAck m s).report = s.report := rfl
@[simp] theorem awaitAck_image (m : TenonMsg) (s : State) : (awaitAck m s).image = s.image := rfl
@[simp] theorem awaitAck_record (m : TenonMsg) (s : State) : (awaitAck m s).record = s.record := rfl
@[simp] theorem awaitAck_bench (m : TenonMsg) (s : State) : (awaitAck m s).bench = s.bench := rfl
@[simp] theorem awaitAck_params (m : TenonMsg) (s : State) : (awaitAck m s).params = s.params := rfl
@[simp] theorem awaitAck_bus (m : TenonMsg) (s : State) : (awaitAck m s).bus = s.bus := rfl
@[simp] theorem awaitAck_mem (m : TenonMsg) (s : State) : (awaitAck m s).mem = s.mem := rfl
@[simp] theorem awaitAck_trust (m : TenonMsg) (s : State) : (awaitAck m s).trust = s.trust := rfl
@[simp] theorem awaitAck_tally (m : TenonMsg) (s : State) : (awaitAck m s).tally = s.tally := rfl
@[simp] theorem awaitAck_tel (m : TenonMsg) (s : State) : (awaitAck m s).tel = s.tel := rfl
@[simp] theorem awaitAck_boot (m : TenonMsg) (s : State) : (awaitAck m s).boot = s.boot := rfl
@[simp] theorem awaitAck_pending (m : TenonMsg) (s : State) : (awaitAck m s).pending = s.pending := rfl
@[simp] theorem awaitAck_freeIdx (m : TenonMsg) (s : State) : (awaitAck m s).freeIdx = s.freeIdx := rfl

@[simp] theorem sendTo_part (a : Bool) (ty d : Nat) (b : TenonBody) (s : State) : (sendTo a ty d b s).part = s.part := by
  simp only [sendTo]; split <;> simp
@[simp] theorem sendTo_dieRevision (a : Bool) (ty d : Nat) (b : TenonBody) (s : State) : (sendTo a ty d b s).dieRevision = s.dieRevision := by
  simp only [sendTo]; split <;> simp
@[simp] theorem sendTo_time (a : Bool) (ty d : Nat) (b : TenonBody) (s : State) : (sendTo a ty d b s).time = s.time := by
  simp only [sendTo]; split <;> simp
@[simp] theorem sendTo_front (a : Bool) (ty d : Nat) (b : TenonBody) (s : State) : (sendTo a ty d b s).front = s.front := by
  simp only [sendTo]; split <;> simp
@[simp] theorem sendTo_scan (a : Bool) (ty d : Nat) (b : TenonBody) (s : State) : (sendTo a ty d b s).scan = s.scan := by
  simp only [sendTo]; split <;> simp
@[simp] theorem sendTo_plane (a : Bool) (ty d : Nat) (b : TenonBody) (s : State) : (sendTo a ty d b s).plane = s.plane := by
  simp only [sendTo]; split <;> simp
@[simp] theorem sendTo_base (a : Bool) (ty d : Nat) (b : TenonBody) (s : State) : (sendTo a ty d b s).base = s.base := by
  simp only [sendTo]; split <;> simp
@[simp] theorem sendTo_trk (a : Bool) (ty d : Nat) (b : TenonBody) (s : State) : (sendTo a ty d b s).trk = s.trk := by
  simp only [sendTo]; split <;> simp
@[simp] theorem sendTo_pwr (a : Bool) (ty d : Nat) (b : TenonBody) (s : State) : (sendTo a ty d b s).pwr = s.pwr := by
  simp only [sendTo]; split <;> simp
@[simp] theorem sendTo_lvl (a : Bool) (ty d : Nat) (b : TenonBody) (s : State) : (sendTo a ty d b s).lvl = s.lvl := by
  simp only [sendTo]; split <;> simp
@[simp] theorem sendTo_link (a : Bool) (ty d : Nat) (b : TenonBody) (s : State) : (sendTo a ty d b s).link = s.link := by
  simp only [sendTo]; split <;> simp
@[simp] theorem sendTo_attn (a : Bool) (ty d : Nat) (b : TenonBody) (s : State) : (sendTo a ty d b s).attn = s.attn := by
  simp only [sendTo]; split <;> simp
@[simp] theorem sendTo_cmd (a : Bool) (ty d : Nat) (b : TenonBody) (s : State) : (sendTo a ty d b s).cmd = s.cmd := by
  simp only [sendTo]; split <;> simp
@[simp] theorem sendTo_report (a : Bool) (ty d : Nat) (b : TenonBody) (s : State) : (sendTo a ty d b s).report = s.report := by
  simp only [sendTo]; split <;> simp
@[simp] theorem sendTo_image (a : Bool) (ty d : Nat) (b : TenonBody) (s : State) : (sendTo a ty d b s).image = s.image := by
  simp only [sendTo]; split <;> simp
@[simp] theorem sendTo_record (a : Bool) (ty d : Nat) (b : TenonBody) (s : State) : (sendTo a ty d b s).record = s.record := by
  simp only [sendTo]; split <;> simp
@[simp] theorem sendTo_bench (a : Bool) (ty d : Nat) (b : TenonBody) (s : State) : (sendTo a ty d b s).bench = s.bench := by
  simp only [sendTo]; split <;> simp
@[simp] theorem sendTo_params (a : Bool) (ty d : Nat) (b : TenonBody) (s : State) : (sendTo a ty d b s).params = s.params := by
  simp only [sendTo]; split <;> simp
@[simp] theorem sendTo_bus (a : Bool) (ty d : Nat) (b : TenonBody) (s : State) : (sendTo a ty d b s).bus = s.bus := by
  simp only [sendTo]; split <;> simp
@[simp] theorem sendTo_mem (a : Bool) (ty d : Nat) (b : TenonBody) (s : State) : (sendTo a ty d b s).mem = s.mem := by
  simp only [sendTo]; split <;> simp
@[simp] theorem sendTo_trust (a : Bool) (ty d : Nat) (b : TenonBody) (s : State) : (sendTo a ty d b s).trust = s.trust := by
  simp only [sendTo]; split <;> simp
@[simp] theorem sendTo_tally (a : Bool) (ty d : Nat) (b : TenonBody) (s : State) : (sendTo a ty d b s).tally = s.tally := by
  simp only [sendTo]; split <;> simp
@[simp] theorem sendTo_boot (a : Bool) (ty d : Nat) (b : TenonBody) (s : State) : (sendTo a ty d b s).boot = s.boot := by
  simp only [sendTo]; split <;> simp
@[simp] theorem sendTo_pending (a : Bool) (ty d : Nat) (b : TenonBody) (s : State) : (sendTo a ty d b s).pending = s.pending := by
  simp only [sendTo]; split <;> simp
@[simp] theorem sendTo_freeIdx (a : Bool) (ty d : Nat) (b : TenonBody) (s : State) : (sendTo a ty d b s).freeIdx = s.freeIdx := by
  simp only [sendTo]; split <;> simp

@[simp] theorem sendCopies_part (a : Bool) (ty : Nat) (b : TenonBody) (ts : List Nat) (s : State) : (sendCopies a ty b ts s).part = s.part := by
  unfold sendCopies; exact foldl_keeps (fun s : State => s.part) _ (fun s t => by simp) ts s
@[simp] theorem sendCopies_dieRevision (a : Bool) (ty : Nat) (b : TenonBody) (ts : List Nat) (s : State) : (sendCopies a ty b ts s).dieRevision = s.dieRevision := by
  unfold sendCopies; exact foldl_keeps (fun s : State => s.dieRevision) _ (fun s t => by simp) ts s
@[simp] theorem sendCopies_time (a : Bool) (ty : Nat) (b : TenonBody) (ts : List Nat) (s : State) : (sendCopies a ty b ts s).time = s.time := by
  unfold sendCopies; exact foldl_keeps (fun s : State => s.time) _ (fun s t => by simp) ts s
@[simp] theorem sendCopies_front (a : Bool) (ty : Nat) (b : TenonBody) (ts : List Nat) (s : State) : (sendCopies a ty b ts s).front = s.front := by
  unfold sendCopies; exact foldl_keeps (fun s : State => s.front) _ (fun s t => by simp) ts s
@[simp] theorem sendCopies_scan (a : Bool) (ty : Nat) (b : TenonBody) (ts : List Nat) (s : State) : (sendCopies a ty b ts s).scan = s.scan := by
  unfold sendCopies; exact foldl_keeps (fun s : State => s.scan) _ (fun s t => by simp) ts s
@[simp] theorem sendCopies_plane (a : Bool) (ty : Nat) (b : TenonBody) (ts : List Nat) (s : State) : (sendCopies a ty b ts s).plane = s.plane := by
  unfold sendCopies; exact foldl_keeps (fun s : State => s.plane) _ (fun s t => by simp) ts s
@[simp] theorem sendCopies_base (a : Bool) (ty : Nat) (b : TenonBody) (ts : List Nat) (s : State) : (sendCopies a ty b ts s).base = s.base := by
  unfold sendCopies; exact foldl_keeps (fun s : State => s.base) _ (fun s t => by simp) ts s
@[simp] theorem sendCopies_trk (a : Bool) (ty : Nat) (b : TenonBody) (ts : List Nat) (s : State) : (sendCopies a ty b ts s).trk = s.trk := by
  unfold sendCopies; exact foldl_keeps (fun s : State => s.trk) _ (fun s t => by simp) ts s
@[simp] theorem sendCopies_pwr (a : Bool) (ty : Nat) (b : TenonBody) (ts : List Nat) (s : State) : (sendCopies a ty b ts s).pwr = s.pwr := by
  unfold sendCopies; exact foldl_keeps (fun s : State => s.pwr) _ (fun s t => by simp) ts s
@[simp] theorem sendCopies_lvl (a : Bool) (ty : Nat) (b : TenonBody) (ts : List Nat) (s : State) : (sendCopies a ty b ts s).lvl = s.lvl := by
  unfold sendCopies; exact foldl_keeps (fun s : State => s.lvl) _ (fun s t => by simp) ts s
@[simp] theorem sendCopies_link (a : Bool) (ty : Nat) (b : TenonBody) (ts : List Nat) (s : State) : (sendCopies a ty b ts s).link = s.link := by
  unfold sendCopies; exact foldl_keeps (fun s : State => s.link) _ (fun s t => by simp) ts s
@[simp] theorem sendCopies_attn (a : Bool) (ty : Nat) (b : TenonBody) (ts : List Nat) (s : State) : (sendCopies a ty b ts s).attn = s.attn := by
  unfold sendCopies; exact foldl_keeps (fun s : State => s.attn) _ (fun s t => by simp) ts s
@[simp] theorem sendCopies_cmd (a : Bool) (ty : Nat) (b : TenonBody) (ts : List Nat) (s : State) : (sendCopies a ty b ts s).cmd = s.cmd := by
  unfold sendCopies; exact foldl_keeps (fun s : State => s.cmd) _ (fun s t => by simp) ts s
@[simp] theorem sendCopies_report (a : Bool) (ty : Nat) (b : TenonBody) (ts : List Nat) (s : State) : (sendCopies a ty b ts s).report = s.report := by
  unfold sendCopies; exact foldl_keeps (fun s : State => s.report) _ (fun s t => by simp) ts s
@[simp] theorem sendCopies_image (a : Bool) (ty : Nat) (b : TenonBody) (ts : List Nat) (s : State) : (sendCopies a ty b ts s).image = s.image := by
  unfold sendCopies; exact foldl_keeps (fun s : State => s.image) _ (fun s t => by simp) ts s
@[simp] theorem sendCopies_record (a : Bool) (ty : Nat) (b : TenonBody) (ts : List Nat) (s : State) : (sendCopies a ty b ts s).record = s.record := by
  unfold sendCopies; exact foldl_keeps (fun s : State => s.record) _ (fun s t => by simp) ts s
@[simp] theorem sendCopies_bench (a : Bool) (ty : Nat) (b : TenonBody) (ts : List Nat) (s : State) : (sendCopies a ty b ts s).bench = s.bench := by
  unfold sendCopies; exact foldl_keeps (fun s : State => s.bench) _ (fun s t => by simp) ts s
@[simp] theorem sendCopies_params (a : Bool) (ty : Nat) (b : TenonBody) (ts : List Nat) (s : State) : (sendCopies a ty b ts s).params = s.params := by
  unfold sendCopies; exact foldl_keeps (fun s : State => s.params) _ (fun s t => by simp) ts s
@[simp] theorem sendCopies_bus (a : Bool) (ty : Nat) (b : TenonBody) (ts : List Nat) (s : State) : (sendCopies a ty b ts s).bus = s.bus := by
  unfold sendCopies; exact foldl_keeps (fun s : State => s.bus) _ (fun s t => by simp) ts s
@[simp] theorem sendCopies_mem (a : Bool) (ty : Nat) (b : TenonBody) (ts : List Nat) (s : State) : (sendCopies a ty b ts s).mem = s.mem := by
  unfold sendCopies; exact foldl_keeps (fun s : State => s.mem) _ (fun s t => by simp) ts s
@[simp] theorem sendCopies_trust (a : Bool) (ty : Nat) (b : TenonBody) (ts : List Nat) (s : State) : (sendCopies a ty b ts s).trust = s.trust := by
  unfold sendCopies; exact foldl_keeps (fun s : State => s.trust) _ (fun s t => by simp) ts s
@[simp] theorem sendCopies_tally (a : Bool) (ty : Nat) (b : TenonBody) (ts : List Nat) (s : State) : (sendCopies a ty b ts s).tally = s.tally := by
  unfold sendCopies; exact foldl_keeps (fun s : State => s.tally) _ (fun s t => by simp) ts s
@[simp] theorem sendCopies_boot (a : Bool) (ty : Nat) (b : TenonBody) (ts : List Nat) (s : State) : (sendCopies a ty b ts s).boot = s.boot := by
  unfold sendCopies; exact foldl_keeps (fun s : State => s.boot) _ (fun s t => by simp) ts s
@[simp] theorem sendCopies_pending (a : Bool) (ty : Nat) (b : TenonBody) (ts : List Nat) (s : State) : (sendCopies a ty b ts s).pending = s.pending := by
  unfold sendCopies; exact foldl_keeps (fun s : State => s.pending) _ (fun s t => by simp) ts s
@[simp] theorem sendCopies_freeIdx (a : Bool) (ty : Nat) (b : TenonBody) (ts : List Nat) (s : State) : (sendCopies a ty b ts s).freeIdx = s.freeIdx := by
  unfold sendCopies; exact foldl_keeps (fun s : State => s.freeIdx) _ (fun s t => by simp) ts s

@[simp] theorem awaitAll_part (m : TenonMsg) (ts : List Nat) (s : State) : (awaitAll m ts s).part = s.part := by
  unfold awaitAll; exact foldl_keeps (fun s : State => s.part) _ (fun s t => by simp) ts s
@[simp] theorem awaitAll_dieRevision (m : TenonMsg) (ts : List Nat) (s : State) : (awaitAll m ts s).dieRevision = s.dieRevision := by
  unfold awaitAll; exact foldl_keeps (fun s : State => s.dieRevision) _ (fun s t => by simp) ts s
@[simp] theorem awaitAll_time (m : TenonMsg) (ts : List Nat) (s : State) : (awaitAll m ts s).time = s.time := by
  unfold awaitAll; exact foldl_keeps (fun s : State => s.time) _ (fun s t => by simp) ts s
@[simp] theorem awaitAll_front (m : TenonMsg) (ts : List Nat) (s : State) : (awaitAll m ts s).front = s.front := by
  unfold awaitAll; exact foldl_keeps (fun s : State => s.front) _ (fun s t => by simp) ts s
@[simp] theorem awaitAll_scan (m : TenonMsg) (ts : List Nat) (s : State) : (awaitAll m ts s).scan = s.scan := by
  unfold awaitAll; exact foldl_keeps (fun s : State => s.scan) _ (fun s t => by simp) ts s
@[simp] theorem awaitAll_plane (m : TenonMsg) (ts : List Nat) (s : State) : (awaitAll m ts s).plane = s.plane := by
  unfold awaitAll; exact foldl_keeps (fun s : State => s.plane) _ (fun s t => by simp) ts s
@[simp] theorem awaitAll_base (m : TenonMsg) (ts : List Nat) (s : State) : (awaitAll m ts s).base = s.base := by
  unfold awaitAll; exact foldl_keeps (fun s : State => s.base) _ (fun s t => by simp) ts s
@[simp] theorem awaitAll_trk (m : TenonMsg) (ts : List Nat) (s : State) : (awaitAll m ts s).trk = s.trk := by
  unfold awaitAll; exact foldl_keeps (fun s : State => s.trk) _ (fun s t => by simp) ts s
@[simp] theorem awaitAll_pwr (m : TenonMsg) (ts : List Nat) (s : State) : (awaitAll m ts s).pwr = s.pwr := by
  unfold awaitAll; exact foldl_keeps (fun s : State => s.pwr) _ (fun s t => by simp) ts s
@[simp] theorem awaitAll_lvl (m : TenonMsg) (ts : List Nat) (s : State) : (awaitAll m ts s).lvl = s.lvl := by
  unfold awaitAll; exact foldl_keeps (fun s : State => s.lvl) _ (fun s t => by simp) ts s
@[simp] theorem awaitAll_link (m : TenonMsg) (ts : List Nat) (s : State) : (awaitAll m ts s).link = s.link := by
  unfold awaitAll; exact foldl_keeps (fun s : State => s.link) _ (fun s t => by simp) ts s
@[simp] theorem awaitAll_attn (m : TenonMsg) (ts : List Nat) (s : State) : (awaitAll m ts s).attn = s.attn := by
  unfold awaitAll; exact foldl_keeps (fun s : State => s.attn) _ (fun s t => by simp) ts s
@[simp] theorem awaitAll_cmd (m : TenonMsg) (ts : List Nat) (s : State) : (awaitAll m ts s).cmd = s.cmd := by
  unfold awaitAll; exact foldl_keeps (fun s : State => s.cmd) _ (fun s t => by simp) ts s
@[simp] theorem awaitAll_report (m : TenonMsg) (ts : List Nat) (s : State) : (awaitAll m ts s).report = s.report := by
  unfold awaitAll; exact foldl_keeps (fun s : State => s.report) _ (fun s t => by simp) ts s
@[simp] theorem awaitAll_image (m : TenonMsg) (ts : List Nat) (s : State) : (awaitAll m ts s).image = s.image := by
  unfold awaitAll; exact foldl_keeps (fun s : State => s.image) _ (fun s t => by simp) ts s
@[simp] theorem awaitAll_record (m : TenonMsg) (ts : List Nat) (s : State) : (awaitAll m ts s).record = s.record := by
  unfold awaitAll; exact foldl_keeps (fun s : State => s.record) _ (fun s t => by simp) ts s
@[simp] theorem awaitAll_bench (m : TenonMsg) (ts : List Nat) (s : State) : (awaitAll m ts s).bench = s.bench := by
  unfold awaitAll; exact foldl_keeps (fun s : State => s.bench) _ (fun s t => by simp) ts s
@[simp] theorem awaitAll_params (m : TenonMsg) (ts : List Nat) (s : State) : (awaitAll m ts s).params = s.params := by
  unfold awaitAll; exact foldl_keeps (fun s : State => s.params) _ (fun s t => by simp) ts s
@[simp] theorem awaitAll_bus (m : TenonMsg) (ts : List Nat) (s : State) : (awaitAll m ts s).bus = s.bus := by
  unfold awaitAll; exact foldl_keeps (fun s : State => s.bus) _ (fun s t => by simp) ts s
@[simp] theorem awaitAll_mem (m : TenonMsg) (ts : List Nat) (s : State) : (awaitAll m ts s).mem = s.mem := by
  unfold awaitAll; exact foldl_keeps (fun s : State => s.mem) _ (fun s t => by simp) ts s
@[simp] theorem awaitAll_trust (m : TenonMsg) (ts : List Nat) (s : State) : (awaitAll m ts s).trust = s.trust := by
  unfold awaitAll; exact foldl_keeps (fun s : State => s.trust) _ (fun s t => by simp) ts s
@[simp] theorem awaitAll_tally (m : TenonMsg) (ts : List Nat) (s : State) : (awaitAll m ts s).tally = s.tally := by
  unfold awaitAll; exact foldl_keeps (fun s : State => s.tally) _ (fun s t => by simp) ts s
@[simp] theorem awaitAll_tel (m : TenonMsg) (ts : List Nat) (s : State) : (awaitAll m ts s).tel = s.tel := by
  unfold awaitAll; exact foldl_keeps (fun s : State => s.tel) _ (fun s t => by simp) ts s
@[simp] theorem awaitAll_boot (m : TenonMsg) (ts : List Nat) (s : State) : (awaitAll m ts s).boot = s.boot := by
  unfold awaitAll; exact foldl_keeps (fun s : State => s.boot) _ (fun s t => by simp) ts s
@[simp] theorem awaitAll_pending (m : TenonMsg) (ts : List Nat) (s : State) : (awaitAll m ts s).pending = s.pending := by
  unfold awaitAll; exact foldl_keeps (fun s : State => s.pending) _ (fun s t => by simp) ts s
@[simp] theorem awaitAll_freeIdx (m : TenonMsg) (ts : List Nat) (s : State) : (awaitAll m ts s).freeIdx = s.freeIdx := by
  unfold awaitAll; exact foldl_keeps (fun s : State => s.freeIdx) _ (fun s t => by simp) ts s

@[simp] theorem sendMsg_part (ty d : Nat) (b : TenonBody) (s : State) : (sendMsg ty d b s).part = s.part := by
  simp only [sendMsg]; repeat' split
  all_goals (first | rfl | simp)
@[simp] theorem sendMsg_dieRevision (ty d : Nat) (b : TenonBody) (s : State) : (sendMsg ty d b s).dieRevision = s.dieRevision := by
  simp only [sendMsg]; repeat' split
  all_goals (first | rfl | simp)
@[simp] theorem sendMsg_time (ty d : Nat) (b : TenonBody) (s : State) : (sendMsg ty d b s).time = s.time := by
  simp only [sendMsg]; repeat' split
  all_goals (first | rfl | simp)
@[simp] theorem sendMsg_front (ty d : Nat) (b : TenonBody) (s : State) : (sendMsg ty d b s).front = s.front := by
  simp only [sendMsg]; repeat' split
  all_goals (first | rfl | simp)
@[simp] theorem sendMsg_scan (ty d : Nat) (b : TenonBody) (s : State) : (sendMsg ty d b s).scan = s.scan := by
  simp only [sendMsg]; repeat' split
  all_goals (first | rfl | simp)
@[simp] theorem sendMsg_plane (ty d : Nat) (b : TenonBody) (s : State) : (sendMsg ty d b s).plane = s.plane := by
  simp only [sendMsg]; repeat' split
  all_goals (first | rfl | simp)
@[simp] theorem sendMsg_base (ty d : Nat) (b : TenonBody) (s : State) : (sendMsg ty d b s).base = s.base := by
  simp only [sendMsg]; repeat' split
  all_goals (first | rfl | simp)
@[simp] theorem sendMsg_trk (ty d : Nat) (b : TenonBody) (s : State) : (sendMsg ty d b s).trk = s.trk := by
  simp only [sendMsg]; repeat' split
  all_goals (first | rfl | simp)
@[simp] theorem sendMsg_pwr (ty d : Nat) (b : TenonBody) (s : State) : (sendMsg ty d b s).pwr = s.pwr := by
  simp only [sendMsg]; repeat' split
  all_goals (first | rfl | simp)
@[simp] theorem sendMsg_lvl (ty d : Nat) (b : TenonBody) (s : State) : (sendMsg ty d b s).lvl = s.lvl := by
  simp only [sendMsg]; repeat' split
  all_goals (first | rfl | simp)
@[simp] theorem sendMsg_link (ty d : Nat) (b : TenonBody) (s : State) : (sendMsg ty d b s).link = s.link := by
  simp only [sendMsg]; repeat' split
  all_goals (first | rfl | simp)
@[simp] theorem sendMsg_attn (ty d : Nat) (b : TenonBody) (s : State) : (sendMsg ty d b s).attn = s.attn := by
  simp only [sendMsg]; repeat' split
  all_goals (first | rfl | simp)
@[simp] theorem sendMsg_cmd (ty d : Nat) (b : TenonBody) (s : State) : (sendMsg ty d b s).cmd = s.cmd := by
  simp only [sendMsg]; repeat' split
  all_goals (first | rfl | simp)
@[simp] theorem sendMsg_report (ty d : Nat) (b : TenonBody) (s : State) : (sendMsg ty d b s).report = s.report := by
  simp only [sendMsg]; repeat' split
  all_goals (first | rfl | simp)
@[simp] theorem sendMsg_image (ty d : Nat) (b : TenonBody) (s : State) : (sendMsg ty d b s).image = s.image := by
  simp only [sendMsg]; repeat' split
  all_goals (first | rfl | simp)
@[simp] theorem sendMsg_record (ty d : Nat) (b : TenonBody) (s : State) : (sendMsg ty d b s).record = s.record := by
  simp only [sendMsg]; repeat' split
  all_goals (first | rfl | simp)
@[simp] theorem sendMsg_bench (ty d : Nat) (b : TenonBody) (s : State) : (sendMsg ty d b s).bench = s.bench := by
  simp only [sendMsg]; repeat' split
  all_goals (first | rfl | simp)
@[simp] theorem sendMsg_params (ty d : Nat) (b : TenonBody) (s : State) : (sendMsg ty d b s).params = s.params := by
  simp only [sendMsg]; repeat' split
  all_goals (first | rfl | simp)
@[simp] theorem sendMsg_bus (ty d : Nat) (b : TenonBody) (s : State) : (sendMsg ty d b s).bus = s.bus := by
  simp only [sendMsg]; repeat' split
  all_goals (first | rfl | simp)
@[simp] theorem sendMsg_mem (ty d : Nat) (b : TenonBody) (s : State) : (sendMsg ty d b s).mem = s.mem := by
  simp only [sendMsg]; repeat' split
  all_goals (first | rfl | simp)
@[simp] theorem sendMsg_trust (ty d : Nat) (b : TenonBody) (s : State) : (sendMsg ty d b s).trust = s.trust := by
  simp only [sendMsg]; repeat' split
  all_goals (first | rfl | simp)
@[simp] theorem sendMsg_tally (ty d : Nat) (b : TenonBody) (s : State) : (sendMsg ty d b s).tally = s.tally := by
  simp only [sendMsg]; repeat' split
  all_goals (first | rfl | simp)
@[simp] theorem sendMsg_boot (ty d : Nat) (b : TenonBody) (s : State) : (sendMsg ty d b s).boot = s.boot := by
  simp only [sendMsg]; repeat' split
  all_goals (first | rfl | simp)
@[simp] theorem sendMsg_pending (ty d : Nat) (b : TenonBody) (s : State) : (sendMsg ty d b s).pending = s.pending := by
  simp only [sendMsg]; repeat' split
  all_goals (first | rfl | simp)
@[simp] theorem sendMsg_freeIdx (ty d : Nat) (b : TenonBody) (s : State) : (sendMsg ty d b s).freeIdx = s.freeIdx := by
  simp only [sendMsg]; repeat' split
  all_goals (first | rfl | simp)

/-! Fault, partner-event and cascade-event records (11 R343). -/

@[simp] theorem faultRecord_part (bs : List Byte) (s : State) : (faultRecord bs s).part = s.part := by
  simp only [faultRecord]; repeat' split
  all_goals (first | rfl | simp)
@[simp] theorem faultRecord_dieRevision (bs : List Byte) (s : State) : (faultRecord bs s).dieRevision = s.dieRevision := by
  simp only [faultRecord]; repeat' split
  all_goals (first | rfl | simp)
@[simp] theorem faultRecord_time (bs : List Byte) (s : State) : (faultRecord bs s).time = s.time := by
  simp only [faultRecord]; repeat' split
  all_goals (first | rfl | simp)
@[simp] theorem faultRecord_front (bs : List Byte) (s : State) : (faultRecord bs s).front = s.front := by
  simp only [faultRecord]; repeat' split
  all_goals (first | rfl | simp)
@[simp] theorem faultRecord_scan (bs : List Byte) (s : State) : (faultRecord bs s).scan = s.scan := by
  simp only [faultRecord]; repeat' split
  all_goals (first | rfl | simp)
@[simp] theorem faultRecord_plane (bs : List Byte) (s : State) : (faultRecord bs s).plane = s.plane := by
  simp only [faultRecord]; repeat' split
  all_goals (first | rfl | simp)
@[simp] theorem faultRecord_base (bs : List Byte) (s : State) : (faultRecord bs s).base = s.base := by
  simp only [faultRecord]; repeat' split
  all_goals (first | rfl | simp)
@[simp] theorem faultRecord_lvl (bs : List Byte) (s : State) : (faultRecord bs s).lvl = s.lvl := by
  simp only [faultRecord]; repeat' split
  all_goals (first | rfl | simp)
@[simp] theorem faultRecord_link (bs : List Byte) (s : State) : (faultRecord bs s).link = s.link := by
  simp only [faultRecord]; repeat' split
  all_goals (first | rfl | simp)
@[simp] theorem faultRecord_cmd (bs : List Byte) (s : State) : (faultRecord bs s).cmd = s.cmd := by
  simp only [faultRecord]; repeat' split
  all_goals (first | rfl | simp)
@[simp] theorem faultRecord_image (bs : List Byte) (s : State) : (faultRecord bs s).image = s.image := by
  simp only [faultRecord]; repeat' split
  all_goals (first | rfl | simp)
@[simp] theorem faultRecord_params (bs : List Byte) (s : State) : (faultRecord bs s).params = s.params := by
  simp only [faultRecord]; repeat' split
  all_goals (first | rfl | simp)
@[simp] theorem faultRecord_bus (bs : List Byte) (s : State) : (faultRecord bs s).bus = s.bus := by
  simp only [faultRecord]; repeat' split
  all_goals (first | rfl | simp)
@[simp] theorem faultRecord_mem (bs : List Byte) (s : State) : (faultRecord bs s).mem = s.mem := by
  simp only [faultRecord]; repeat' split
  all_goals (first | rfl | simp)
@[simp] theorem faultRecord_trust (bs : List Byte) (s : State) : (faultRecord bs s).trust = s.trust := by
  simp only [faultRecord]; repeat' split
  all_goals (first | rfl | simp)
@[simp] theorem faultRecord_boot (bs : List Byte) (s : State) : (faultRecord bs s).boot = s.boot := by
  simp only [faultRecord]; repeat' split
  all_goals (first | rfl | simp)
@[simp] theorem faultRecord_pending (bs : List Byte) (s : State) : (faultRecord bs s).pending = s.pending := by
  simp only [faultRecord]; repeat' split
  all_goals (first | rfl | simp)
@[simp] theorem faultRecord_freeIdx (bs : List Byte) (s : State) : (faultRecord bs s).freeIdx = s.freeIdx := by
  simp only [faultRecord]; repeat' split
  all_goals (first | rfl | simp)

@[simp] theorem lineRecord_part (a b c d e : Nat) (s : State) : (lineRecord a b c d e s).part = s.part := by simp [lineRecord]
@[simp] theorem lineRecord_dieRevision (a b c d e : Nat) (s : State) : (lineRecord a b c d e s).dieRevision = s.dieRevision := by simp [lineRecord]
@[simp] theorem lineRecord_time (a b c d e : Nat) (s : State) : (lineRecord a b c d e s).time = s.time := by simp [lineRecord]
@[simp] theorem lineRecord_front (a b c d e : Nat) (s : State) : (lineRecord a b c d e s).front = s.front := by simp [lineRecord]
@[simp] theorem lineRecord_scan (a b c d e : Nat) (s : State) : (lineRecord a b c d e s).scan = s.scan := by simp [lineRecord]
@[simp] theorem lineRecord_plane (a b c d e : Nat) (s : State) : (lineRecord a b c d e s).plane = s.plane := by simp [lineRecord]
@[simp] theorem lineRecord_base (a b c d e : Nat) (s : State) : (lineRecord a b c d e s).base = s.base := by simp [lineRecord]
@[simp] theorem lineRecord_lvl (a b c d e : Nat) (s : State) : (lineRecord a b c d e s).lvl = s.lvl := by simp [lineRecord]
@[simp] theorem lineRecord_link (a b c d e : Nat) (s : State) : (lineRecord a b c d e s).link = s.link := by simp [lineRecord]
@[simp] theorem lineRecord_cmd (a b c d e : Nat) (s : State) : (lineRecord a b c d e s).cmd = s.cmd := by simp [lineRecord]
@[simp] theorem lineRecord_image (a b c d e : Nat) (s : State) : (lineRecord a b c d e s).image = s.image := by simp [lineRecord]
@[simp] theorem lineRecord_params (a b c d e : Nat) (s : State) : (lineRecord a b c d e s).params = s.params := by simp [lineRecord]
@[simp] theorem lineRecord_bus (a b c d e : Nat) (s : State) : (lineRecord a b c d e s).bus = s.bus := by simp [lineRecord]
@[simp] theorem lineRecord_mem (a b c d e : Nat) (s : State) : (lineRecord a b c d e s).mem = s.mem := by simp [lineRecord]
@[simp] theorem lineRecord_trust (a b c d e : Nat) (s : State) : (lineRecord a b c d e s).trust = s.trust := by simp [lineRecord]
@[simp] theorem lineRecord_boot (a b c d e : Nat) (s : State) : (lineRecord a b c d e s).boot = s.boot := by simp [lineRecord]
@[simp] theorem lineRecord_pending (a b c d e : Nat) (s : State) : (lineRecord a b c d e s).pending = s.pending := by simp [lineRecord]
@[simp] theorem lineRecord_freeIdx (a b c d e : Nat) (s : State) : (lineRecord a b c d e s).freeIdx = s.freeIdx := by simp [lineRecord]

@[simp] theorem envRecord_part (a b c d e : Nat) (s : State) : (envRecord a b c d e s).part = s.part := by simp [envRecord]
@[simp] theorem envRecord_dieRevision (a b c d e : Nat) (s : State) : (envRecord a b c d e s).dieRevision = s.dieRevision := by simp [envRecord]
@[simp] theorem envRecord_time (a b c d e : Nat) (s : State) : (envRecord a b c d e s).time = s.time := by simp [envRecord]
@[simp] theorem envRecord_front (a b c d e : Nat) (s : State) : (envRecord a b c d e s).front = s.front := by simp [envRecord]
@[simp] theorem envRecord_scan (a b c d e : Nat) (s : State) : (envRecord a b c d e s).scan = s.scan := by simp [envRecord]
@[simp] theorem envRecord_plane (a b c d e : Nat) (s : State) : (envRecord a b c d e s).plane = s.plane := by simp [envRecord]
@[simp] theorem envRecord_base (a b c d e : Nat) (s : State) : (envRecord a b c d e s).base = s.base := by simp [envRecord]
@[simp] theorem envRecord_lvl (a b c d e : Nat) (s : State) : (envRecord a b c d e s).lvl = s.lvl := by simp [envRecord]
@[simp] theorem envRecord_link (a b c d e : Nat) (s : State) : (envRecord a b c d e s).link = s.link := by simp [envRecord]
@[simp] theorem envRecord_cmd (a b c d e : Nat) (s : State) : (envRecord a b c d e s).cmd = s.cmd := by simp [envRecord]
@[simp] theorem envRecord_image (a b c d e : Nat) (s : State) : (envRecord a b c d e s).image = s.image := by simp [envRecord]
@[simp] theorem envRecord_params (a b c d e : Nat) (s : State) : (envRecord a b c d e s).params = s.params := by simp [envRecord]
@[simp] theorem envRecord_bus (a b c d e : Nat) (s : State) : (envRecord a b c d e s).bus = s.bus := by simp [envRecord]
@[simp] theorem envRecord_mem (a b c d e : Nat) (s : State) : (envRecord a b c d e s).mem = s.mem := by simp [envRecord]
@[simp] theorem envRecord_trust (a b c d e : Nat) (s : State) : (envRecord a b c d e s).trust = s.trust := by simp [envRecord]
@[simp] theorem envRecord_boot (a b c d e : Nat) (s : State) : (envRecord a b c d e s).boot = s.boot := by simp [envRecord]
@[simp] theorem envRecord_pending (a b c d e : Nat) (s : State) : (envRecord a b c d e s).pending = s.pending := by simp [envRecord]
@[simp] theorem envRecord_freeIdx (a b c d e : Nat) (s : State) : (envRecord a b c d e s).freeIdx = s.freeIdx := by simp [envRecord]

@[simp] theorem supplyRecord_part (a : Nat) (b : Bool) (s : State) : (supplyRecord a b s).part = s.part := by simp [supplyRecord]
@[simp] theorem supplyRecord_dieRevision (a : Nat) (b : Bool) (s : State) : (supplyRecord a b s).dieRevision = s.dieRevision := by simp [supplyRecord]
@[simp] theorem supplyRecord_time (a : Nat) (b : Bool) (s : State) : (supplyRecord a b s).time = s.time := by simp [supplyRecord]
@[simp] theorem supplyRecord_front (a : Nat) (b : Bool) (s : State) : (supplyRecord a b s).front = s.front := by simp [supplyRecord]
@[simp] theorem supplyRecord_scan (a : Nat) (b : Bool) (s : State) : (supplyRecord a b s).scan = s.scan := by simp [supplyRecord]
@[simp] theorem supplyRecord_plane (a : Nat) (b : Bool) (s : State) : (supplyRecord a b s).plane = s.plane := by simp [supplyRecord]
@[simp] theorem supplyRecord_base (a : Nat) (b : Bool) (s : State) : (supplyRecord a b s).base = s.base := by simp [supplyRecord]
@[simp] theorem supplyRecord_lvl (a : Nat) (b : Bool) (s : State) : (supplyRecord a b s).lvl = s.lvl := by simp [supplyRecord]
@[simp] theorem supplyRecord_link (a : Nat) (b : Bool) (s : State) : (supplyRecord a b s).link = s.link := by simp [supplyRecord]
@[simp] theorem supplyRecord_cmd (a : Nat) (b : Bool) (s : State) : (supplyRecord a b s).cmd = s.cmd := by simp [supplyRecord]
@[simp] theorem supplyRecord_image (a : Nat) (b : Bool) (s : State) : (supplyRecord a b s).image = s.image := by simp [supplyRecord]
@[simp] theorem supplyRecord_params (a : Nat) (b : Bool) (s : State) : (supplyRecord a b s).params = s.params := by simp [supplyRecord]
@[simp] theorem supplyRecord_bus (a : Nat) (b : Bool) (s : State) : (supplyRecord a b s).bus = s.bus := by simp [supplyRecord]
@[simp] theorem supplyRecord_mem (a : Nat) (b : Bool) (s : State) : (supplyRecord a b s).mem = s.mem := by simp [supplyRecord]
@[simp] theorem supplyRecord_trust (a : Nat) (b : Bool) (s : State) : (supplyRecord a b s).trust = s.trust := by simp [supplyRecord]
@[simp] theorem supplyRecord_boot (a : Nat) (b : Bool) (s : State) : (supplyRecord a b s).boot = s.boot := by simp [supplyRecord]
@[simp] theorem supplyRecord_pending (a : Nat) (b : Bool) (s : State) : (supplyRecord a b s).pending = s.pending := by simp [supplyRecord]
@[simp] theorem supplyRecord_freeIdx (a : Nat) (b : Bool) (s : State) : (supplyRecord a b s).freeIdx = s.freeIdx := by simp [supplyRecord]

@[simp] theorem levelRecord_part (a b c d : Nat) (e : Int) (s : State) : (levelRecord a b c d e s).part = s.part := by simp [levelRecord]
@[simp] theorem levelRecord_dieRevision (a b c d : Nat) (e : Int) (s : State) : (levelRecord a b c d e s).dieRevision = s.dieRevision := by simp [levelRecord]
@[simp] theorem levelRecord_time (a b c d : Nat) (e : Int) (s : State) : (levelRecord a b c d e s).time = s.time := by simp [levelRecord]
@[simp] theorem levelRecord_front (a b c d : Nat) (e : Int) (s : State) : (levelRecord a b c d e s).front = s.front := by simp [levelRecord]
@[simp] theorem levelRecord_scan (a b c d : Nat) (e : Int) (s : State) : (levelRecord a b c d e s).scan = s.scan := by simp [levelRecord]
@[simp] theorem levelRecord_plane (a b c d : Nat) (e : Int) (s : State) : (levelRecord a b c d e s).plane = s.plane := by simp [levelRecord]
@[simp] theorem levelRecord_base (a b c d : Nat) (e : Int) (s : State) : (levelRecord a b c d e s).base = s.base := by simp [levelRecord]
@[simp] theorem levelRecord_lvl (a b c d : Nat) (e : Int) (s : State) : (levelRecord a b c d e s).lvl = s.lvl := by simp [levelRecord]
@[simp] theorem levelRecord_link (a b c d : Nat) (e : Int) (s : State) : (levelRecord a b c d e s).link = s.link := by simp [levelRecord]
@[simp] theorem levelRecord_cmd (a b c d : Nat) (e : Int) (s : State) : (levelRecord a b c d e s).cmd = s.cmd := by simp [levelRecord]
@[simp] theorem levelRecord_image (a b c d : Nat) (e : Int) (s : State) : (levelRecord a b c d e s).image = s.image := by simp [levelRecord]
@[simp] theorem levelRecord_params (a b c d : Nat) (e : Int) (s : State) : (levelRecord a b c d e s).params = s.params := by simp [levelRecord]
@[simp] theorem levelRecord_bus (a b c d : Nat) (e : Int) (s : State) : (levelRecord a b c d e s).bus = s.bus := by simp [levelRecord]
@[simp] theorem levelRecord_mem (a b c d : Nat) (e : Int) (s : State) : (levelRecord a b c d e s).mem = s.mem := by simp [levelRecord]
@[simp] theorem levelRecord_trust (a b c d : Nat) (e : Int) (s : State) : (levelRecord a b c d e s).trust = s.trust := by simp [levelRecord]
@[simp] theorem levelRecord_boot (a b c d : Nat) (e : Int) (s : State) : (levelRecord a b c d e s).boot = s.boot := by simp [levelRecord]
@[simp] theorem levelRecord_pending (a b c d : Nat) (e : Int) (s : State) : (levelRecord a b c d e s).pending = s.pending := by simp [levelRecord]
@[simp] theorem levelRecord_freeIdx (a b c d : Nat) (e : Int) (s : State) : (levelRecord a b c d e s).freeIdx = s.freeIdx := by simp [levelRecord]

@[simp] theorem memRecord_part (a b c d : Nat) (s : State) : (memRecord a b c d s).part = s.part := by simp [memRecord]
@[simp] theorem memRecord_dieRevision (a b c d : Nat) (s : State) : (memRecord a b c d s).dieRevision = s.dieRevision := by simp [memRecord]
@[simp] theorem memRecord_time (a b c d : Nat) (s : State) : (memRecord a b c d s).time = s.time := by simp [memRecord]
@[simp] theorem memRecord_front (a b c d : Nat) (s : State) : (memRecord a b c d s).front = s.front := by simp [memRecord]
@[simp] theorem memRecord_scan (a b c d : Nat) (s : State) : (memRecord a b c d s).scan = s.scan := by simp [memRecord]
@[simp] theorem memRecord_plane (a b c d : Nat) (s : State) : (memRecord a b c d s).plane = s.plane := by simp [memRecord]
@[simp] theorem memRecord_base (a b c d : Nat) (s : State) : (memRecord a b c d s).base = s.base := by simp [memRecord]
@[simp] theorem memRecord_lvl (a b c d : Nat) (s : State) : (memRecord a b c d s).lvl = s.lvl := by simp [memRecord]
@[simp] theorem memRecord_link (a b c d : Nat) (s : State) : (memRecord a b c d s).link = s.link := by simp [memRecord]
@[simp] theorem memRecord_cmd (a b c d : Nat) (s : State) : (memRecord a b c d s).cmd = s.cmd := by simp [memRecord]
@[simp] theorem memRecord_image (a b c d : Nat) (s : State) : (memRecord a b c d s).image = s.image := by simp [memRecord]
@[simp] theorem memRecord_params (a b c d : Nat) (s : State) : (memRecord a b c d s).params = s.params := by simp [memRecord]
@[simp] theorem memRecord_bus (a b c d : Nat) (s : State) : (memRecord a b c d s).bus = s.bus := by simp [memRecord]
@[simp] theorem memRecord_trust (a b c d : Nat) (s : State) : (memRecord a b c d s).trust = s.trust := by simp [memRecord]
@[simp] theorem memRecord_boot (a b c d : Nat) (s : State) : (memRecord a b c d s).boot = s.boot := by simp [memRecord]
@[simp] theorem memRecord_pending (a b c d : Nat) (s : State) : (memRecord a b c d s).pending = s.pending := by simp [memRecord]
@[simp] theorem memRecord_freeIdx (a b c d : Nat) (s : State) : (memRecord a b c d s).freeIdx = s.freeIdx := by simp [memRecord]

@[simp] theorem partnerRecord_part (a b c d e f : Nat) (s : State) : (partnerRecord a b c d e f s).part = s.part := by simp [partnerRecord]
@[simp] theorem partnerRecord_dieRevision (a b c d e f : Nat) (s : State) : (partnerRecord a b c d e f s).dieRevision = s.dieRevision := by simp [partnerRecord]
@[simp] theorem partnerRecord_time (a b c d e f : Nat) (s : State) : (partnerRecord a b c d e f s).time = s.time := by simp [partnerRecord]
@[simp] theorem partnerRecord_front (a b c d e f : Nat) (s : State) : (partnerRecord a b c d e f s).front = s.front := by simp [partnerRecord]
@[simp] theorem partnerRecord_scan (a b c d e f : Nat) (s : State) : (partnerRecord a b c d e f s).scan = s.scan := by simp [partnerRecord]
@[simp] theorem partnerRecord_plane (a b c d e f : Nat) (s : State) : (partnerRecord a b c d e f s).plane = s.plane := by simp [partnerRecord]
@[simp] theorem partnerRecord_base (a b c d e f : Nat) (s : State) : (partnerRecord a b c d e f s).base = s.base := by simp [partnerRecord]
@[simp] theorem partnerRecord_lvl (a b c d e f : Nat) (s : State) : (partnerRecord a b c d e f s).lvl = s.lvl := by simp [partnerRecord]
@[simp] theorem partnerRecord_link (a b c d e f : Nat) (s : State) : (partnerRecord a b c d e f s).link = s.link := by simp [partnerRecord]
@[simp] theorem partnerRecord_cmd (a b c d e f : Nat) (s : State) : (partnerRecord a b c d e f s).cmd = s.cmd := by simp [partnerRecord]
@[simp] theorem partnerRecord_image (a b c d e f : Nat) (s : State) : (partnerRecord a b c d e f s).image = s.image := by simp [partnerRecord]
@[simp] theorem partnerRecord_params (a b c d e f : Nat) (s : State) : (partnerRecord a b c d e f s).params = s.params := by simp [partnerRecord]
@[simp] theorem partnerRecord_bus (a b c d e f : Nat) (s : State) : (partnerRecord a b c d e f s).bus = s.bus := by simp [partnerRecord]
@[simp] theorem partnerRecord_mem (a b c d e f : Nat) (s : State) : (partnerRecord a b c d e f s).mem = s.mem := by simp [partnerRecord]
@[simp] theorem partnerRecord_trust (a b c d e f : Nat) (s : State) : (partnerRecord a b c d e f s).trust = s.trust := by simp [partnerRecord]
@[simp] theorem partnerRecord_boot (a b c d e f : Nat) (s : State) : (partnerRecord a b c d e f s).boot = s.boot := by simp [partnerRecord]
@[simp] theorem partnerRecord_pending (a b c d e f : Nat) (s : State) : (partnerRecord a b c d e f s).pending = s.pending := by simp [partnerRecord]
@[simp] theorem partnerRecord_freeIdx (a b c d e f : Nat) (s : State) : (partnerRecord a b c d e f s).freeIdx = s.freeIdx := by simp [partnerRecord]

@[simp] theorem cascadeRecord_part (a b c d : Nat) (s : State) : (cascadeRecord a b c d s).part = s.part := by simp [cascadeRecord]
@[simp] theorem cascadeRecord_dieRevision (a b c d : Nat) (s : State) : (cascadeRecord a b c d s).dieRevision = s.dieRevision := by simp [cascadeRecord]
@[simp] theorem cascadeRecord_time (a b c d : Nat) (s : State) : (cascadeRecord a b c d s).time = s.time := by simp [cascadeRecord]
@[simp] theorem cascadeRecord_front (a b c d : Nat) (s : State) : (cascadeRecord a b c d s).front = s.front := by simp [cascadeRecord]
@[simp] theorem cascadeRecord_scan (a b c d : Nat) (s : State) : (cascadeRecord a b c d s).scan = s.scan := by simp [cascadeRecord]
@[simp] theorem cascadeRecord_plane (a b c d : Nat) (s : State) : (cascadeRecord a b c d s).plane = s.plane := by simp [cascadeRecord]
@[simp] theorem cascadeRecord_base (a b c d : Nat) (s : State) : (cascadeRecord a b c d s).base = s.base := by simp [cascadeRecord]
@[simp] theorem cascadeRecord_lvl (a b c d : Nat) (s : State) : (cascadeRecord a b c d s).lvl = s.lvl := by simp [cascadeRecord]
@[simp] theorem cascadeRecord_link (a b c d : Nat) (s : State) : (cascadeRecord a b c d s).link = s.link := by simp [cascadeRecord]
@[simp] theorem cascadeRecord_cmd (a b c d : Nat) (s : State) : (cascadeRecord a b c d s).cmd = s.cmd := by simp [cascadeRecord]
@[simp] theorem cascadeRecord_image (a b c d : Nat) (s : State) : (cascadeRecord a b c d s).image = s.image := by simp [cascadeRecord]
@[simp] theorem cascadeRecord_params (a b c d : Nat) (s : State) : (cascadeRecord a b c d s).params = s.params := by simp [cascadeRecord]
@[simp] theorem cascadeRecord_bus (a b c d : Nat) (s : State) : (cascadeRecord a b c d s).bus = s.bus := by simp [cascadeRecord]
@[simp] theorem cascadeRecord_mem (a b c d : Nat) (s : State) : (cascadeRecord a b c d s).mem = s.mem := by simp [cascadeRecord]
@[simp] theorem cascadeRecord_trust (a b c d : Nat) (s : State) : (cascadeRecord a b c d s).trust = s.trust := by simp [cascadeRecord]
@[simp] theorem cascadeRecord_boot (a b c d : Nat) (s : State) : (cascadeRecord a b c d s).boot = s.boot := by simp [cascadeRecord]
@[simp] theorem cascadeRecord_pending (a b c d : Nat) (s : State) : (cascadeRecord a b c d s).pending = s.pending := by simp [cascadeRecord]
@[simp] theorem cascadeRecord_freeIdx (a b c d : Nat) (s : State) : (cascadeRecord a b c d s).freeIdx = s.freeIdx := by simp [cascadeRecord]

/-! Starts, stops and power requests (04 R120, R122; 08 R231, R244). -/

@[simp] theorem advanceStart_part (s : State) : (advanceStart s).part = s.part := by
  simp only [advanceStart]; repeat' split
  all_goals (first | rfl | simp)
@[simp] theorem advanceStart_dieRevision (s : State) : (advanceStart s).dieRevision = s.dieRevision := by
  simp only [advanceStart]; repeat' split
  all_goals (first | rfl | simp)
@[simp] theorem advanceStart_time (s : State) : (advanceStart s).time = s.time := by
  simp only [advanceStart]; repeat' split
  all_goals (first | rfl | simp)
@[simp] theorem advanceStart_front (s : State) : (advanceStart s).front = s.front := by
  simp only [advanceStart]; repeat' split
  all_goals (first | rfl | simp)
@[simp] theorem advanceStart_plane (s : State) : (advanceStart s).plane = s.plane := by
  simp only [advanceStart]; repeat' split
  all_goals (first | rfl | simp)
@[simp] theorem advanceStart_base (s : State) : (advanceStart s).base = s.base := by
  simp only [advanceStart]; repeat' split
  all_goals (first | rfl | simp)
@[simp] theorem advanceStart_trk (s : State) : (advanceStart s).trk = s.trk := by
  simp only [advanceStart]; repeat' split
  all_goals (first | rfl | simp)
@[simp] theorem advanceStart_pwr (s : State) : (advanceStart s).pwr = s.pwr := by
  simp only [advanceStart]; repeat' split
  all_goals (first | rfl | simp)
@[simp] theorem advanceStart_casc (s : State) : (advanceStart s).casc = s.casc := by
  simp only [advanceStart]; repeat' split
  all_goals (first | rfl | simp)
@[simp] theorem advanceStart_lvl (s : State) : (advanceStart s).lvl = s.lvl := by
  simp only [advanceStart]; repeat' split
  all_goals (first | rfl | simp)
@[simp] theorem advanceStart_link (s : State) : (advanceStart s).link = s.link := by
  simp only [advanceStart]; repeat' split
  all_goals (first | rfl | simp)
@[simp] theorem advanceStart_attn (s : State) : (advanceStart s).attn = s.attn := by
  simp only [advanceStart]; repeat' split
  all_goals (first | rfl | simp)
@[simp] theorem advanceStart_cmd (s : State) : (advanceStart s).cmd = s.cmd := by
  simp only [advanceStart]; repeat' split
  all_goals (first | rfl | simp)
@[simp] theorem advanceStart_report (s : State) : (advanceStart s).report = s.report := by
  simp only [advanceStart]; repeat' split
  all_goals (first | rfl | simp)
@[simp] theorem advanceStart_image (s : State) : (advanceStart s).image = s.image := by
  simp only [advanceStart]; repeat' split
  all_goals (first | rfl | simp)
@[simp] theorem advanceStart_record (s : State) : (advanceStart s).record = s.record := by
  simp only [advanceStart]; repeat' split
  all_goals (first | rfl | simp)
@[simp] theorem advanceStart_bench (s : State) : (advanceStart s).bench = s.bench := by
  simp only [advanceStart]; repeat' split
  all_goals (first | rfl | simp)
@[simp] theorem advanceStart_params (s : State) : (advanceStart s).params = s.params := by
  simp only [advanceStart]; repeat' split
  all_goals (first | rfl | simp)
@[simp] theorem advanceStart_bus (s : State) : (advanceStart s).bus = s.bus := by
  simp only [advanceStart]; repeat' split
  all_goals (first | rfl | simp)
@[simp] theorem advanceStart_mem (s : State) : (advanceStart s).mem = s.mem := by
  simp only [advanceStart]; repeat' split
  all_goals (first | rfl | simp)
@[simp] theorem advanceStart_trust (s : State) : (advanceStart s).trust = s.trust := by
  simp only [advanceStart]; repeat' split
  all_goals (first | rfl | simp)
@[simp] theorem advanceStart_tally (s : State) : (advanceStart s).tally = s.tally := by
  simp only [advanceStart]; repeat' split
  all_goals (first | rfl | simp)
@[simp] theorem advanceStart_tel (s : State) : (advanceStart s).tel = s.tel := by
  simp only [advanceStart]; repeat' split
  all_goals (first | rfl | simp)
@[simp] theorem advanceStart_boot (s : State) : (advanceStart s).boot = s.boot := by
  simp only [advanceStart]; repeat' split
  all_goals (first | rfl | simp)
@[simp] theorem advanceStart_pending (s : State) : (advanceStart s).pending = s.pending := by
  simp only [advanceStart]; repeat' split
  all_goals (first | rfl | simp)
@[simp] theorem advanceStart_freeIdx (s : State) : (advanceStart s).freeIdx = s.freeIdx := by
  simp only [advanceStart]; repeat' split
  all_goals (first | rfl | simp)

@[simp] theorem startScan_part (p : Nat) (f : Bool) (ph : ScanPhase) (s : State) : (startScan p f ph s).part = s.part := by simp only [startScan]; split <;> simp
@[simp] theorem startScan_dieRevision (p : Nat) (f : Bool) (ph : ScanPhase) (s : State) : (startScan p f ph s).dieRevision = s.dieRevision := by simp only [startScan]; split <;> simp
@[simp] theorem startScan_time (p : Nat) (f : Bool) (ph : ScanPhase) (s : State) : (startScan p f ph s).time = s.time := by simp only [startScan]; split <;> simp
@[simp] theorem startScan_plane (p : Nat) (f : Bool) (ph : ScanPhase) (s : State) : (startScan p f ph s).plane = s.plane := by simp only [startScan]; split <;> simp
@[simp] theorem startScan_base (p : Nat) (f : Bool) (ph : ScanPhase) (s : State) : (startScan p f ph s).base = s.base := by simp only [startScan]; split <;> simp
@[simp] theorem startScan_trk (p : Nat) (f : Bool) (ph : ScanPhase) (s : State) : (startScan p f ph s).trk = s.trk := by simp only [startScan]; split <;> simp
@[simp] theorem startScan_casc (p : Nat) (f : Bool) (ph : ScanPhase) (s : State) : (startScan p f ph s).casc = s.casc := by simp only [startScan]; split <;> simp
@[simp] theorem startScan_lvl (p : Nat) (f : Bool) (ph : ScanPhase) (s : State) : (startScan p f ph s).lvl = s.lvl := by simp only [startScan]; split <;> simp
@[simp] theorem startScan_link (p : Nat) (f : Bool) (ph : ScanPhase) (s : State) : (startScan p f ph s).link = s.link := by simp only [startScan]; split <;> simp
@[simp] theorem startScan_attn (p : Nat) (f : Bool) (ph : ScanPhase) (s : State) : (startScan p f ph s).attn = s.attn := by simp only [startScan]; split <;> simp
@[simp] theorem startScan_cmd (p : Nat) (f : Bool) (ph : ScanPhase) (s : State) : (startScan p f ph s).cmd = s.cmd := by simp only [startScan]; split <;> simp
@[simp] theorem startScan_report (p : Nat) (f : Bool) (ph : ScanPhase) (s : State) : (startScan p f ph s).report = s.report := by simp only [startScan]; split <;> simp
@[simp] theorem startScan_image (p : Nat) (f : Bool) (ph : ScanPhase) (s : State) : (startScan p f ph s).image = s.image := by simp only [startScan]; split <;> simp
@[simp] theorem startScan_record (p : Nat) (f : Bool) (ph : ScanPhase) (s : State) : (startScan p f ph s).record = s.record := by simp only [startScan]; split <;> simp
@[simp] theorem startScan_bench (p : Nat) (f : Bool) (ph : ScanPhase) (s : State) : (startScan p f ph s).bench = s.bench := by simp only [startScan]; split <;> simp
@[simp] theorem startScan_params (p : Nat) (f : Bool) (ph : ScanPhase) (s : State) : (startScan p f ph s).params = s.params := by simp only [startScan]; split <;> simp
@[simp] theorem startScan_bus (p : Nat) (f : Bool) (ph : ScanPhase) (s : State) : (startScan p f ph s).bus = s.bus := by simp only [startScan]; split <;> simp
@[simp] theorem startScan_mem (p : Nat) (f : Bool) (ph : ScanPhase) (s : State) : (startScan p f ph s).mem = s.mem := by simp only [startScan]; split <;> simp
@[simp] theorem startScan_trust (p : Nat) (f : Bool) (ph : ScanPhase) (s : State) : (startScan p f ph s).trust = s.trust := by simp only [startScan]; split <;> simp
@[simp] theorem startScan_tally (p : Nat) (f : Bool) (ph : ScanPhase) (s : State) : (startScan p f ph s).tally = s.tally := by simp only [startScan]; split <;> simp
@[simp] theorem startScan_tel (p : Nat) (f : Bool) (ph : ScanPhase) (s : State) : (startScan p f ph s).tel = s.tel := by simp only [startScan]; split <;> simp
@[simp] theorem startScan_boot (p : Nat) (f : Bool) (ph : ScanPhase) (s : State) : (startScan p f ph s).boot = s.boot := by simp only [startScan]; split <;> simp
@[simp] theorem startScan_pending (p : Nat) (f : Bool) (ph : ScanPhase) (s : State) : (startScan p f ph s).pending = s.pending := by simp only [startScan]; split <;> simp
@[simp] theorem startScan_freeIdx (p : Nat) (f : Bool) (ph : ScanPhase) (s : State) : (startScan p f ph s).freeIdx = s.freeIdx := by simp only [startScan]; split <;> simp

@[simp] theorem askStop_part (s : State) : (askStop s).part = s.part := by
  simp only [askStop]; repeat' split
  all_goals (first | rfl | simp)
@[simp] theorem askStop_dieRevision (s : State) : (askStop s).dieRevision = s.dieRevision := by
  simp only [askStop]; repeat' split
  all_goals (first | rfl | simp)
@[simp] theorem askStop_time (s : State) : (askStop s).time = s.time := by
  simp only [askStop]; repeat' split
  all_goals (first | rfl | simp)
@[simp] theorem askStop_front (s : State) : (askStop s).front = s.front := by
  simp only [askStop]; repeat' split
  all_goals (first | rfl | simp)
@[simp] theorem askStop_plane (s : State) : (askStop s).plane = s.plane := by
  simp only [askStop]; repeat' split
  all_goals (first | rfl | simp)
@[simp] theorem askStop_base (s : State) : (askStop s).base = s.base := by
  simp only [askStop]; repeat' split
  all_goals (first | rfl | simp)
@[simp] theorem askStop_trk (s : State) : (askStop s).trk = s.trk := by
  simp only [askStop]; repeat' split
  all_goals (first | rfl | simp)
@[simp] theorem askStop_pwr (s : State) : (askStop s).pwr = s.pwr := by
  simp only [askStop]; repeat' split
  all_goals (first | rfl | simp)
@[simp] theorem askStop_casc (s : State) : (askStop s).casc = s.casc := by
  simp only [askStop]; repeat' split
  all_goals (first | rfl | simp)
@[simp] theorem askStop_lvl (s : State) : (askStop s).lvl = s.lvl := by
  simp only [askStop]; repeat' split
  all_goals (first | rfl | simp)
@[simp] theorem askStop_link (s : State) : (askStop s).link = s.link := by
  simp only [askStop]; repeat' split
  all_goals (first | rfl | simp)
@[simp] theorem askStop_attn (s : State) : (askStop s).attn = s.attn := by
  simp only [askStop]; repeat' split
  all_goals (first | rfl | simp)
@[simp] theorem askStop_cmd (s : State) : (askStop s).cmd = s.cmd := by
  simp only [askStop]; repeat' split
  all_goals (first | rfl | simp)
@[simp] theorem askStop_report (s : State) : (askStop s).report = s.report := by
  simp only [askStop]; repeat' split
  all_goals (first | rfl | simp)
@[simp] theorem askStop_image (s : State) : (askStop s).image = s.image := by
  simp only [askStop]; repeat' split
  all_goals (first | rfl | simp)
@[simp] theorem askStop_record (s : State) : (askStop s).record = s.record := by
  simp only [askStop]; repeat' split
  all_goals (first | rfl | simp)
@[simp] theorem askStop_bench (s : State) : (askStop s).bench = s.bench := by
  simp only [askStop]; repeat' split
  all_goals (first | rfl | simp)
@[simp] theorem askStop_params (s : State) : (askStop s).params = s.params := by
  simp only [askStop]; repeat' split
  all_goals (first | rfl | simp)
@[simp] theorem askStop_bus (s : State) : (askStop s).bus = s.bus := by
  simp only [askStop]; repeat' split
  all_goals (first | rfl | simp)
@[simp] theorem askStop_mem (s : State) : (askStop s).mem = s.mem := by
  simp only [askStop]; repeat' split
  all_goals (first | rfl | simp)
@[simp] theorem askStop_trust (s : State) : (askStop s).trust = s.trust := by
  simp only [askStop]; repeat' split
  all_goals (first | rfl | simp)
@[simp] theorem askStop_tally (s : State) : (askStop s).tally = s.tally := by
  simp only [askStop]; repeat' split
  all_goals (first | rfl | simp)
@[simp] theorem askStop_tel (s : State) : (askStop s).tel = s.tel := by
  simp only [askStop]; repeat' split
  all_goals (first | rfl | simp)
@[simp] theorem askStop_boot (s : State) : (askStop s).boot = s.boot := by
  simp only [askStop]; repeat' split
  all_goals (first | rfl | simp)
@[simp] theorem askStop_pending (s : State) : (askStop s).pending = s.pending := by
  simp only [askStop]; repeat' split
  all_goals (first | rfl | simp)
@[simp] theorem askStop_freeIdx (s : State) : (askStop s).freeIdx = s.freeIdx := by
  simp only [askStop]; repeat' split
  all_goals (first | rfl | simp)

@[simp] theorem bufferOn_part (t : Time) (s : State) : (bufferOn t s).part = s.part := rfl
@[simp] theorem bufferOn_dieRevision (t : Time) (s : State) : (bufferOn t s).dieRevision = s.dieRevision := rfl
@[simp] theorem bufferOn_time (t : Time) (s : State) : (bufferOn t s).time = s.time := rfl
@[simp] theorem bufferOn_front (t : Time) (s : State) : (bufferOn t s).front = s.front := rfl
@[simp] theorem bufferOn_scan (t : Time) (s : State) : (bufferOn t s).scan = s.scan := rfl
@[simp] theorem bufferOn_plane (t : Time) (s : State) : (bufferOn t s).plane = s.plane := rfl
@[simp] theorem bufferOn_base (t : Time) (s : State) : (bufferOn t s).base = s.base := rfl
@[simp] theorem bufferOn_trk (t : Time) (s : State) : (bufferOn t s).trk = s.trk := rfl
@[simp] theorem bufferOn_pwr (t : Time) (s : State) : (bufferOn t s).pwr = s.pwr := rfl
@[simp] theorem bufferOn_casc (t : Time) (s : State) : (bufferOn t s).casc = s.casc := rfl
@[simp] theorem bufferOn_link (t : Time) (s : State) : (bufferOn t s).link = s.link := rfl
@[simp] theorem bufferOn_attn (t : Time) (s : State) : (bufferOn t s).attn = s.attn := rfl
@[simp] theorem bufferOn_cmd (t : Time) (s : State) : (bufferOn t s).cmd = s.cmd := rfl
@[simp] theorem bufferOn_report (t : Time) (s : State) : (bufferOn t s).report = s.report := rfl
@[simp] theorem bufferOn_image (t : Time) (s : State) : (bufferOn t s).image = s.image := rfl
@[simp] theorem bufferOn_record (t : Time) (s : State) : (bufferOn t s).record = s.record := rfl
@[simp] theorem bufferOn_bench (t : Time) (s : State) : (bufferOn t s).bench = s.bench := rfl
@[simp] theorem bufferOn_params (t : Time) (s : State) : (bufferOn t s).params = s.params := rfl
@[simp] theorem bufferOn_bus (t : Time) (s : State) : (bufferOn t s).bus = s.bus := rfl
@[simp] theorem bufferOn_mem (t : Time) (s : State) : (bufferOn t s).mem = s.mem := rfl
@[simp] theorem bufferOn_trust (t : Time) (s : State) : (bufferOn t s).trust = s.trust := rfl
@[simp] theorem bufferOn_tally (t : Time) (s : State) : (bufferOn t s).tally = s.tally := rfl
@[simp] theorem bufferOn_tel (t : Time) (s : State) : (bufferOn t s).tel = s.tel := rfl
@[simp] theorem bufferOn_boot (t : Time) (s : State) : (bufferOn t s).boot = s.boot := rfl
@[simp] theorem bufferOn_pending (t : Time) (s : State) : (bufferOn t s).pending = s.pending := rfl
@[simp] theorem bufferOn_freeIdx (t : Time) (s : State) : (bufferOn t s).freeIdx = s.freeIdx := rfl

@[simp] theorem pd5Check_part (s : State) : (pd5Check s).part = s.part := by
  simp only [pd5Check]; repeat' split
  all_goals (first | rfl | simp)
@[simp] theorem pd5Check_dieRevision (s : State) : (pd5Check s).dieRevision = s.dieRevision := by
  simp only [pd5Check]; repeat' split
  all_goals (first | rfl | simp)
@[simp] theorem pd5Check_time (s : State) : (pd5Check s).time = s.time := by
  simp only [pd5Check]; repeat' split
  all_goals (first | rfl | simp)
@[simp] theorem pd5Check_front (s : State) : (pd5Check s).front = s.front := by
  simp only [pd5Check]; repeat' split
  all_goals (first | rfl | simp)
@[simp] theorem pd5Check_scan (s : State) : (pd5Check s).scan = s.scan := by
  simp only [pd5Check]; repeat' split
  all_goals (first | rfl | simp)
@[simp] theorem pd5Check_plane (s : State) : (pd5Check s).plane = s.plane := by
  simp only [pd5Check]; repeat' split
  all_goals (first | rfl | simp)
@[simp] theorem pd5Check_base (s : State) : (pd5Check s).base = s.base := by
  simp only [pd5Check]; repeat' split
  all_goals (first | rfl | simp)
@[simp] theorem pd5Check_trk (s : State) : (pd5Check s).trk = s.trk := by
  simp only [pd5Check]; repeat' split
  all_goals (first | rfl | simp)
@[simp] theorem pd5Check_pwr (s : State) : (pd5Check s).pwr = s.pwr := by
  simp only [pd5Check]; repeat' split
  all_goals (first | rfl | simp)
@[simp] theorem pd5Check_casc (s : State) : (pd5Check s).casc = s.casc := by
  simp only [pd5Check]; repeat' split
  all_goals (first | rfl | simp)
@[simp] theorem pd5Check_link (s : State) : (pd5Check s).link = s.link := by
  simp only [pd5Check]; repeat' split
  all_goals (first | rfl | simp)
@[simp] theorem pd5Check_attn (s : State) : (pd5Check s).attn = s.attn := by
  simp only [pd5Check]; repeat' split
  all_goals (first | rfl | simp)
@[simp] theorem pd5Check_cmd (s : State) : (pd5Check s).cmd = s.cmd := by
  simp only [pd5Check]; repeat' split
  all_goals (first | rfl | simp)
@[simp] theorem pd5Check_report (s : State) : (pd5Check s).report = s.report := by
  simp only [pd5Check]; repeat' split
  all_goals (first | rfl | simp)
@[simp] theorem pd5Check_image (s : State) : (pd5Check s).image = s.image := by
  simp only [pd5Check]; repeat' split
  all_goals (first | rfl | simp)
@[simp] theorem pd5Check_record (s : State) : (pd5Check s).record = s.record := by
  simp only [pd5Check]; repeat' split
  all_goals (first | rfl | simp)
@[simp] theorem pd5Check_bench (s : State) : (pd5Check s).bench = s.bench := by
  simp only [pd5Check]; repeat' split
  all_goals (first | rfl | simp)
@[simp] theorem pd5Check_params (s : State) : (pd5Check s).params = s.params := by
  simp only [pd5Check]; repeat' split
  all_goals (first | rfl | simp)
@[simp] theorem pd5Check_bus (s : State) : (pd5Check s).bus = s.bus := by
  simp only [pd5Check]; repeat' split
  all_goals (first | rfl | simp)
@[simp] theorem pd5Check_mem (s : State) : (pd5Check s).mem = s.mem := by
  simp only [pd5Check]; repeat' split
  all_goals (first | rfl | simp)
@[simp] theorem pd5Check_trust (s : State) : (pd5Check s).trust = s.trust := by
  simp only [pd5Check]; repeat' split
  all_goals (first | rfl | simp)
@[simp] theorem pd5Check_tally (s : State) : (pd5Check s).tally = s.tally := by
  simp only [pd5Check]; repeat' split
  all_goals (first | rfl | simp)
@[simp] theorem pd5Check_tel (s : State) : (pd5Check s).tel = s.tel := by
  simp only [pd5Check]; repeat' split
  all_goals (first | rfl | simp)
@[simp] theorem pd5Check_boot (s : State) : (pd5Check s).boot = s.boot := by
  simp only [pd5Check]; repeat' split
  all_goals (first | rfl | simp)
@[simp] theorem pd5Check_pending (s : State) : (pd5Check s).pending = s.pending := by
  simp only [pd5Check]; repeat' split
  all_goals (first | rfl | simp)
@[simp] theorem pd5Check_freeIdx (s : State) : (pd5Check s).freeIdx = s.freeIdx := by
  simp only [pd5Check]; repeat' split
  all_goals (first | rfl | simp)

@[simp] theorem askEntry_part (a b : Nat) (c : Option Nat) (s : State) : (askEntry a b c s).part = s.part := by
  simp only [askEntry]; repeat' split
  all_goals (first | rfl | simp)
@[simp] theorem askEntry_dieRevision (a b : Nat) (c : Option Nat) (s : State) : (askEntry a b c s).dieRevision = s.dieRevision := by
  simp only [askEntry]; repeat' split
  all_goals (first | rfl | simp)
@[simp] theorem askEntry_time (a b : Nat) (c : Option Nat) (s : State) : (askEntry a b c s).time = s.time := by
  simp only [askEntry]; repeat' split
  all_goals (first | rfl | simp)
@[simp] theorem askEntry_front (a b : Nat) (c : Option Nat) (s : State) : (askEntry a b c s).front = s.front := by
  simp only [askEntry]; repeat' split
  all_goals (first | rfl | simp)
@[simp] theorem askEntry_base (a b : Nat) (c : Option Nat) (s : State) : (askEntry a b c s).base = s.base := by
  simp only [askEntry]; repeat' split
  all_goals (first | rfl | simp)
@[simp] theorem askEntry_trk (a b : Nat) (c : Option Nat) (s : State) : (askEntry a b c s).trk = s.trk := by
  simp only [askEntry]; repeat' split
  all_goals (first | rfl | simp)
@[simp] theorem askEntry_casc (a b : Nat) (c : Option Nat) (s : State) : (askEntry a b c s).casc = s.casc := by
  simp only [askEntry]; repeat' split
  all_goals (first | rfl | simp)
@[simp] theorem askEntry_link (a b : Nat) (c : Option Nat) (s : State) : (askEntry a b c s).link = s.link := by
  simp only [askEntry]; repeat' split
  all_goals (first | rfl | simp)
@[simp] theorem askEntry_attn (a b : Nat) (c : Option Nat) (s : State) : (askEntry a b c s).attn = s.attn := by
  simp only [askEntry]; repeat' split
  all_goals (first | rfl | simp)
@[simp] theorem askEntry_cmd (a b : Nat) (c : Option Nat) (s : State) : (askEntry a b c s).cmd = s.cmd := by
  simp only [askEntry]; repeat' split
  all_goals (first | rfl | simp)
@[simp] theorem askEntry_report (a b : Nat) (c : Option Nat) (s : State) : (askEntry a b c s).report = s.report := by
  simp only [askEntry]; repeat' split
  all_goals (first | rfl | simp)
@[simp] theorem askEntry_image (a b : Nat) (c : Option Nat) (s : State) : (askEntry a b c s).image = s.image := by
  simp only [askEntry]; repeat' split
  all_goals (first | rfl | simp)
@[simp] theorem askEntry_record (a b : Nat) (c : Option Nat) (s : State) : (askEntry a b c s).record = s.record := by
  simp only [askEntry]; repeat' split
  all_goals (first | rfl | simp)
@[simp] theorem askEntry_bench (a b : Nat) (c : Option Nat) (s : State) : (askEntry a b c s).bench = s.bench := by
  simp only [askEntry]; repeat' split
  all_goals (first | rfl | simp)
@[simp] theorem askEntry_params (a b : Nat) (c : Option Nat) (s : State) : (askEntry a b c s).params = s.params := by
  simp only [askEntry]; repeat' split
  all_goals (first | rfl | simp)
@[simp] theorem askEntry_bus (a b : Nat) (c : Option Nat) (s : State) : (askEntry a b c s).bus = s.bus := by
  simp only [askEntry]; repeat' split
  all_goals (first | rfl | simp)
@[simp] theorem askEntry_mem (a b : Nat) (c : Option Nat) (s : State) : (askEntry a b c s).mem = s.mem := by
  simp only [askEntry]; repeat' split
  all_goals (first | rfl | simp)
@[simp] theorem askEntry_trust (a b : Nat) (c : Option Nat) (s : State) : (askEntry a b c s).trust = s.trust := by
  simp only [askEntry]; repeat' split
  all_goals (first | rfl | simp)
@[simp] theorem askEntry_tally (a b : Nat) (c : Option Nat) (s : State) : (askEntry a b c s).tally = s.tally := by
  simp only [askEntry]; repeat' split
  all_goals (first | rfl | simp)
@[simp] theorem askEntry_tel (a b : Nat) (c : Option Nat) (s : State) : (askEntry a b c s).tel = s.tel := by
  simp only [askEntry]; repeat' split
  all_goals (first | rfl | simp)
@[simp] theorem askEntry_boot (a b : Nat) (c : Option Nat) (s : State) : (askEntry a b c s).boot = s.boot := by
  simp only [askEntry]; repeat' split
  all_goals (first | rfl | simp)
@[simp] theorem askEntry_pending (a b : Nat) (c : Option Nat) (s : State) : (askEntry a b c s).pending = s.pending := by
  simp only [askEntry]; repeat' split
  all_goals (first | rfl | simp)
@[simp] theorem askEntry_freeIdx (a b : Nat) (c : Option Nat) (s : State) : (askEntry a b c s).freeIdx = s.freeIdx := by
  simp only [askEntry]; repeat' split
  all_goals (first | rfl | simp)

@[simp] theorem askDoze_part (a : Nat) (s : State) : (askDoze a s).part = s.part := by
  simp only [askDoze]; repeat' split
  all_goals (first | rfl | simp)
@[simp] theorem askDoze_dieRevision (a : Nat) (s : State) : (askDoze a s).dieRevision = s.dieRevision := by
  simp only [askDoze]; repeat' split
  all_goals (first | rfl | simp)
@[simp] theorem askDoze_time (a : Nat) (s : State) : (askDoze a s).time = s.time := by
  simp only [askDoze]; repeat' split
  all_goals (first | rfl | simp)
@[simp] theorem askDoze_front (a : Nat) (s : State) : (askDoze a s).front = s.front := by
  simp only [askDoze]; repeat' split
  all_goals (first | rfl | simp)
@[simp] theorem askDoze_scan (a : Nat) (s : State) : (askDoze a s).scan = s.scan := by
  simp only [askDoze]; repeat' split
  all_goals (first | rfl | simp)
@[simp] theorem askDoze_plane (a : Nat) (s : State) : (askDoze a s).plane = s.plane := by
  simp only [askDoze]; repeat' split
  all_goals (first | rfl | simp)
@[simp] theorem askDoze_base (a : Nat) (s : State) : (askDoze a s).base = s.base := by
  simp only [askDoze]; repeat' split
  all_goals (first | rfl | simp)
@[simp] theorem askDoze_trk (a : Nat) (s : State) : (askDoze a s).trk = s.trk := by
  simp only [askDoze]; repeat' split
  all_goals (first | rfl | simp)
@[simp] theorem askDoze_casc (a : Nat) (s : State) : (askDoze a s).casc = s.casc := by
  simp only [askDoze]; repeat' split
  all_goals (first | rfl | simp)
@[simp] theorem askDoze_lvl (a : Nat) (s : State) : (askDoze a s).lvl = s.lvl := by
  simp only [askDoze]; repeat' split
  all_goals (first | rfl | simp)
@[simp] theorem askDoze_link (a : Nat) (s : State) : (askDoze a s).link = s.link := by
  simp only [askDoze]; repeat' split
  all_goals (first | rfl | simp)
@[simp] theorem askDoze_attn (a : Nat) (s : State) : (askDoze a s).attn = s.attn := by
  simp only [askDoze]; repeat' split
  all_goals (first | rfl | simp)
@[simp] theorem askDoze_cmd (a : Nat) (s : State) : (askDoze a s).cmd = s.cmd := by
  simp only [askDoze]; repeat' split
  all_goals (first | rfl | simp)
@[simp] theorem askDoze_report (a : Nat) (s : State) : (askDoze a s).report = s.report := by
  simp only [askDoze]; repeat' split
  all_goals (first | rfl | simp)
@[simp] theorem askDoze_image (a : Nat) (s : State) : (askDoze a s).image = s.image := by
  simp only [askDoze]; repeat' split
  all_goals (first | rfl | simp)
@[simp] theorem askDoze_record (a : Nat) (s : State) : (askDoze a s).record = s.record := by
  simp only [askDoze]; repeat' split
  all_goals (first | rfl | simp)
@[simp] theorem askDoze_bench (a : Nat) (s : State) : (askDoze a s).bench = s.bench := by
  simp only [askDoze]; repeat' split
  all_goals (first | rfl | simp)
@[simp] theorem askDoze_params (a : Nat) (s : State) : (askDoze a s).params = s.params := by
  simp only [askDoze]; repeat' split
  all_goals (first | rfl | simp)
@[simp] theorem askDoze_bus (a : Nat) (s : State) : (askDoze a s).bus = s.bus := by
  simp only [askDoze]; repeat' split
  all_goals (first | rfl | simp)
@[simp] theorem askDoze_mem (a : Nat) (s : State) : (askDoze a s).mem = s.mem := by
  simp only [askDoze]; repeat' split
  all_goals (first | rfl | simp)
@[simp] theorem askDoze_trust (a : Nat) (s : State) : (askDoze a s).trust = s.trust := by
  simp only [askDoze]; repeat' split
  all_goals (first | rfl | simp)
@[simp] theorem askDoze_tally (a : Nat) (s : State) : (askDoze a s).tally = s.tally := by
  simp only [askDoze]; repeat' split
  all_goals (first | rfl | simp)
@[simp] theorem askDoze_tel (a : Nat) (s : State) : (askDoze a s).tel = s.tel := by
  simp only [askDoze]; repeat' split
  all_goals (first | rfl | simp)
@[simp] theorem askDoze_boot (a : Nat) (s : State) : (askDoze a s).boot = s.boot := by
  simp only [askDoze]; repeat' split
  all_goals (first | rfl | simp)
@[simp] theorem askDoze_pending (a : Nat) (s : State) : (askDoze a s).pending = s.pending := by
  simp only [askDoze]; repeat' split
  all_goals (first | rfl | simp)
@[simp] theorem askDoze_freeIdx (a : Nat) (s : State) : (askDoze a s).freeIdx = s.freeIdx := by
  simp only [askDoze]; repeat' split
  all_goals (first | rfl | simp)

@[simp] theorem askWatch_part (a : Nat) (s : State) : (askWatch a s).part = s.part := by
  simp only [askWatch]; repeat' split
  all_goals (first | rfl | simp)
@[simp] theorem askWatch_dieRevision (a : Nat) (s : State) : (askWatch a s).dieRevision = s.dieRevision := by
  simp only [askWatch]; repeat' split
  all_goals (first | rfl | simp)
@[simp] theorem askWatch_time (a : Nat) (s : State) : (askWatch a s).time = s.time := by
  simp only [askWatch]; repeat' split
  all_goals (first | rfl | simp)
@[simp] theorem askWatch_front (a : Nat) (s : State) : (askWatch a s).front = s.front := by
  simp only [askWatch]; repeat' split
  all_goals (first | rfl | simp)
@[simp] theorem askWatch_base (a : Nat) (s : State) : (askWatch a s).base = s.base := by
  simp only [askWatch]; repeat' split
  all_goals (first | rfl | simp)
@[simp] theorem askWatch_trk (a : Nat) (s : State) : (askWatch a s).trk = s.trk := by
  simp only [askWatch]; repeat' split
  all_goals (first | rfl | simp)
@[simp] theorem askWatch_casc (a : Nat) (s : State) : (askWatch a s).casc = s.casc := by
  simp only [askWatch]; repeat' split
  all_goals (first | rfl | simp)
@[simp] theorem askWatch_link (a : Nat) (s : State) : (askWatch a s).link = s.link := by
  simp only [askWatch]; repeat' split
  all_goals (first | rfl | simp)
@[simp] theorem askWatch_attn (a : Nat) (s : State) : (askWatch a s).attn = s.attn := by
  simp only [askWatch]; repeat' split
  all_goals (first | rfl | simp)
@[simp] theorem askWatch_cmd (a : Nat) (s : State) : (askWatch a s).cmd = s.cmd := by
  simp only [askWatch]; repeat' split
  all_goals (first | rfl | simp)
@[simp] theorem askWatch_report (a : Nat) (s : State) : (askWatch a s).report = s.report := by
  simp only [askWatch]; repeat' split
  all_goals (first | rfl | simp)
@[simp] theorem askWatch_image (a : Nat) (s : State) : (askWatch a s).image = s.image := by
  simp only [askWatch]; repeat' split
  all_goals (first | rfl | simp)
@[simp] theorem askWatch_record (a : Nat) (s : State) : (askWatch a s).record = s.record := by
  simp only [askWatch]; repeat' split
  all_goals (first | rfl | simp)
@[simp] theorem askWatch_bench (a : Nat) (s : State) : (askWatch a s).bench = s.bench := by
  simp only [askWatch]; repeat' split
  all_goals (first | rfl | simp)
@[simp] theorem askWatch_params (a : Nat) (s : State) : (askWatch a s).params = s.params := by
  simp only [askWatch]; repeat' split
  all_goals (first | rfl | simp)
@[simp] theorem askWatch_bus (a : Nat) (s : State) : (askWatch a s).bus = s.bus := by
  simp only [askWatch]; repeat' split
  all_goals (first | rfl | simp)
@[simp] theorem askWatch_mem (a : Nat) (s : State) : (askWatch a s).mem = s.mem := by
  simp only [askWatch]; repeat' split
  all_goals (first | rfl | simp)
@[simp] theorem askWatch_trust (a : Nat) (s : State) : (askWatch a s).trust = s.trust := by
  simp only [askWatch]; repeat' split
  all_goals (first | rfl | simp)
@[simp] theorem askWatch_tally (a : Nat) (s : State) : (askWatch a s).tally = s.tally := by
  simp only [askWatch]; repeat' split
  all_goals (first | rfl | simp)
@[simp] theorem askWatch_tel (a : Nat) (s : State) : (askWatch a s).tel = s.tel := by
  simp only [askWatch]; repeat' split
  all_goals (first | rfl | simp)
@[simp] theorem askWatch_boot (a : Nat) (s : State) : (askWatch a s).boot = s.boot := by
  simp only [askWatch]; repeat' split
  all_goals (first | rfl | simp)
@[simp] theorem askWatch_pending (a : Nat) (s : State) : (askWatch a s).pending = s.pending := by
  simp only [askWatch]; repeat' split
  all_goals (first | rfl | simp)
@[simp] theorem askWatch_freeIdx (a : Nat) (s : State) : (askWatch a s).freeIdx = s.freeIdx := by
  simp only [askWatch]; repeat' split
  all_goals (first | rfl | simp)

@[simp] theorem requestSleep_part (s : State) : (requestSleep s).part = s.part := by
  simp only [requestSleep]; repeat' split
  all_goals (first | rfl | simp)
@[simp] theorem requestSleep_dieRevision (s : State) : (requestSleep s).dieRevision = s.dieRevision := by
  simp only [requestSleep]; repeat' split
  all_goals (first | rfl | simp)
@[simp] theorem requestSleep_time (s : State) : (requestSleep s).time = s.time := by
  simp only [requestSleep]; repeat' split
  all_goals (first | rfl | simp)
@[simp] theorem requestSleep_front (s : State) : (requestSleep s).front = s.front := by
  simp only [requestSleep]; repeat' split
  all_goals (first | rfl | simp)
@[simp] theorem requestSleep_base (s : State) : (requestSleep s).base = s.base := by
  simp only [requestSleep]; repeat' split
  all_goals (first | rfl | simp)
@[simp] theorem requestSleep_trk (s : State) : (requestSleep s).trk = s.trk := by
  simp only [requestSleep]; repeat' split
  all_goals (first | rfl | simp)
@[simp] theorem requestSleep_casc (s : State) : (requestSleep s).casc = s.casc := by
  simp only [requestSleep]; repeat' split
  all_goals (first | rfl | simp)
@[simp] theorem requestSleep_link (s : State) : (requestSleep s).link = s.link := by
  simp only [requestSleep]; repeat' split
  all_goals (first | rfl | simp)
@[simp] theorem requestSleep_attn (s : State) : (requestSleep s).attn = s.attn := by
  simp only [requestSleep]; repeat' split
  all_goals (first | rfl | simp)
@[simp] theorem requestSleep_cmd (s : State) : (requestSleep s).cmd = s.cmd := by
  simp only [requestSleep]; repeat' split
  all_goals (first | rfl | simp)
@[simp] theorem requestSleep_report (s : State) : (requestSleep s).report = s.report := by
  simp only [requestSleep]; repeat' split
  all_goals (first | rfl | simp)
@[simp] theorem requestSleep_image (s : State) : (requestSleep s).image = s.image := by
  simp only [requestSleep]; repeat' split
  all_goals (first | rfl | simp)
@[simp] theorem requestSleep_record (s : State) : (requestSleep s).record = s.record := by
  simp only [requestSleep]; repeat' split
  all_goals (first | rfl | simp)
@[simp] theorem requestSleep_bench (s : State) : (requestSleep s).bench = s.bench := by
  simp only [requestSleep]; repeat' split
  all_goals (first | rfl | simp)
@[simp] theorem requestSleep_params (s : State) : (requestSleep s).params = s.params := by
  simp only [requestSleep]; repeat' split
  all_goals (first | rfl | simp)
@[simp] theorem requestSleep_bus (s : State) : (requestSleep s).bus = s.bus := by
  simp only [requestSleep]; repeat' split
  all_goals (first | rfl | simp)
@[simp] theorem requestSleep_mem (s : State) : (requestSleep s).mem = s.mem := by
  simp only [requestSleep]; repeat' split
  all_goals (first | rfl | simp)
@[simp] theorem requestSleep_trust (s : State) : (requestSleep s).trust = s.trust := by
  simp only [requestSleep]; repeat' split
  all_goals (first | rfl | simp)
@[simp] theorem requestSleep_tally (s : State) : (requestSleep s).tally = s.tally := by
  simp only [requestSleep]; repeat' split
  all_goals (first | rfl | simp)
@[simp] theorem requestSleep_tel (s : State) : (requestSleep s).tel = s.tel := by
  simp only [requestSleep]; repeat' split
  all_goals (first | rfl | simp)
@[simp] theorem requestSleep_boot (s : State) : (requestSleep s).boot = s.boot := by
  simp only [requestSleep]; repeat' split
  all_goals (first | rfl | simp)
@[simp] theorem requestSleep_pending (s : State) : (requestSleep s).pending = s.pending := by
  simp only [requestSleep]; repeat' split
  all_goals (first | rfl | simp)
@[simp] theorem requestSleep_freeIdx (s : State) : (requestSleep s).freeIdx = s.freeIdx := by
  simp only [requestSleep]; repeat' split
  all_goals (first | rfl | simp)

@[simp] theorem wakeAsk_part (a b : Nat) (s : State) : (wakeAsk a b s).part = s.part := by
  simp only [wakeAsk]; repeat' split
  all_goals (first | rfl | simp)
@[simp] theorem wakeAsk_dieRevision (a b : Nat) (s : State) : (wakeAsk a b s).dieRevision = s.dieRevision := by
  simp only [wakeAsk]; repeat' split
  all_goals (first | rfl | simp)
@[simp] theorem wakeAsk_time (a b : Nat) (s : State) : (wakeAsk a b s).time = s.time := by
  simp only [wakeAsk]; repeat' split
  all_goals (first | rfl | simp)
@[simp] theorem wakeAsk_front (a b : Nat) (s : State) : (wakeAsk a b s).front = s.front := by
  simp only [wakeAsk]; repeat' split
  all_goals (first | rfl | simp)
@[simp] theorem wakeAsk_scan (a b : Nat) (s : State) : (wakeAsk a b s).scan = s.scan := by
  simp only [wakeAsk]; repeat' split
  all_goals (first | rfl | simp)
@[simp] theorem wakeAsk_plane (a b : Nat) (s : State) : (wakeAsk a b s).plane = s.plane := by
  simp only [wakeAsk]; repeat' split
  all_goals (first | rfl | simp)
@[simp] theorem wakeAsk_base (a b : Nat) (s : State) : (wakeAsk a b s).base = s.base := by
  simp only [wakeAsk]; repeat' split
  all_goals (first | rfl | simp)
@[simp] theorem wakeAsk_trk (a b : Nat) (s : State) : (wakeAsk a b s).trk = s.trk := by
  simp only [wakeAsk]; repeat' split
  all_goals (first | rfl | simp)
@[simp] theorem wakeAsk_pwr (a b : Nat) (s : State) : (wakeAsk a b s).pwr = s.pwr := by
  simp only [wakeAsk]; repeat' split
  all_goals (first | rfl | simp)
@[simp] theorem wakeAsk_casc (a b : Nat) (s : State) : (wakeAsk a b s).casc = s.casc := by
  simp only [wakeAsk]; repeat' split
  all_goals (first | rfl | simp)
@[simp] theorem wakeAsk_lvl (a b : Nat) (s : State) : (wakeAsk a b s).lvl = s.lvl := by
  simp only [wakeAsk]; repeat' split
  all_goals (first | rfl | simp)
@[simp] theorem wakeAsk_link (a b : Nat) (s : State) : (wakeAsk a b s).link = s.link := by
  simp only [wakeAsk]; repeat' split
  all_goals (first | rfl | simp)
@[simp] theorem wakeAsk_cmd (a b : Nat) (s : State) : (wakeAsk a b s).cmd = s.cmd := by
  simp only [wakeAsk]; repeat' split
  all_goals (first | rfl | simp)
@[simp] theorem wakeAsk_report (a b : Nat) (s : State) : (wakeAsk a b s).report = s.report := by
  simp only [wakeAsk]; repeat' split
  all_goals (first | rfl | simp)
@[simp] theorem wakeAsk_image (a b : Nat) (s : State) : (wakeAsk a b s).image = s.image := by
  simp only [wakeAsk]; repeat' split
  all_goals (first | rfl | simp)
@[simp] theorem wakeAsk_record (a b : Nat) (s : State) : (wakeAsk a b s).record = s.record := by
  simp only [wakeAsk]; repeat' split
  all_goals (first | rfl | simp)
@[simp] theorem wakeAsk_bench (a b : Nat) (s : State) : (wakeAsk a b s).bench = s.bench := by
  simp only [wakeAsk]; repeat' split
  all_goals (first | rfl | simp)
@[simp] theorem wakeAsk_params (a b : Nat) (s : State) : (wakeAsk a b s).params = s.params := by
  simp only [wakeAsk]; repeat' split
  all_goals (first | rfl | simp)
@[simp] theorem wakeAsk_bus (a b : Nat) (s : State) : (wakeAsk a b s).bus = s.bus := by
  simp only [wakeAsk]; repeat' split
  all_goals (first | rfl | simp)
@[simp] theorem wakeAsk_mem (a b : Nat) (s : State) : (wakeAsk a b s).mem = s.mem := by
  simp only [wakeAsk]; repeat' split
  all_goals (first | rfl | simp)
@[simp] theorem wakeAsk_trust (a b : Nat) (s : State) : (wakeAsk a b s).trust = s.trust := by
  simp only [wakeAsk]; repeat' split
  all_goals (first | rfl | simp)
@[simp] theorem wakeAsk_tally (a b : Nat) (s : State) : (wakeAsk a b s).tally = s.tally := by
  simp only [wakeAsk]; repeat' split
  all_goals (first | rfl | simp)
@[simp] theorem wakeAsk_tel (a b : Nat) (s : State) : (wakeAsk a b s).tel = s.tel := by
  simp only [wakeAsk]; repeat' split
  all_goals (first | rfl | simp)
@[simp] theorem wakeAsk_boot (a b : Nat) (s : State) : (wakeAsk a b s).boot = s.boot := by
  simp only [wakeAsk]; repeat' split
  all_goals (first | rfl | simp)
@[simp] theorem wakeAsk_pending (a b : Nat) (s : State) : (wakeAsk a b s).pending = s.pending := by
  simp only [wakeAsk]; repeat' split
  all_goals (first | rfl | simp)
@[simp] theorem wakeAsk_freeIdx (a b : Nat) (s : State) : (wakeAsk a b s).freeIdx = s.freeIdx := by
  simp only [wakeAsk]; repeat' split
  all_goals (first | rfl | simp)

@[simp] theorem fallAsleep_part (s : State) : (fallAsleep s).part = s.part := by
  simp only [fallAsleep]; repeat' split
  all_goals (first | rfl | simp)
@[simp] theorem fallAsleep_dieRevision (s : State) : (fallAsleep s).dieRevision = s.dieRevision := by
  simp only [fallAsleep]; repeat' split
  all_goals (first | rfl | simp)
@[simp] theorem fallAsleep_time (s : State) : (fallAsleep s).time = s.time := by
  simp only [fallAsleep]; repeat' split
  all_goals (first | rfl | simp)
@[simp] theorem fallAsleep_front (s : State) : (fallAsleep s).front = s.front := by
  simp only [fallAsleep]; repeat' split
  all_goals (first | rfl | simp)
@[simp] theorem fallAsleep_base (s : State) : (fallAsleep s).base = s.base := by
  simp only [fallAsleep]; repeat' split
  all_goals (first | rfl | simp)
@[simp] theorem fallAsleep_trk (s : State) : (fallAsleep s).trk = s.trk := by
  simp only [fallAsleep]; repeat' split
  all_goals (first | rfl | simp)
@[simp] theorem fallAsleep_casc (s : State) : (fallAsleep s).casc = s.casc := by
  simp only [fallAsleep]; repeat' split
  all_goals (first | rfl | simp)
@[simp] theorem fallAsleep_link (s : State) : (fallAsleep s).link = s.link := by
  simp only [fallAsleep]; repeat' split
  all_goals (first | rfl | simp)
@[simp] theorem fallAsleep_cmd (s : State) : (fallAsleep s).cmd = s.cmd := by
  simp only [fallAsleep]; repeat' split
  all_goals (first | rfl | simp)
@[simp] theorem fallAsleep_report (s : State) : (fallAsleep s).report = s.report := by
  simp only [fallAsleep]; repeat' split
  all_goals (first | rfl | simp)
@[simp] theorem fallAsleep_image (s : State) : (fallAsleep s).image = s.image := by
  simp only [fallAsleep]; repeat' split
  all_goals (first | rfl | simp)
@[simp] theorem fallAsleep_record (s : State) : (fallAsleep s).record = s.record := by
  simp only [fallAsleep]; repeat' split
  all_goals (first | rfl | simp)
@[simp] theorem fallAsleep_bench (s : State) : (fallAsleep s).bench = s.bench := by
  simp only [fallAsleep]; repeat' split
  all_goals (first | rfl | simp)
@[simp] theorem fallAsleep_params (s : State) : (fallAsleep s).params = s.params := by
  simp only [fallAsleep]; repeat' split
  all_goals (first | rfl | simp)
@[simp] theorem fallAsleep_bus (s : State) : (fallAsleep s).bus = s.bus := by
  simp only [fallAsleep]; repeat' split
  all_goals (first | rfl | simp)
@[simp] theorem fallAsleep_mem (s : State) : (fallAsleep s).mem = s.mem := by
  simp only [fallAsleep]; repeat' split
  all_goals (first | rfl | simp)
@[simp] theorem fallAsleep_trust (s : State) : (fallAsleep s).trust = s.trust := by
  simp only [fallAsleep]; repeat' split
  all_goals (first | rfl | simp)
@[simp] theorem fallAsleep_tally (s : State) : (fallAsleep s).tally = s.tally := by
  simp only [fallAsleep]; repeat' split
  all_goals (first | rfl | simp)
@[simp] theorem fallAsleep_tel (s : State) : (fallAsleep s).tel = s.tel := by
  simp only [fallAsleep]; repeat' split
  all_goals (first | rfl | simp)
@[simp] theorem fallAsleep_boot (s : State) : (fallAsleep s).boot = s.boot := by
  simp only [fallAsleep]; repeat' split
  all_goals (first | rfl | simp)
@[simp] theorem fallAsleep_pending (s : State) : (fallAsleep s).pending = s.pending := by
  simp only [fallAsleep]; repeat' split
  all_goals (first | rfl | simp)
@[simp] theorem fallAsleep_freeIdx (s : State) : (fallAsleep s).freeIdx = s.freeIdx := by
  simp only [fallAsleep]; repeat' split
  all_goals (first | rfl | simp)

/-! Replies (12 R358 to R364). -/

@[simp] theorem dropOutstanding_part (r : Reply) (s : State) : (dropOutstanding r s).part = s.part := by
  simp only [dropOutstanding]; repeat' split
  all_goals (first | rfl | simp)
@[simp] theorem dropOutstanding_dieRevision (r : Reply) (s : State) : (dropOutstanding r s).dieRevision = s.dieRevision := by
  simp only [dropOutstanding]; repeat' split
  all_goals (first | rfl | simp)
@[simp] theorem dropOutstanding_time (r : Reply) (s : State) : (dropOutstanding r s).time = s.time := by
  simp only [dropOutstanding]; repeat' split
  all_goals (first | rfl | simp)
@[simp] theorem dropOutstanding_front (r : Reply) (s : State) : (dropOutstanding r s).front = s.front := by
  simp only [dropOutstanding]; repeat' split
  all_goals (first | rfl | simp)
@[simp] theorem dropOutstanding_scan (r : Reply) (s : State) : (dropOutstanding r s).scan = s.scan := by
  simp only [dropOutstanding]; repeat' split
  all_goals (first | rfl | simp)
@[simp] theorem dropOutstanding_plane (r : Reply) (s : State) : (dropOutstanding r s).plane = s.plane := by
  simp only [dropOutstanding]; repeat' split
  all_goals (first | rfl | simp)
@[simp] theorem dropOutstanding_base (r : Reply) (s : State) : (dropOutstanding r s).base = s.base := by
  simp only [dropOutstanding]; repeat' split
  all_goals (first | rfl | simp)
@[simp] theorem dropOutstanding_trk (r : Reply) (s : State) : (dropOutstanding r s).trk = s.trk := by
  simp only [dropOutstanding]; repeat' split
  all_goals (first | rfl | simp)
@[simp] theorem dropOutstanding_pwr (r : Reply) (s : State) : (dropOutstanding r s).pwr = s.pwr := by
  simp only [dropOutstanding]; repeat' split
  all_goals (first | rfl | simp)
@[simp] theorem dropOutstanding_casc (r : Reply) (s : State) : (dropOutstanding r s).casc = s.casc := by
  simp only [dropOutstanding]; repeat' split
  all_goals (first | rfl | simp)
@[simp] theorem dropOutstanding_lvl (r : Reply) (s : State) : (dropOutstanding r s).lvl = s.lvl := by
  simp only [dropOutstanding]; repeat' split
  all_goals (first | rfl | simp)
@[simp] theorem dropOutstanding_link (r : Reply) (s : State) : (dropOutstanding r s).link = s.link := by
  simp only [dropOutstanding]; repeat' split
  all_goals (first | rfl | simp)
@[simp] theorem dropOutstanding_attn (r : Reply) (s : State) : (dropOutstanding r s).attn = s.attn := by
  simp only [dropOutstanding]; repeat' split
  all_goals (first | rfl | simp)
@[simp] theorem dropOutstanding_cmd (r : Reply) (s : State) : (dropOutstanding r s).cmd = s.cmd := by
  simp only [dropOutstanding]; repeat' split
  all_goals (first | rfl | simp)
@[simp] theorem dropOutstanding_report (r : Reply) (s : State) : (dropOutstanding r s).report = s.report := by
  simp only [dropOutstanding]; repeat' split
  all_goals (first | rfl | simp)
@[simp] theorem dropOutstanding_image (r : Reply) (s : State) : (dropOutstanding r s).image = s.image := by
  simp only [dropOutstanding]; repeat' split
  all_goals (first | rfl | simp)
@[simp] theorem dropOutstanding_record (r : Reply) (s : State) : (dropOutstanding r s).record = s.record := by
  simp only [dropOutstanding]; repeat' split
  all_goals (first | rfl | simp)
@[simp] theorem dropOutstanding_params (r : Reply) (s : State) : (dropOutstanding r s).params = s.params := by
  simp only [dropOutstanding]; repeat' split
  all_goals (first | rfl | simp)
@[simp] theorem dropOutstanding_bus (r : Reply) (s : State) : (dropOutstanding r s).bus = s.bus := by
  simp only [dropOutstanding]; repeat' split
  all_goals (first | rfl | simp)
@[simp] theorem dropOutstanding_mem (r : Reply) (s : State) : (dropOutstanding r s).mem = s.mem := by
  simp only [dropOutstanding]; repeat' split
  all_goals (first | rfl | simp)
@[simp] theorem dropOutstanding_trust (r : Reply) (s : State) : (dropOutstanding r s).trust = s.trust := by
  simp only [dropOutstanding]; repeat' split
  all_goals (first | rfl | simp)
@[simp] theorem dropOutstanding_tally (r : Reply) (s : State) : (dropOutstanding r s).tally = s.tally := by
  simp only [dropOutstanding]; repeat' split
  all_goals (first | rfl | simp)
@[simp] theorem dropOutstanding_tel (r : Reply) (s : State) : (dropOutstanding r s).tel = s.tel := by
  simp only [dropOutstanding]; repeat' split
  all_goals (first | rfl | simp)
@[simp] theorem dropOutstanding_boot (r : Reply) (s : State) : (dropOutstanding r s).boot = s.boot := by
  simp only [dropOutstanding]; repeat' split
  all_goals (first | rfl | simp)
@[simp] theorem dropOutstanding_pending (r : Reply) (s : State) : (dropOutstanding r s).pending = s.pending := by
  simp only [dropOutstanding]; repeat' split
  all_goals (first | rfl | simp)
@[simp] theorem dropOutstanding_freeIdx (r : Reply) (s : State) : (dropOutstanding r s).freeIdx = s.freeIdx := by
  simp only [dropOutstanding]; repeat' split
  all_goals (first | rfl | simp)

@[simp] theorem replyWritten_part (r : Reply) (s : State) : (replyWritten r s).part = s.part := by
  simp only [replyWritten]; repeat' split
  all_goals (first | rfl | simp)
@[simp] theorem replyWritten_dieRevision (r : Reply) (s : State) : (replyWritten r s).dieRevision = s.dieRevision := by
  simp only [replyWritten]; repeat' split
  all_goals (first | rfl | simp)
@[simp] theorem replyWritten_time (r : Reply) (s : State) : (replyWritten r s).time = s.time := by
  simp only [replyWritten]; repeat' split
  all_goals (first | rfl | simp)
@[simp] theorem replyWritten_front (r : Reply) (s : State) : (replyWritten r s).front = s.front := by
  simp only [replyWritten]; repeat' split
  all_goals (first | rfl | simp)
@[simp] theorem replyWritten_base (r : Reply) (s : State) : (replyWritten r s).base = s.base := by
  simp only [replyWritten]; repeat' split
  all_goals (first | rfl | simp)
@[simp] theorem replyWritten_trk (r : Reply) (s : State) : (replyWritten r s).trk = s.trk := by
  simp only [replyWritten]; repeat' split
  all_goals (first | rfl | simp)
@[simp] theorem replyWritten_casc (r : Reply) (s : State) : (replyWritten r s).casc = s.casc := by
  simp only [replyWritten]; repeat' split
  all_goals (first | rfl | simp)
@[simp] theorem replyWritten_link (r : Reply) (s : State) : (replyWritten r s).link = s.link := by
  simp only [replyWritten]; repeat' split
  all_goals (first | rfl | simp)
@[simp] theorem replyWritten_cmd (r : Reply) (s : State) : (replyWritten r s).cmd = s.cmd := by
  simp only [replyWritten]; repeat' split
  all_goals (first | rfl | simp)
@[simp] theorem replyWritten_report (r : Reply) (s : State) : (replyWritten r s).report = s.report := by
  simp only [replyWritten]; repeat' split
  all_goals (first | rfl | simp)
@[simp] theorem replyWritten_image (r : Reply) (s : State) : (replyWritten r s).image = s.image := by
  simp only [replyWritten]; repeat' split
  all_goals (first | rfl | simp)
@[simp] theorem replyWritten_record (r : Reply) (s : State) : (replyWritten r s).record = s.record := by
  simp only [replyWritten]; repeat' split
  all_goals (first | rfl | simp)
@[simp] theorem replyWritten_params (r : Reply) (s : State) : (replyWritten r s).params = s.params := by
  simp only [replyWritten]; repeat' split
  all_goals (first | rfl | simp)
@[simp] theorem replyWritten_bus (r : Reply) (s : State) : (replyWritten r s).bus = s.bus := by
  simp only [replyWritten]; repeat' split
  all_goals (first | rfl | simp)
@[simp] theorem replyWritten_mem (r : Reply) (s : State) : (replyWritten r s).mem = s.mem := by
  simp only [replyWritten]; repeat' split
  all_goals (first | rfl | simp)
@[simp] theorem replyWritten_trust (r : Reply) (s : State) : (replyWritten r s).trust = s.trust := by
  simp only [replyWritten]; repeat' split
  all_goals (first | rfl | simp)
@[simp] theorem replyWritten_tally (r : Reply) (s : State) : (replyWritten r s).tally = s.tally := by
  simp only [replyWritten]; repeat' split
  all_goals (first | rfl | simp)
@[simp] theorem replyWritten_tel (r : Reply) (s : State) : (replyWritten r s).tel = s.tel := by
  simp only [replyWritten]; repeat' split
  all_goals (first | rfl | simp)
@[simp] theorem replyWritten_boot (r : Reply) (s : State) : (replyWritten r s).boot = s.boot := by
  simp only [replyWritten]; repeat' split
  all_goals (first | rfl | simp)
@[simp] theorem replyWritten_pending (r : Reply) (s : State) : (replyWritten r s).pending = s.pending := by
  simp only [replyWritten]; repeat' split
  all_goals (first | rfl | simp)
@[simp] theorem replyWritten_freeIdx (r : Reply) (s : State) : (replyWritten r s).freeIdx = s.freeIdx := by
  simp only [replyWritten]; repeat' split
  all_goals (first | rfl | simp)

@[simp] theorem writeReply_part (r : Reply) (s : State) : (writeReply r s).part = s.part := by simp [writeReply]
@[simp] theorem writeReply_dieRevision (r : Reply) (s : State) : (writeReply r s).dieRevision = s.dieRevision := by simp [writeReply]
@[simp] theorem writeReply_time (r : Reply) (s : State) : (writeReply r s).time = s.time := by simp [writeReply]
@[simp] theorem writeReply_front (r : Reply) (s : State) : (writeReply r s).front = s.front := by simp [writeReply]
@[simp] theorem writeReply_base (r : Reply) (s : State) : (writeReply r s).base = s.base := by simp [writeReply]
@[simp] theorem writeReply_casc (r : Reply) (s : State) : (writeReply r s).casc = s.casc := by simp [writeReply]
@[simp] theorem writeReply_link (r : Reply) (s : State) : (writeReply r s).link = s.link := by simp [writeReply]
@[simp] theorem writeReply_cmd (r : Reply) (s : State) : (writeReply r s).cmd = s.cmd := by simp [writeReply]
@[simp] theorem writeReply_image (r : Reply) (s : State) : (writeReply r s).image = s.image := by simp [writeReply]
@[simp] theorem writeReply_record (r : Reply) (s : State) : (writeReply r s).record = s.record := by simp [writeReply]
@[simp] theorem writeReply_params (r : Reply) (s : State) : (writeReply r s).params = s.params := by simp [writeReply]
@[simp] theorem writeReply_bus (r : Reply) (s : State) : (writeReply r s).bus = s.bus := by simp [writeReply]
@[simp] theorem writeReply_mem (r : Reply) (s : State) : (writeReply r s).mem = s.mem := by simp [writeReply]
@[simp] theorem writeReply_trust (r : Reply) (s : State) : (writeReply r s).trust = s.trust := by simp [writeReply]
@[simp] theorem writeReply_tally (r : Reply) (s : State) : (writeReply r s).tally = s.tally := by simp [writeReply]
@[simp] theorem writeReply_tel (r : Reply) (s : State) : (writeReply r s).tel = s.tel := by simp [writeReply]
@[simp] theorem writeReply_boot (r : Reply) (s : State) : (writeReply r s).boot = s.boot := by simp [writeReply]
@[simp] theorem writeReply_pending (r : Reply) (s : State) : (writeReply r s).pending = s.pending := by simp [writeReply]
@[simp] theorem writeReply_freeIdx (r : Reply) (s : State) : (writeReply r s).freeIdx = s.freeIdx := by simp [writeReply]

@[simp] theorem postReply_part (r : Reply) (s : State) : (postReply r s).part = s.part := by
  simp only [postReply]; repeat' split
  all_goals (first | rfl | simp)
@[simp] theorem postReply_dieRevision (r : Reply) (s : State) : (postReply r s).dieRevision = s.dieRevision := by
  simp only [postReply]; repeat' split
  all_goals (first | rfl | simp)
@[simp] theorem postReply_time (r : Reply) (s : State) : (postReply r s).time = s.time := by
  simp only [postReply]; repeat' split
  all_goals (first | rfl | simp)
@[simp] theorem postReply_front (r : Reply) (s : State) : (postReply r s).front = s.front := by
  simp only [postReply]; repeat' split
  all_goals (first | rfl | simp)
@[simp] theorem postReply_base (r : Reply) (s : State) : (postReply r s).base = s.base := by
  simp only [postReply]; repeat' split
  all_goals (first | rfl | simp)
@[simp] theorem postReply_link (r : Reply) (s : State) : (postReply r s).link = s.link := by
  simp only [postReply]; repeat' split
  all_goals (first | rfl | simp)
@[simp] theorem postReply_cmd (r : Reply) (s : State) : (postReply r s).cmd = s.cmd := by
  simp only [postReply]; repeat' split
  all_goals (first | rfl | simp)
@[simp] theorem postReply_image (r : Reply) (s : State) : (postReply r s).image = s.image := by
  simp only [postReply]; repeat' split
  all_goals (first | rfl | simp)
@[simp] theorem postReply_record (r : Reply) (s : State) : (postReply r s).record = s.record := by
  simp only [postReply]; repeat' split
  all_goals (first | rfl | simp)
@[simp] theorem postReply_params (r : Reply) (s : State) : (postReply r s).params = s.params := by
  simp only [postReply]; repeat' split
  all_goals (first | rfl | simp)
@[simp] theorem postReply_bus (r : Reply) (s : State) : (postReply r s).bus = s.bus := by
  simp only [postReply]; repeat' split
  all_goals (first | rfl | simp)
@[simp] theorem postReply_mem (r : Reply) (s : State) : (postReply r s).mem = s.mem := by
  simp only [postReply]; repeat' split
  all_goals (first | rfl | simp)
@[simp] theorem postReply_trust (r : Reply) (s : State) : (postReply r s).trust = s.trust := by
  simp only [postReply]; repeat' split
  all_goals (first | rfl | simp)
@[simp] theorem postReply_tally (r : Reply) (s : State) : (postReply r s).tally = s.tally := by
  simp only [postReply]; repeat' split
  all_goals (first | rfl | simp)
@[simp] theorem postReply_boot (r : Reply) (s : State) : (postReply r s).boot = s.boot := by
  simp only [postReply]; repeat' split
  all_goals (first | rfl | simp)
@[simp] theorem postReply_pending (r : Reply) (s : State) : (postReply r s).pending = s.pending := by
  simp only [postReply]; repeat' split
  all_goals (first | rfl | simp)
@[simp] theorem postReply_freeIdx (r : Reply) (s : State) : (postReply r s).freeIdx = s.freeIdx := by
  simp only [postReply]; repeat' split
  all_goals (first | rfl | simp)

@[simp] theorem postTurn_part (n : Nat) (s : State) : (postTurn n s).part = s.part := by
  induction n generalizing s with
  | zero => rfl
  | succ n ih => simp only [postTurn]; split <;> simp [ih]
@[simp] theorem postTurn_dieRevision (n : Nat) (s : State) : (postTurn n s).dieRevision = s.dieRevision := by
  induction n generalizing s with
  | zero => rfl
  | succ n ih => simp only [postTurn]; split <;> simp [ih]
@[simp] theorem postTurn_time (n : Nat) (s : State) : (postTurn n s).time = s.time := by
  induction n generalizing s with
  | zero => rfl
  | succ n ih => simp only [postTurn]; split <;> simp [ih]
@[simp] theorem postTurn_front (n : Nat) (s : State) : (postTurn n s).front = s.front := by
  induction n generalizing s with
  | zero => rfl
  | succ n ih => simp only [postTurn]; split <;> simp [ih]
@[simp] theorem postTurn_base (n : Nat) (s : State) : (postTurn n s).base = s.base := by
  induction n generalizing s with
  | zero => rfl
  | succ n ih => simp only [postTurn]; split <;> simp [ih]
@[simp] theorem postTurn_link (n : Nat) (s : State) : (postTurn n s).link = s.link := by
  induction n generalizing s with
  | zero => rfl
  | succ n ih => simp only [postTurn]; split <;> simp [ih]
@[simp] theorem postTurn_cmd (n : Nat) (s : State) : (postTurn n s).cmd = s.cmd := by
  induction n generalizing s with
  | zero => rfl
  | succ n ih => simp only [postTurn]; split <;> simp [ih]
@[simp] theorem postTurn_image (n : Nat) (s : State) : (postTurn n s).image = s.image := by
  induction n generalizing s with
  | zero => rfl
  | succ n ih => simp only [postTurn]; split <;> simp [ih]
@[simp] theorem postTurn_record (n : Nat) (s : State) : (postTurn n s).record = s.record := by
  induction n generalizing s with
  | zero => rfl
  | succ n ih => simp only [postTurn]; split <;> simp [ih]
@[simp] theorem postTurn_params (n : Nat) (s : State) : (postTurn n s).params = s.params := by
  induction n generalizing s with
  | zero => rfl
  | succ n ih => simp only [postTurn]; split <;> simp [ih]
@[simp] theorem postTurn_bus (n : Nat) (s : State) : (postTurn n s).bus = s.bus := by
  induction n generalizing s with
  | zero => rfl
  | succ n ih => simp only [postTurn]; split <;> simp [ih]
@[simp] theorem postTurn_mem (n : Nat) (s : State) : (postTurn n s).mem = s.mem := by
  induction n generalizing s with
  | zero => rfl
  | succ n ih => simp only [postTurn]; split <;> simp [ih]
@[simp] theorem postTurn_trust (n : Nat) (s : State) : (postTurn n s).trust = s.trust := by
  induction n generalizing s with
  | zero => rfl
  | succ n ih => simp only [postTurn]; split <;> simp [ih]
@[simp] theorem postTurn_tally (n : Nat) (s : State) : (postTurn n s).tally = s.tally := by
  induction n generalizing s with
  | zero => rfl
  | succ n ih => simp only [postTurn]; split <;> simp [ih]
@[simp] theorem postTurn_boot (n : Nat) (s : State) : (postTurn n s).boot = s.boot := by
  induction n generalizing s with
  | zero => rfl
  | succ n ih => simp only [postTurn]; split <;> simp [ih]
@[simp] theorem postTurn_pending (n : Nat) (s : State) : (postTurn n s).pending = s.pending := by
  induction n generalizing s with
  | zero => rfl
  | succ n ih => simp only [postTurn]; split <;> simp [ih]
@[simp] theorem postTurn_freeIdx (n : Nat) (s : State) : (postTurn n s).freeIdx = s.freeIdx := by
  induction n generalizing s with
  | zero => rfl
  | succ n ih => simp only [postTurn]; split <;> simp [ih]

@[simp] theorem finish_part (d : Option Deferred) (a : Nat) (b : List Byte) (s : State) : (finish d a b s).part = s.part := by
  simp only [finish]; repeat' split
  all_goals (first | rfl | simp)
@[simp] theorem finish_dieRevision (d : Option Deferred) (a : Nat) (b : List Byte) (s : State) : (finish d a b s).dieRevision = s.dieRevision := by
  simp only [finish]; repeat' split
  all_goals (first | rfl | simp)
@[simp] theorem finish_time (d : Option Deferred) (a : Nat) (b : List Byte) (s : State) : (finish d a b s).time = s.time := by
  simp only [finish]; repeat' split
  all_goals (first | rfl | simp)
@[simp] theorem finish_front (d : Option Deferred) (a : Nat) (b : List Byte) (s : State) : (finish d a b s).front = s.front := by
  simp only [finish]; repeat' split
  all_goals (first | rfl | simp)
@[simp] theorem finish_base (d : Option Deferred) (a : Nat) (b : List Byte) (s : State) : (finish d a b s).base = s.base := by
  simp only [finish]; repeat' split
  all_goals (first | rfl | simp)
@[simp] theorem finish_link (d : Option Deferred) (a : Nat) (b : List Byte) (s : State) : (finish d a b s).link = s.link := by
  simp only [finish]; repeat' split
  all_goals (first | rfl | simp)
@[simp] theorem finish_cmd (d : Option Deferred) (a : Nat) (b : List Byte) (s : State) : (finish d a b s).cmd = s.cmd := by
  simp only [finish]; repeat' split
  all_goals (first | rfl | simp)
@[simp] theorem finish_image (d : Option Deferred) (a : Nat) (b : List Byte) (s : State) : (finish d a b s).image = s.image := by
  simp only [finish]; repeat' split
  all_goals (first | rfl | simp)
@[simp] theorem finish_record (d : Option Deferred) (a : Nat) (b : List Byte) (s : State) : (finish d a b s).record = s.record := by
  simp only [finish]; repeat' split
  all_goals (first | rfl | simp)
@[simp] theorem finish_params (d : Option Deferred) (a : Nat) (b : List Byte) (s : State) : (finish d a b s).params = s.params := by
  simp only [finish]; repeat' split
  all_goals (first | rfl | simp)
@[simp] theorem finish_bus (d : Option Deferred) (a : Nat) (b : List Byte) (s : State) : (finish d a b s).bus = s.bus := by
  simp only [finish]; repeat' split
  all_goals (first | rfl | simp)
@[simp] theorem finish_mem (d : Option Deferred) (a : Nat) (b : List Byte) (s : State) : (finish d a b s).mem = s.mem := by
  simp only [finish]; repeat' split
  all_goals (first | rfl | simp)
@[simp] theorem finish_trust (d : Option Deferred) (a : Nat) (b : List Byte) (s : State) : (finish d a b s).trust = s.trust := by
  simp only [finish]; repeat' split
  all_goals (first | rfl | simp)
@[simp] theorem finish_tally (d : Option Deferred) (a : Nat) (b : List Byte) (s : State) : (finish d a b s).tally = s.tally := by
  simp only [finish]; repeat' split
  all_goals (first | rfl | simp)
@[simp] theorem finish_boot (d : Option Deferred) (a : Nat) (b : List Byte) (s : State) : (finish d a b s).boot = s.boot := by
  simp only [finish]; repeat' split
  all_goals (first | rfl | simp)
@[simp] theorem finish_pending (d : Option Deferred) (a : Nat) (b : List Byte) (s : State) : (finish d a b s).pending = s.pending := by
  simp only [finish]; repeat' split
  all_goals (first | rfl | simp)
@[simp] theorem finish_freeIdx (d : Option Deferred) (a : Nat) (b : List Byte) (s : State) : (finish d a b s).freeIdx = s.freeIdx := by
  simp only [finish]; repeat' split
  all_goals (first | rfl | simp)

@[simp] theorem finishOp_part (o a : Nat) (b : List Byte) (s : State) : (finishOp o a b s).part = s.part := by simp [finishOp]
@[simp] theorem finishOp_dieRevision (o a : Nat) (b : List Byte) (s : State) : (finishOp o a b s).dieRevision = s.dieRevision := by simp [finishOp]
@[simp] theorem finishOp_time (o a : Nat) (b : List Byte) (s : State) : (finishOp o a b s).time = s.time := by simp [finishOp]
@[simp] theorem finishOp_front (o a : Nat) (b : List Byte) (s : State) : (finishOp o a b s).front = s.front := by simp [finishOp]
@[simp] theorem finishOp_base (o a : Nat) (b : List Byte) (s : State) : (finishOp o a b s).base = s.base := by simp [finishOp]
@[simp] theorem finishOp_link (o a : Nat) (b : List Byte) (s : State) : (finishOp o a b s).link = s.link := by simp [finishOp]
@[simp] theorem finishOp_cmd (o a : Nat) (b : List Byte) (s : State) : (finishOp o a b s).cmd = s.cmd := by simp [finishOp]
@[simp] theorem finishOp_image (o a : Nat) (b : List Byte) (s : State) : (finishOp o a b s).image = s.image := by simp [finishOp]
@[simp] theorem finishOp_record (o a : Nat) (b : List Byte) (s : State) : (finishOp o a b s).record = s.record := by simp [finishOp]
@[simp] theorem finishOp_params (o a : Nat) (b : List Byte) (s : State) : (finishOp o a b s).params = s.params := by simp [finishOp]
@[simp] theorem finishOp_bus (o a : Nat) (b : List Byte) (s : State) : (finishOp o a b s).bus = s.bus := by simp [finishOp]
@[simp] theorem finishOp_mem (o a : Nat) (b : List Byte) (s : State) : (finishOp o a b s).mem = s.mem := by simp [finishOp]
@[simp] theorem finishOp_trust (o a : Nat) (b : List Byte) (s : State) : (finishOp o a b s).trust = s.trust := by simp [finishOp]
@[simp] theorem finishOp_tally (o a : Nat) (b : List Byte) (s : State) : (finishOp o a b s).tally = s.tally := by simp [finishOp]
@[simp] theorem finishOp_boot (o a : Nat) (b : List Byte) (s : State) : (finishOp o a b s).boot = s.boot := by simp [finishOp]
@[simp] theorem finishOp_pending (o a : Nat) (b : List Byte) (s : State) : (finishOp o a b s).pending = s.pending := by simp [finishOp]
@[simp] theorem finishOp_freeIdx (o a : Nat) (b : List Byte) (s : State) : (finishOp o a b s).freeIdx = s.freeIdx := by simp [finishOp]

@[simp] theorem finishTag_part (o a : Nat) (b : List Byte) (s : State) : (finishTag o a b s).part = s.part := by simp [finishTag]
@[simp] theorem finishTag_dieRevision (o a : Nat) (b : List Byte) (s : State) : (finishTag o a b s).dieRevision = s.dieRevision := by simp [finishTag]
@[simp] theorem finishTag_time (o a : Nat) (b : List Byte) (s : State) : (finishTag o a b s).time = s.time := by simp [finishTag]
@[simp] theorem finishTag_front (o a : Nat) (b : List Byte) (s : State) : (finishTag o a b s).front = s.front := by simp [finishTag]
@[simp] theorem finishTag_base (o a : Nat) (b : List Byte) (s : State) : (finishTag o a b s).base = s.base := by simp [finishTag]
@[simp] theorem finishTag_link (o a : Nat) (b : List Byte) (s : State) : (finishTag o a b s).link = s.link := by simp [finishTag]
@[simp] theorem finishTag_cmd (o a : Nat) (b : List Byte) (s : State) : (finishTag o a b s).cmd = s.cmd := by simp [finishTag]
@[simp] theorem finishTag_image (o a : Nat) (b : List Byte) (s : State) : (finishTag o a b s).image = s.image := by simp [finishTag]
@[simp] theorem finishTag_record (o a : Nat) (b : List Byte) (s : State) : (finishTag o a b s).record = s.record := by simp [finishTag]
@[simp] theorem finishTag_params (o a : Nat) (b : List Byte) (s : State) : (finishTag o a b s).params = s.params := by simp [finishTag]
@[simp] theorem finishTag_bus (o a : Nat) (b : List Byte) (s : State) : (finishTag o a b s).bus = s.bus := by simp [finishTag]
@[simp] theorem finishTag_mem (o a : Nat) (b : List Byte) (s : State) : (finishTag o a b s).mem = s.mem := by simp [finishTag]
@[simp] theorem finishTag_trust (o a : Nat) (b : List Byte) (s : State) : (finishTag o a b s).trust = s.trust := by simp [finishTag]
@[simp] theorem finishTag_tally (o a : Nat) (b : List Byte) (s : State) : (finishTag o a b s).tally = s.tally := by simp [finishTag]
@[simp] theorem finishTag_boot (o a : Nat) (b : List Byte) (s : State) : (finishTag o a b s).boot = s.boot := by simp [finishTag]
@[simp] theorem finishTag_pending (o a : Nat) (b : List Byte) (s : State) : (finishTag o a b s).pending = s.pending := by simp [finishTag]
@[simp] theorem finishTag_freeIdx (o a : Nat) (b : List Byte) (s : State) : (finishTag o a b s).freeIdx = s.freeIdx := by simp [finishTag]

@[simp] theorem finishSome_part (w : Deferred → Bool) (a : Nat) (b : List Byte) (s : State) : (finishSome w a b s).part = s.part := by
  unfold finishSome
  exact foldl_keeps (fun s : State => s.part) _ (fun s d => by simp) _ _
@[simp] theorem finishSome_dieRevision (w : Deferred → Bool) (a : Nat) (b : List Byte) (s : State) : (finishSome w a b s).dieRevision = s.dieRevision := by
  unfold finishSome
  exact foldl_keeps (fun s : State => s.dieRevision) _ (fun s d => by simp) _ _
@[simp] theorem finishSome_time (w : Deferred → Bool) (a : Nat) (b : List Byte) (s : State) : (finishSome w a b s).time = s.time := by
  unfold finishSome
  exact foldl_keeps (fun s : State => s.time) _ (fun s d => by simp) _ _
@[simp] theorem finishSome_front (w : Deferred → Bool) (a : Nat) (b : List Byte) (s : State) : (finishSome w a b s).front = s.front := by
  unfold finishSome
  exact foldl_keeps (fun s : State => s.front) _ (fun s d => by simp) _ _
@[simp] theorem finishSome_base (w : Deferred → Bool) (a : Nat) (b : List Byte) (s : State) : (finishSome w a b s).base = s.base := by
  unfold finishSome
  exact foldl_keeps (fun s : State => s.base) _ (fun s d => by simp) _ _
@[simp] theorem finishSome_link (w : Deferred → Bool) (a : Nat) (b : List Byte) (s : State) : (finishSome w a b s).link = s.link := by
  unfold finishSome
  exact foldl_keeps (fun s : State => s.link) _ (fun s d => by simp) _ _
@[simp] theorem finishSome_cmd (w : Deferred → Bool) (a : Nat) (b : List Byte) (s : State) : (finishSome w a b s).cmd = s.cmd := by
  unfold finishSome
  exact foldl_keeps (fun s : State => s.cmd) _ (fun s d => by simp) _ _
@[simp] theorem finishSome_image (w : Deferred → Bool) (a : Nat) (b : List Byte) (s : State) : (finishSome w a b s).image = s.image := by
  unfold finishSome
  exact foldl_keeps (fun s : State => s.image) _ (fun s d => by simp) _ _
@[simp] theorem finishSome_record (w : Deferred → Bool) (a : Nat) (b : List Byte) (s : State) : (finishSome w a b s).record = s.record := by
  unfold finishSome
  exact foldl_keeps (fun s : State => s.record) _ (fun s d => by simp) _ _
@[simp] theorem finishSome_params (w : Deferred → Bool) (a : Nat) (b : List Byte) (s : State) : (finishSome w a b s).params = s.params := by
  unfold finishSome
  exact foldl_keeps (fun s : State => s.params) _ (fun s d => by simp) _ _
@[simp] theorem finishSome_bus (w : Deferred → Bool) (a : Nat) (b : List Byte) (s : State) : (finishSome w a b s).bus = s.bus := by
  unfold finishSome
  exact foldl_keeps (fun s : State => s.bus) _ (fun s d => by simp) _ _
@[simp] theorem finishSome_mem (w : Deferred → Bool) (a : Nat) (b : List Byte) (s : State) : (finishSome w a b s).mem = s.mem := by
  unfold finishSome
  exact foldl_keeps (fun s : State => s.mem) _ (fun s d => by simp) _ _
@[simp] theorem finishSome_trust (w : Deferred → Bool) (a : Nat) (b : List Byte) (s : State) : (finishSome w a b s).trust = s.trust := by
  unfold finishSome
  exact foldl_keeps (fun s : State => s.trust) _ (fun s d => by simp) _ _
@[simp] theorem finishSome_tally (w : Deferred → Bool) (a : Nat) (b : List Byte) (s : State) : (finishSome w a b s).tally = s.tally := by
  unfold finishSome
  exact foldl_keeps (fun s : State => s.tally) _ (fun s d => by simp) _ _
@[simp] theorem finishSome_boot (w : Deferred → Bool) (a : Nat) (b : List Byte) (s : State) : (finishSome w a b s).boot = s.boot := by
  unfold finishSome
  exact foldl_keeps (fun s : State => s.boot) _ (fun s d => by simp) _ _
@[simp] theorem finishSome_pending (w : Deferred → Bool) (a : Nat) (b : List Byte) (s : State) : (finishSome w a b s).pending = s.pending := by
  unfold finishSome
  exact foldl_keeps (fun s : State => s.pending) _ (fun s d => by simp) _ _
@[simp] theorem finishSome_freeIdx (w : Deferred → Bool) (a : Nat) (b : List Byte) (s : State) : (finishSome w a b s).freeIdx = s.freeIdx := by
  unfold finishSome
  exact foldl_keeps (fun s : State => s.freeIdx) _ (fun s d => by simp) _ _

@[simp] theorem finishAll_part (o a : Nat) (b : List Byte) (s : State) : (finishAll o a b s).part = s.part := by simp [finishAll]
@[simp] theorem finishAll_dieRevision (o a : Nat) (b : List Byte) (s : State) : (finishAll o a b s).dieRevision = s.dieRevision := by simp [finishAll]
@[simp] theorem finishAll_time (o a : Nat) (b : List Byte) (s : State) : (finishAll o a b s).time = s.time := by simp [finishAll]
@[simp] theorem finishAll_front (o a : Nat) (b : List Byte) (s : State) : (finishAll o a b s).front = s.front := by simp [finishAll]
@[simp] theorem finishAll_base (o a : Nat) (b : List Byte) (s : State) : (finishAll o a b s).base = s.base := by simp [finishAll]
@[simp] theorem finishAll_link (o a : Nat) (b : List Byte) (s : State) : (finishAll o a b s).link = s.link := by simp [finishAll]
@[simp] theorem finishAll_cmd (o a : Nat) (b : List Byte) (s : State) : (finishAll o a b s).cmd = s.cmd := by simp [finishAll]
@[simp] theorem finishAll_image (o a : Nat) (b : List Byte) (s : State) : (finishAll o a b s).image = s.image := by simp [finishAll]
@[simp] theorem finishAll_record (o a : Nat) (b : List Byte) (s : State) : (finishAll o a b s).record = s.record := by simp [finishAll]
@[simp] theorem finishAll_params (o a : Nat) (b : List Byte) (s : State) : (finishAll o a b s).params = s.params := by simp [finishAll]
@[simp] theorem finishAll_bus (o a : Nat) (b : List Byte) (s : State) : (finishAll o a b s).bus = s.bus := by simp [finishAll]
@[simp] theorem finishAll_mem (o a : Nat) (b : List Byte) (s : State) : (finishAll o a b s).mem = s.mem := by simp [finishAll]
@[simp] theorem finishAll_trust (o a : Nat) (b : List Byte) (s : State) : (finishAll o a b s).trust = s.trust := by simp [finishAll]
@[simp] theorem finishAll_tally (o a : Nat) (b : List Byte) (s : State) : (finishAll o a b s).tally = s.tally := by simp [finishAll]
@[simp] theorem finishAll_boot (o a : Nat) (b : List Byte) (s : State) : (finishAll o a b s).boot = s.boot := by simp [finishAll]
@[simp] theorem finishAll_pending (o a : Nat) (b : List Byte) (s : State) : (finishAll o a b s).pending = s.pending := by simp [finishAll]
@[simp] theorem finishAll_freeIdx (o a : Nat) (b : List Byte) (s : State) : (finishAll o a b s).freeIdx = s.freeIdx := by simp [finishAll]

@[simp] theorem endReplies_part (s : State) : (endReplies s).part = s.part := by simp [endReplies]
@[simp] theorem endReplies_dieRevision (s : State) : (endReplies s).dieRevision = s.dieRevision := by simp [endReplies]
@[simp] theorem endReplies_time (s : State) : (endReplies s).time = s.time := by simp [endReplies]
@[simp] theorem endReplies_front (s : State) : (endReplies s).front = s.front := by simp [endReplies]
@[simp] theorem endReplies_base (s : State) : (endReplies s).base = s.base := by simp [endReplies]
@[simp] theorem endReplies_link (s : State) : (endReplies s).link = s.link := by simp [endReplies]
@[simp] theorem endReplies_cmd (s : State) : (endReplies s).cmd = s.cmd := by simp [endReplies]
@[simp] theorem endReplies_image (s : State) : (endReplies s).image = s.image := by simp [endReplies]
@[simp] theorem endReplies_record (s : State) : (endReplies s).record = s.record := by simp [endReplies]
@[simp] theorem endReplies_params (s : State) : (endReplies s).params = s.params := by simp [endReplies]
@[simp] theorem endReplies_bus (s : State) : (endReplies s).bus = s.bus := by simp [endReplies]
@[simp] theorem endReplies_mem (s : State) : (endReplies s).mem = s.mem := by simp [endReplies]
@[simp] theorem endReplies_trust (s : State) : (endReplies s).trust = s.trust := by simp [endReplies]
@[simp] theorem endReplies_tally (s : State) : (endReplies s).tally = s.tally := by simp [endReplies]
@[simp] theorem endReplies_boot (s : State) : (endReplies s).boot = s.boot := by simp [endReplies]
@[simp] theorem endReplies_pending (s : State) : (endReplies s).pending = s.pending := by simp [endReplies]
@[simp] theorem endReplies_freeIdx (s : State) : (endReplies s).freeIdx = s.freeIdx := by simp [endReplies]

/-! What follows every command. -/

@[simp] theorem endScan_part (s : State) : (endScan s).part = s.part := by simp [endScan]
@[simp] theorem endScan_dieRevision (s : State) : (endScan s).dieRevision = s.dieRevision := by simp [endScan]
@[simp] theorem endScan_time (s : State) : (endScan s).time = s.time := by simp [endScan]
@[simp] theorem endScan_base (s : State) : (endScan s).base = s.base := by simp [endScan]
@[simp] theorem endScan_link (s : State) : (endScan s).link = s.link := by simp [endScan]
@[simp] theorem endScan_cmd (s : State) : (endScan s).cmd = s.cmd := by simp [endScan]
@[simp] theorem endScan_image (s : State) : (endScan s).image = s.image := by simp [endScan]
@[simp] theorem endScan_record (s : State) : (endScan s).record = s.record := by simp [endScan]
@[simp] theorem endScan_params (s : State) : (endScan s).params = s.params := by simp [endScan]
@[simp] theorem endScan_bus (s : State) : (endScan s).bus = s.bus := by simp [endScan]
@[simp] theorem endScan_mem (s : State) : (endScan s).mem = s.mem := by simp [endScan]
@[simp] theorem endScan_trust (s : State) : (endScan s).trust = s.trust := by simp [endScan]
@[simp] theorem endScan_tally (s : State) : (endScan s).tally = s.tally := by simp [endScan]
@[simp] theorem endScan_boot (s : State) : (endScan s).boot = s.boot := by simp [endScan]
@[simp] theorem endScan_pending (s : State) : (endScan s).pending = s.pending := by simp [endScan]
@[simp] theorem endScan_freeIdx (s : State) : (endScan s).freeIdx = s.freeIdx := by simp [endScan]

@[simp] theorem entryReply_part (s : State) : (entryReply s).part = s.part := by
  simp only [entryReply]; repeat' split
  all_goals (first | rfl | simp)
@[simp] theorem entryReply_dieRevision (s : State) : (entryReply s).dieRevision = s.dieRevision := by
  simp only [entryReply]; repeat' split
  all_goals (first | rfl | simp)
@[simp] theorem entryReply_time (s : State) : (entryReply s).time = s.time := by
  simp only [entryReply]; repeat' split
  all_goals (first | rfl | simp)
@[simp] theorem entryReply_front (s : State) : (entryReply s).front = s.front := by
  simp only [entryReply]; repeat' split
  all_goals (first | rfl | simp)
@[simp] theorem entryReply_base (s : State) : (entryReply s).base = s.base := by
  simp only [entryReply]; repeat' split
  all_goals (first | rfl | simp)
@[simp] theorem entryReply_link (s : State) : (entryReply s).link = s.link := by
  simp only [entryReply]; repeat' split
  all_goals (first | rfl | simp)
@[simp] theorem entryReply_cmd (s : State) : (entryReply s).cmd = s.cmd := by
  simp only [entryReply]; repeat' split
  all_goals (first | rfl | simp)
@[simp] theorem entryReply_image (s : State) : (entryReply s).image = s.image := by
  simp only [entryReply]; repeat' split
  all_goals (first | rfl | simp)
@[simp] theorem entryReply_record (s : State) : (entryReply s).record = s.record := by
  simp only [entryReply]; repeat' split
  all_goals (first | rfl | simp)
@[simp] theorem entryReply_params (s : State) : (entryReply s).params = s.params := by
  simp only [entryReply]; repeat' split
  all_goals (first | rfl | simp)
@[simp] theorem entryReply_bus (s : State) : (entryReply s).bus = s.bus := by
  simp only [entryReply]; repeat' split
  all_goals (first | rfl | simp)
@[simp] theorem entryReply_mem (s : State) : (entryReply s).mem = s.mem := by
  simp only [entryReply]; repeat' split
  all_goals (first | rfl | simp)
@[simp] theorem entryReply_trust (s : State) : (entryReply s).trust = s.trust := by
  simp only [entryReply]; repeat' split
  all_goals (first | rfl | simp)
@[simp] theorem entryReply_tally (s : State) : (entryReply s).tally = s.tally := by
  simp only [entryReply]; repeat' split
  all_goals (first | rfl | simp)
@[simp] theorem entryReply_boot (s : State) : (entryReply s).boot = s.boot := by
  simp only [entryReply]; repeat' split
  all_goals (first | rfl | simp)
@[simp] theorem entryReply_pending (s : State) : (entryReply s).pending = s.pending := by
  simp only [entryReply]; repeat' split
  all_goals (first | rfl | simp)
@[simp] theorem entryReply_freeIdx (s : State) : (entryReply s).freeIdx = s.freeIdx := by
  simp only [entryReply]; repeat' split
  all_goals (first | rfl | simp)

@[simp] theorem payOwed_part (s : State) : (payOwed s).part = s.part := by
  simp only [payOwed]; repeat' split
  all_goals (first | rfl | simp)
@[simp] theorem payOwed_dieRevision (s : State) : (payOwed s).dieRevision = s.dieRevision := by
  simp only [payOwed]; repeat' split
  all_goals (first | rfl | simp)
@[simp] theorem payOwed_time (s : State) : (payOwed s).time = s.time := by
  simp only [payOwed]; repeat' split
  all_goals (first | rfl | simp)
@[simp] theorem payOwed_front (s : State) : (payOwed s).front = s.front := by
  simp only [payOwed]; repeat' split
  all_goals (first | rfl | simp)
@[simp] theorem payOwed_base (s : State) : (payOwed s).base = s.base := by
  simp only [payOwed]; repeat' split
  all_goals (first | rfl | simp)
@[simp] theorem payOwed_link (s : State) : (payOwed s).link = s.link := by
  simp only [payOwed]; repeat' split
  all_goals (first | rfl | simp)
@[simp] theorem payOwed_cmd (s : State) : (payOwed s).cmd = s.cmd := by
  simp only [payOwed]; repeat' split
  all_goals (first | rfl | simp)
@[simp] theorem payOwed_image (s : State) : (payOwed s).image = s.image := by
  simp only [payOwed]; repeat' split
  all_goals (first | rfl | simp)
@[simp] theorem payOwed_record (s : State) : (payOwed s).record = s.record := by
  simp only [payOwed]; repeat' split
  all_goals (first | rfl | simp)
@[simp] theorem payOwed_params (s : State) : (payOwed s).params = s.params := by
  simp only [payOwed]; repeat' split
  all_goals (first | rfl | simp)
@[simp] theorem payOwed_bus (s : State) : (payOwed s).bus = s.bus := by
  simp only [payOwed]; repeat' split
  all_goals (first | rfl | simp)
@[simp] theorem payOwed_mem (s : State) : (payOwed s).mem = s.mem := by
  simp only [payOwed]; repeat' split
  all_goals (first | rfl | simp)
@[simp] theorem payOwed_trust (s : State) : (payOwed s).trust = s.trust := by
  simp only [payOwed]; repeat' split
  all_goals (first | rfl | simp)
@[simp] theorem payOwed_tally (s : State) : (payOwed s).tally = s.tally := by
  simp only [payOwed]; repeat' split
  all_goals (first | rfl | simp)
@[simp] theorem payOwed_boot (s : State) : (payOwed s).boot = s.boot := by
  simp only [payOwed]; repeat' split
  all_goals (first | rfl | simp)
@[simp] theorem payOwed_pending (s : State) : (payOwed s).pending = s.pending := by
  simp only [payOwed]; repeat' split
  all_goals (first | rfl | simp)
@[simp] theorem payOwed_freeIdx (s : State) : (payOwed s).freeIdx = s.freeIdx := by
  simp only [payOwed]; repeat' split
  all_goals (first | rfl | simp)

@[simp] theorem driveNone_part (s : State) : (driveNone s).part = s.part := rfl
@[simp] theorem driveNone_dieRevision (s : State) : (driveNone s).dieRevision = s.dieRevision := rfl
@[simp] theorem driveNone_time (s : State) : (driveNone s).time = s.time := rfl
@[simp] theorem driveNone_front (s : State) : (driveNone s).front = s.front := rfl
@[simp] theorem driveNone_plane (s : State) : (driveNone s).plane = s.plane := rfl
@[simp] theorem driveNone_base (s : State) : (driveNone s).base = s.base := rfl
@[simp] theorem driveNone_trk (s : State) : (driveNone s).trk = s.trk := rfl
@[simp] theorem driveNone_pwr (s : State) : (driveNone s).pwr = s.pwr := rfl
@[simp] theorem driveNone_casc (s : State) : (driveNone s).casc = s.casc := rfl
@[simp] theorem driveNone_lvl (s : State) : (driveNone s).lvl = s.lvl := rfl
@[simp] theorem driveNone_link (s : State) : (driveNone s).link = s.link := rfl
@[simp] theorem driveNone_attn (s : State) : (driveNone s).attn = s.attn := rfl
@[simp] theorem driveNone_cmd (s : State) : (driveNone s).cmd = s.cmd := rfl
@[simp] theorem driveNone_report (s : State) : (driveNone s).report = s.report := rfl
@[simp] theorem driveNone_image (s : State) : (driveNone s).image = s.image := rfl
@[simp] theorem driveNone_record (s : State) : (driveNone s).record = s.record := rfl
@[simp] theorem driveNone_bench (s : State) : (driveNone s).bench = s.bench := rfl
@[simp] theorem driveNone_params (s : State) : (driveNone s).params = s.params := rfl
@[simp] theorem driveNone_bus (s : State) : (driveNone s).bus = s.bus := rfl
@[simp] theorem driveNone_mem (s : State) : (driveNone s).mem = s.mem := rfl
@[simp] theorem driveNone_trust (s : State) : (driveNone s).trust = s.trust := rfl
@[simp] theorem driveNone_tally (s : State) : (driveNone s).tally = s.tally := rfl
@[simp] theorem driveNone_tel (s : State) : (driveNone s).tel = s.tel := rfl
@[simp] theorem driveNone_boot (s : State) : (driveNone s).boot = s.boot := rfl
@[simp] theorem driveNone_pending (s : State) : (driveNone s).pending = s.pending := rfl
@[simp] theorem driveNone_freeIdx (s : State) : (driveNone s).freeIdx = s.freeIdx := rfl

@[simp] theorem settleDrive_part (s : State) : (settleDrive s).part = s.part := by
  simp only [settleDrive]; repeat' split
  all_goals (first | rfl | simp)
@[simp] theorem settleDrive_dieRevision (s : State) : (settleDrive s).dieRevision = s.dieRevision := by
  simp only [settleDrive]; repeat' split
  all_goals (first | rfl | simp)
@[simp] theorem settleDrive_time (s : State) : (settleDrive s).time = s.time := by
  simp only [settleDrive]; repeat' split
  all_goals (first | rfl | simp)
@[simp] theorem settleDrive_front (s : State) : (settleDrive s).front = s.front := by
  simp only [settleDrive]; repeat' split
  all_goals (first | rfl | simp)
@[simp] theorem settleDrive_plane (s : State) : (settleDrive s).plane = s.plane := by
  simp only [settleDrive]; repeat' split
  all_goals (first | rfl | simp)
@[simp] theorem settleDrive_base (s : State) : (settleDrive s).base = s.base := by
  simp only [settleDrive]; repeat' split
  all_goals (first | rfl | simp)
@[simp] theorem settleDrive_trk (s : State) : (settleDrive s).trk = s.trk := by
  simp only [settleDrive]; repeat' split
  all_goals (first | rfl | simp)
@[simp] theorem settleDrive_pwr (s : State) : (settleDrive s).pwr = s.pwr := by
  simp only [settleDrive]; repeat' split
  all_goals (first | rfl | simp)
@[simp] theorem settleDrive_casc (s : State) : (settleDrive s).casc = s.casc := by
  simp only [settleDrive]; repeat' split
  all_goals (first | rfl | simp)
@[simp] theorem settleDrive_lvl (s : State) : (settleDrive s).lvl = s.lvl := by
  simp only [settleDrive]; repeat' split
  all_goals (first | rfl | simp)
@[simp] theorem settleDrive_link (s : State) : (settleDrive s).link = s.link := by
  simp only [settleDrive]; repeat' split
  all_goals (first | rfl | simp)
@[simp] theorem settleDrive_attn (s : State) : (settleDrive s).attn = s.attn := by
  simp only [settleDrive]; repeat' split
  all_goals (first | rfl | simp)
@[simp] theorem settleDrive_cmd (s : State) : (settleDrive s).cmd = s.cmd := by
  simp only [settleDrive]; repeat' split
  all_goals (first | rfl | simp)
@[simp] theorem settleDrive_report (s : State) : (settleDrive s).report = s.report := by
  simp only [settleDrive]; repeat' split
  all_goals (first | rfl | simp)
@[simp] theorem settleDrive_image (s : State) : (settleDrive s).image = s.image := by
  simp only [settleDrive]; repeat' split
  all_goals (first | rfl | simp)
@[simp] theorem settleDrive_record (s : State) : (settleDrive s).record = s.record := by
  simp only [settleDrive]; repeat' split
  all_goals (first | rfl | simp)
@[simp] theorem settleDrive_bench (s : State) : (settleDrive s).bench = s.bench := by
  simp only [settleDrive]; repeat' split
  all_goals (first | rfl | simp)
@[simp] theorem settleDrive_params (s : State) : (settleDrive s).params = s.params := by
  simp only [settleDrive]; repeat' split
  all_goals (first | rfl | simp)
@[simp] theorem settleDrive_bus (s : State) : (settleDrive s).bus = s.bus := by
  simp only [settleDrive]; repeat' split
  all_goals (first | rfl | simp)
@[simp] theorem settleDrive_mem (s : State) : (settleDrive s).mem = s.mem := by
  simp only [settleDrive]; repeat' split
  all_goals (first | rfl | simp)
@[simp] theorem settleDrive_trust (s : State) : (settleDrive s).trust = s.trust := by
  simp only [settleDrive]; repeat' split
  all_goals (first | rfl | simp)
@[simp] theorem settleDrive_tally (s : State) : (settleDrive s).tally = s.tally := by
  simp only [settleDrive]; repeat' split
  all_goals (first | rfl | simp)
@[simp] theorem settleDrive_tel (s : State) : (settleDrive s).tel = s.tel := by
  simp only [settleDrive]; repeat' split
  all_goals (first | rfl | simp)
@[simp] theorem settleDrive_boot (s : State) : (settleDrive s).boot = s.boot := by
  simp only [settleDrive]; repeat' split
  all_goals (first | rfl | simp)
@[simp] theorem settleDrive_pending (s : State) : (settleDrive s).pending = s.pending := by
  simp only [settleDrive]; repeat' split
  all_goals (first | rfl | simp)
@[simp] theorem settleDrive_freeIdx (s : State) : (settleDrive s).freeIdx = s.freeIdx := by
  simp only [settleDrive]; repeat' split
  all_goals (first | rfl | simp)

@[simp] theorem idleStop_part (s : State) : (idleStop s).part = s.part := by
  simp only [idleStop]; repeat' split
  all_goals (first | rfl | simp)
@[simp] theorem idleStop_dieRevision (s : State) : (idleStop s).dieRevision = s.dieRevision := by
  simp only [idleStop]; repeat' split
  all_goals (first | rfl | simp)
@[simp] theorem idleStop_time (s : State) : (idleStop s).time = s.time := by
  simp only [idleStop]; repeat' split
  all_goals (first | rfl | simp)
@[simp] theorem idleStop_front (s : State) : (idleStop s).front = s.front := by
  simp only [idleStop]; repeat' split
  all_goals (first | rfl | simp)
@[simp] theorem idleStop_base (s : State) : (idleStop s).base = s.base := by
  simp only [idleStop]; repeat' split
  all_goals (first | rfl | simp)
@[simp] theorem idleStop_trk (s : State) : (idleStop s).trk = s.trk := by
  simp only [idleStop]; repeat' split
  all_goals (first | rfl | simp)
@[simp] theorem idleStop_casc (s : State) : (idleStop s).casc = s.casc := by
  simp only [idleStop]; repeat' split
  all_goals (first | rfl | simp)
@[simp] theorem idleStop_link (s : State) : (idleStop s).link = s.link := by
  simp only [idleStop]; repeat' split
  all_goals (first | rfl | simp)
@[simp] theorem idleStop_attn (s : State) : (idleStop s).attn = s.attn := by
  simp only [idleStop]; repeat' split
  all_goals (first | rfl | simp)
@[simp] theorem idleStop_cmd (s : State) : (idleStop s).cmd = s.cmd := by
  simp only [idleStop]; repeat' split
  all_goals (first | rfl | simp)
@[simp] theorem idleStop_report (s : State) : (idleStop s).report = s.report := by
  simp only [idleStop]; repeat' split
  all_goals (first | rfl | simp)
@[simp] theorem idleStop_image (s : State) : (idleStop s).image = s.image := by
  simp only [idleStop]; repeat' split
  all_goals (first | rfl | simp)
@[simp] theorem idleStop_record (s : State) : (idleStop s).record = s.record := by
  simp only [idleStop]; repeat' split
  all_goals (first | rfl | simp)
@[simp] theorem idleStop_bench (s : State) : (idleStop s).bench = s.bench := by
  simp only [idleStop]; repeat' split
  all_goals (first | rfl | simp)
@[simp] theorem idleStop_params (s : State) : (idleStop s).params = s.params := by
  simp only [idleStop]; repeat' split
  all_goals (first | rfl | simp)
@[simp] theorem idleStop_bus (s : State) : (idleStop s).bus = s.bus := by
  simp only [idleStop]; repeat' split
  all_goals (first | rfl | simp)
@[simp] theorem idleStop_mem (s : State) : (idleStop s).mem = s.mem := by
  simp only [idleStop]; repeat' split
  all_goals (first | rfl | simp)
@[simp] theorem idleStop_trust (s : State) : (idleStop s).trust = s.trust := by
  simp only [idleStop]; repeat' split
  all_goals (first | rfl | simp)
@[simp] theorem idleStop_tally (s : State) : (idleStop s).tally = s.tally := by
  simp only [idleStop]; repeat' split
  all_goals (first | rfl | simp)
@[simp] theorem idleStop_tel (s : State) : (idleStop s).tel = s.tel := by
  simp only [idleStop]; repeat' split
  all_goals (first | rfl | simp)
@[simp] theorem idleStop_boot (s : State) : (idleStop s).boot = s.boot := by
  simp only [idleStop]; repeat' split
  all_goals (first | rfl | simp)
@[simp] theorem idleStop_pending (s : State) : (idleStop s).pending = s.pending := by
  simp only [idleStop]; repeat' split
  all_goals (first | rfl | simp)
@[simp] theorem idleStop_freeIdx (s : State) : (idleStop s).freeIdx = s.freeIdx := by
  simp only [idleStop]; repeat' split
  all_goals (first | rfl | simp)

@[simp] theorem settleScan_part (s : State) : (settleScan s).part = s.part := by
  simp only [settleScan]; repeat' split
  all_goals (first | rfl | simp)
@[simp] theorem settleScan_dieRevision (s : State) : (settleScan s).dieRevision = s.dieRevision := by
  simp only [settleScan]; repeat' split
  all_goals (first | rfl | simp)
@[simp] theorem settleScan_time (s : State) : (settleScan s).time = s.time := by
  simp only [settleScan]; repeat' split
  all_goals (first | rfl | simp)
@[simp] theorem settleScan_base (s : State) : (settleScan s).base = s.base := by
  simp only [settleScan]; repeat' split
  all_goals (first | rfl | simp)
@[simp] theorem settleScan_link (s : State) : (settleScan s).link = s.link := by
  simp only [settleScan]; repeat' split
  all_goals (first | rfl | simp)
@[simp] theorem settleScan_cmd (s : State) : (settleScan s).cmd = s.cmd := by
  simp only [settleScan]; repeat' split
  all_goals (first | rfl | simp)
@[simp] theorem settleScan_image (s : State) : (settleScan s).image = s.image := by
  simp only [settleScan]; repeat' split
  all_goals (first | rfl | simp)
@[simp] theorem settleScan_record (s : State) : (settleScan s).record = s.record := by
  simp only [settleScan]; repeat' split
  all_goals (first | rfl | simp)
@[simp] theorem settleScan_params (s : State) : (settleScan s).params = s.params := by
  simp only [settleScan]; repeat' split
  all_goals (first | rfl | simp)
@[simp] theorem settleScan_bus (s : State) : (settleScan s).bus = s.bus := by
  simp only [settleScan]; repeat' split
  all_goals (first | rfl | simp)
@[simp] theorem settleScan_mem (s : State) : (settleScan s).mem = s.mem := by
  simp only [settleScan]; repeat' split
  all_goals (first | rfl | simp)
@[simp] theorem settleScan_trust (s : State) : (settleScan s).trust = s.trust := by
  simp only [settleScan]; repeat' split
  all_goals (first | rfl | simp)
@[simp] theorem settleScan_tally (s : State) : (settleScan s).tally = s.tally := by
  simp only [settleScan]; repeat' split
  all_goals (first | rfl | simp)
@[simp] theorem settleScan_boot (s : State) : (settleScan s).boot = s.boot := by
  simp only [settleScan]; repeat' split
  all_goals (first | rfl | simp)
@[simp] theorem settleScan_pending (s : State) : (settleScan s).pending = s.pending := by
  simp only [settleScan]; repeat' split
  all_goals (first | rfl | simp)
@[simp] theorem settleScan_freeIdx (s : State) : (settleScan s).freeIdx = s.freeIdx := by
  simp only [settleScan]; repeat' split
  all_goals (first | rfl | simp)

@[simp] theorem settleCheck_part (s : State) : (settleCheck s).part = s.part := by
  simp only [settleCheck]; repeat' split
  all_goals (first | rfl | simp)
@[simp] theorem settleCheck_dieRevision (s : State) : (settleCheck s).dieRevision = s.dieRevision := by
  simp only [settleCheck]; repeat' split
  all_goals (first | rfl | simp)
@[simp] theorem settleCheck_time (s : State) : (settleCheck s).time = s.time := by
  simp only [settleCheck]; repeat' split
  all_goals (first | rfl | simp)
@[simp] theorem settleCheck_front (s : State) : (settleCheck s).front = s.front := by
  simp only [settleCheck]; repeat' split
  all_goals (first | rfl | simp)
@[simp] theorem settleCheck_base (s : State) : (settleCheck s).base = s.base := by
  simp only [settleCheck]; repeat' split
  all_goals (first | rfl | simp)
@[simp] theorem settleCheck_casc (s : State) : (settleCheck s).casc = s.casc := by
  simp only [settleCheck]; repeat' split
  all_goals (first | rfl | simp)
@[simp] theorem settleCheck_link (s : State) : (settleCheck s).link = s.link := by
  simp only [settleCheck]; repeat' split
  all_goals (first | rfl | simp)
@[simp] theorem settleCheck_attn (s : State) : (settleCheck s).attn = s.attn := by
  simp only [settleCheck]; repeat' split
  all_goals (first | rfl | simp)
@[simp] theorem settleCheck_cmd (s : State) : (settleCheck s).cmd = s.cmd := by
  simp only [settleCheck]; repeat' split
  all_goals (first | rfl | simp)
@[simp] theorem settleCheck_image (s : State) : (settleCheck s).image = s.image := by
  simp only [settleCheck]; repeat' split
  all_goals (first | rfl | simp)
@[simp] theorem settleCheck_record (s : State) : (settleCheck s).record = s.record := by
  simp only [settleCheck]; repeat' split
  all_goals (first | rfl | simp)
@[simp] theorem settleCheck_bench (s : State) : (settleCheck s).bench = s.bench := by
  simp only [settleCheck]; repeat' split
  all_goals (first | rfl | simp)
@[simp] theorem settleCheck_params (s : State) : (settleCheck s).params = s.params := by
  simp only [settleCheck]; repeat' split
  all_goals (first | rfl | simp)
@[simp] theorem settleCheck_bus (s : State) : (settleCheck s).bus = s.bus := by
  simp only [settleCheck]; repeat' split
  all_goals (first | rfl | simp)
@[simp] theorem settleCheck_mem (s : State) : (settleCheck s).mem = s.mem := by
  simp only [settleCheck]; repeat' split
  all_goals (first | rfl | simp)
@[simp] theorem settleCheck_trust (s : State) : (settleCheck s).trust = s.trust := by
  simp only [settleCheck]; repeat' split
  all_goals (first | rfl | simp)
@[simp] theorem settleCheck_tally (s : State) : (settleCheck s).tally = s.tally := by
  simp only [settleCheck]; repeat' split
  all_goals (first | rfl | simp)
@[simp] theorem settleCheck_tel (s : State) : (settleCheck s).tel = s.tel := by
  simp only [settleCheck]; repeat' split
  all_goals (first | rfl | simp)
@[simp] theorem settleCheck_boot (s : State) : (settleCheck s).boot = s.boot := by
  simp only [settleCheck]; repeat' split
  all_goals (first | rfl | simp)
@[simp] theorem settleCheck_pending (s : State) : (settleCheck s).pending = s.pending := by
  simp only [settleCheck]; repeat' split
  all_goals (first | rfl | simp)
@[simp] theorem settleCheck_freeIdx (s : State) : (settleCheck s).freeIdx = s.freeIdx := by
  simp only [settleCheck]; repeat' split
  all_goals (first | rfl | simp)

@[simp] theorem settleSleep_part (s : State) : (settleSleep s).part = s.part := by
  simp only [settleSleep]; repeat' split
  all_goals (first | rfl | simp)
@[simp] theorem settleSleep_dieRevision (s : State) : (settleSleep s).dieRevision = s.dieRevision := by
  simp only [settleSleep]; repeat' split
  all_goals (first | rfl | simp)
@[simp] theorem settleSleep_time (s : State) : (settleSleep s).time = s.time := by
  simp only [settleSleep]; repeat' split
  all_goals (first | rfl | simp)
@[simp] theorem settleSleep_front (s : State) : (settleSleep s).front = s.front := by
  simp only [settleSleep]; repeat' split
  all_goals (first | rfl | simp)
@[simp] theorem settleSleep_base (s : State) : (settleSleep s).base = s.base := by
  simp only [settleSleep]; repeat' split
  all_goals (first | rfl | simp)
@[simp] theorem settleSleep_trk (s : State) : (settleSleep s).trk = s.trk := by
  simp only [settleSleep]; repeat' split
  all_goals (first | rfl | simp)
@[simp] theorem settleSleep_casc (s : State) : (settleSleep s).casc = s.casc := by
  simp only [settleSleep]; repeat' split
  all_goals (first | rfl | simp)
@[simp] theorem settleSleep_link (s : State) : (settleSleep s).link = s.link := by
  simp only [settleSleep]; repeat' split
  all_goals (first | rfl | simp)
@[simp] theorem settleSleep_attn (s : State) : (settleSleep s).attn = s.attn := by
  simp only [settleSleep]; repeat' split
  all_goals (first | rfl | simp)
@[simp] theorem settleSleep_cmd (s : State) : (settleSleep s).cmd = s.cmd := by
  simp only [settleSleep]; repeat' split
  all_goals (first | rfl | simp)
@[simp] theorem settleSleep_report (s : State) : (settleSleep s).report = s.report := by
  simp only [settleSleep]; repeat' split
  all_goals (first | rfl | simp)
@[simp] theorem settleSleep_image (s : State) : (settleSleep s).image = s.image := by
  simp only [settleSleep]; repeat' split
  all_goals (first | rfl | simp)
@[simp] theorem settleSleep_record (s : State) : (settleSleep s).record = s.record := by
  simp only [settleSleep]; repeat' split
  all_goals (first | rfl | simp)
@[simp] theorem settleSleep_bench (s : State) : (settleSleep s).bench = s.bench := by
  simp only [settleSleep]; repeat' split
  all_goals (first | rfl | simp)
@[simp] theorem settleSleep_params (s : State) : (settleSleep s).params = s.params := by
  simp only [settleSleep]; repeat' split
  all_goals (first | rfl | simp)
@[simp] theorem settleSleep_bus (s : State) : (settleSleep s).bus = s.bus := by
  simp only [settleSleep]; repeat' split
  all_goals (first | rfl | simp)
@[simp] theorem settleSleep_mem (s : State) : (settleSleep s).mem = s.mem := by
  simp only [settleSleep]; repeat' split
  all_goals (first | rfl | simp)
@[simp] theorem settleSleep_trust (s : State) : (settleSleep s).trust = s.trust := by
  simp only [settleSleep]; repeat' split
  all_goals (first | rfl | simp)
@[simp] theorem settleSleep_tally (s : State) : (settleSleep s).tally = s.tally := by
  simp only [settleSleep]; repeat' split
  all_goals (first | rfl | simp)
@[simp] theorem settleSleep_tel (s : State) : (settleSleep s).tel = s.tel := by
  simp only [settleSleep]; repeat' split
  all_goals (first | rfl | simp)
@[simp] theorem settleSleep_boot (s : State) : (settleSleep s).boot = s.boot := by
  simp only [settleSleep]; repeat' split
  all_goals (first | rfl | simp)
@[simp] theorem settleSleep_pending (s : State) : (settleSleep s).pending = s.pending := by
  simp only [settleSleep]; repeat' split
  all_goals (first | rfl | simp)
@[simp] theorem settleSleep_freeIdx (s : State) : (settleSleep s).freeIdx = s.freeIdx := by
  simp only [settleSleep]; repeat' split
  all_goals (first | rfl | simp)

@[simp] theorem dozeBarred_part (s : State) : (dozeBarred s).part = s.part := by
  simp only [dozeBarred]; repeat' split
  all_goals (first | rfl | simp)
@[simp] theorem dozeBarred_dieRevision (s : State) : (dozeBarred s).dieRevision = s.dieRevision := by
  simp only [dozeBarred]; repeat' split
  all_goals (first | rfl | simp)
@[simp] theorem dozeBarred_time (s : State) : (dozeBarred s).time = s.time := by
  simp only [dozeBarred]; repeat' split
  all_goals (first | rfl | simp)
@[simp] theorem dozeBarred_front (s : State) : (dozeBarred s).front = s.front := by
  simp only [dozeBarred]; repeat' split
  all_goals (first | rfl | simp)
@[simp] theorem dozeBarred_scan (s : State) : (dozeBarred s).scan = s.scan := by
  simp only [dozeBarred]; repeat' split
  all_goals (first | rfl | simp)
@[simp] theorem dozeBarred_plane (s : State) : (dozeBarred s).plane = s.plane := by
  simp only [dozeBarred]; repeat' split
  all_goals (first | rfl | simp)
@[simp] theorem dozeBarred_base (s : State) : (dozeBarred s).base = s.base := by
  simp only [dozeBarred]; repeat' split
  all_goals (first | rfl | simp)
@[simp] theorem dozeBarred_trk (s : State) : (dozeBarred s).trk = s.trk := by
  simp only [dozeBarred]; repeat' split
  all_goals (first | rfl | simp)
@[simp] theorem dozeBarred_casc (s : State) : (dozeBarred s).casc = s.casc := by
  simp only [dozeBarred]; repeat' split
  all_goals (first | rfl | simp)
@[simp] theorem dozeBarred_lvl (s : State) : (dozeBarred s).lvl = s.lvl := by
  simp only [dozeBarred]; repeat' split
  all_goals (first | rfl | simp)
@[simp] theorem dozeBarred_link (s : State) : (dozeBarred s).link = s.link := by
  simp only [dozeBarred]; repeat' split
  all_goals (first | rfl | simp)
@[simp] theorem dozeBarred_attn (s : State) : (dozeBarred s).attn = s.attn := by
  simp only [dozeBarred]; repeat' split
  all_goals (first | rfl | simp)
@[simp] theorem dozeBarred_cmd (s : State) : (dozeBarred s).cmd = s.cmd := by
  simp only [dozeBarred]; repeat' split
  all_goals (first | rfl | simp)
@[simp] theorem dozeBarred_report (s : State) : (dozeBarred s).report = s.report := by
  simp only [dozeBarred]; repeat' split
  all_goals (first | rfl | simp)
@[simp] theorem dozeBarred_image (s : State) : (dozeBarred s).image = s.image := by
  simp only [dozeBarred]; repeat' split
  all_goals (first | rfl | simp)
@[simp] theorem dozeBarred_record (s : State) : (dozeBarred s).record = s.record := by
  simp only [dozeBarred]; repeat' split
  all_goals (first | rfl | simp)
@[simp] theorem dozeBarred_bench (s : State) : (dozeBarred s).bench = s.bench := by
  simp only [dozeBarred]; repeat' split
  all_goals (first | rfl | simp)
@[simp] theorem dozeBarred_params (s : State) : (dozeBarred s).params = s.params := by
  simp only [dozeBarred]; repeat' split
  all_goals (first | rfl | simp)
@[simp] theorem dozeBarred_bus (s : State) : (dozeBarred s).bus = s.bus := by
  simp only [dozeBarred]; repeat' split
  all_goals (first | rfl | simp)
@[simp] theorem dozeBarred_mem (s : State) : (dozeBarred s).mem = s.mem := by
  simp only [dozeBarred]; repeat' split
  all_goals (first | rfl | simp)
@[simp] theorem dozeBarred_trust (s : State) : (dozeBarred s).trust = s.trust := by
  simp only [dozeBarred]; repeat' split
  all_goals (first | rfl | simp)
@[simp] theorem dozeBarred_tally (s : State) : (dozeBarred s).tally = s.tally := by
  simp only [dozeBarred]; repeat' split
  all_goals (first | rfl | simp)
@[simp] theorem dozeBarred_tel (s : State) : (dozeBarred s).tel = s.tel := by
  simp only [dozeBarred]; repeat' split
  all_goals (first | rfl | simp)
@[simp] theorem dozeBarred_boot (s : State) : (dozeBarred s).boot = s.boot := by
  simp only [dozeBarred]; repeat' split
  all_goals (first | rfl | simp)
@[simp] theorem dozeBarred_pending (s : State) : (dozeBarred s).pending = s.pending := by
  simp only [dozeBarred]; repeat' split
  all_goals (first | rfl | simp)
@[simp] theorem dozeBarred_freeIdx (s : State) : (dozeBarred s).freeIdx = s.freeIdx := by
  simp only [dozeBarred]; repeat' split
  all_goals (first | rfl | simp)

@[simp] theorem settleDoze_part (s : State) : (settleDoze s).part = s.part := by
  simp only [settleDoze]; repeat' split
  all_goals (first | rfl | simp)
@[simp] theorem settleDoze_dieRevision (s : State) : (settleDoze s).dieRevision = s.dieRevision := by
  simp only [settleDoze]; repeat' split
  all_goals (first | rfl | simp)
@[simp] theorem settleDoze_time (s : State) : (settleDoze s).time = s.time := by
  simp only [settleDoze]; repeat' split
  all_goals (first | rfl | simp)
@[simp] theorem settleDoze_plane (s : State) : (settleDoze s).plane = s.plane := by
  simp only [settleDoze]; repeat' split
  all_goals (first | rfl | simp)
@[simp] theorem settleDoze_base (s : State) : (settleDoze s).base = s.base := by
  simp only [settleDoze]; repeat' split
  all_goals (first | rfl | simp)
@[simp] theorem settleDoze_trk (s : State) : (settleDoze s).trk = s.trk := by
  simp only [settleDoze]; repeat' split
  all_goals (first | rfl | simp)
@[simp] theorem settleDoze_casc (s : State) : (settleDoze s).casc = s.casc := by
  simp only [settleDoze]; repeat' split
  all_goals (first | rfl | simp)
@[simp] theorem settleDoze_lvl (s : State) : (settleDoze s).lvl = s.lvl := by
  simp only [settleDoze]; repeat' split
  all_goals (first | rfl | simp)
@[simp] theorem settleDoze_link (s : State) : (settleDoze s).link = s.link := by
  simp only [settleDoze]; repeat' split
  all_goals (first | rfl | simp)
@[simp] theorem settleDoze_attn (s : State) : (settleDoze s).attn = s.attn := by
  simp only [settleDoze]; repeat' split
  all_goals (first | rfl | simp)
@[simp] theorem settleDoze_cmd (s : State) : (settleDoze s).cmd = s.cmd := by
  simp only [settleDoze]; repeat' split
  all_goals (first | rfl | simp)
@[simp] theorem settleDoze_report (s : State) : (settleDoze s).report = s.report := by
  simp only [settleDoze]; repeat' split
  all_goals (first | rfl | simp)
@[simp] theorem settleDoze_image (s : State) : (settleDoze s).image = s.image := by
  simp only [settleDoze]; repeat' split
  all_goals (first | rfl | simp)
@[simp] theorem settleDoze_record (s : State) : (settleDoze s).record = s.record := by
  simp only [settleDoze]; repeat' split
  all_goals (first | rfl | simp)
@[simp] theorem settleDoze_bench (s : State) : (settleDoze s).bench = s.bench := by
  simp only [settleDoze]; repeat' split
  all_goals (first | rfl | simp)
@[simp] theorem settleDoze_params (s : State) : (settleDoze s).params = s.params := by
  simp only [settleDoze]; repeat' split
  all_goals (first | rfl | simp)
@[simp] theorem settleDoze_bus (s : State) : (settleDoze s).bus = s.bus := by
  simp only [settleDoze]; repeat' split
  all_goals (first | rfl | simp)
@[simp] theorem settleDoze_mem (s : State) : (settleDoze s).mem = s.mem := by
  simp only [settleDoze]; repeat' split
  all_goals (first | rfl | simp)
@[simp] theorem settleDoze_trust (s : State) : (settleDoze s).trust = s.trust := by
  simp only [settleDoze]; repeat' split
  all_goals (first | rfl | simp)
@[simp] theorem settleDoze_tally (s : State) : (settleDoze s).tally = s.tally := by
  simp only [settleDoze]; repeat' split
  all_goals (first | rfl | simp)
@[simp] theorem settleDoze_tel (s : State) : (settleDoze s).tel = s.tel := by
  simp only [settleDoze]; repeat' split
  all_goals (first | rfl | simp)
@[simp] theorem settleDoze_boot (s : State) : (settleDoze s).boot = s.boot := by
  simp only [settleDoze]; repeat' split
  all_goals (first | rfl | simp)
@[simp] theorem settleDoze_pending (s : State) : (settleDoze s).pending = s.pending := by
  simp only [settleDoze]; repeat' split
  all_goals (first | rfl | simp)
@[simp] theorem settleDoze_freeIdx (s : State) : (settleDoze s).freeIdx = s.freeIdx := by
  simp only [settleDoze]; repeat' split
  all_goals (first | rfl | simp)

@[simp] theorem settleAttn_part (s : State) : (settleAttn s).part = s.part := by
  simp only [settleAttn, followAttn, synced]; repeat' split
  all_goals (first | rfl | simp)
@[simp] theorem settleAttn_dieRevision (s : State) : (settleAttn s).dieRevision = s.dieRevision := by
  simp only [settleAttn, followAttn, synced]; repeat' split
  all_goals (first | rfl | simp)
@[simp] theorem settleAttn_time (s : State) : (settleAttn s).time = s.time := by
  simp only [settleAttn, followAttn, synced]; repeat' split
  all_goals (first | rfl | simp)
@[simp] theorem settleAttn_front (s : State) : (settleAttn s).front = s.front := by
  simp only [settleAttn, followAttn, synced]; repeat' split
  all_goals (first | rfl | simp)
@[simp] theorem settleAttn_scan (s : State) : (settleAttn s).scan = s.scan := by
  simp only [settleAttn, followAttn, synced]; repeat' split
  all_goals (first | rfl | simp)
@[simp] theorem settleAttn_plane (s : State) : (settleAttn s).plane = s.plane := by
  simp only [settleAttn, followAttn, synced]; repeat' split
  all_goals (first | rfl | simp)
@[simp] theorem settleAttn_base (s : State) : (settleAttn s).base = s.base := by
  simp only [settleAttn, followAttn, synced]; repeat' split
  all_goals (first | rfl | simp)
@[simp] theorem settleAttn_trk (s : State) : (settleAttn s).trk = s.trk := by
  simp only [settleAttn, followAttn, synced]; repeat' split
  all_goals (first | rfl | simp)
@[simp] theorem settleAttn_pwr (s : State) : (settleAttn s).pwr = s.pwr := by
  simp only [settleAttn, followAttn, synced]; repeat' split
  all_goals (first | rfl | simp)
@[simp] theorem settleAttn_casc (s : State) : (settleAttn s).casc = s.casc := by
  simp only [settleAttn, followAttn, synced]; repeat' split
  all_goals (first | rfl | simp)
@[simp] theorem settleAttn_lvl (s : State) : (settleAttn s).lvl = s.lvl := by
  simp only [settleAttn, followAttn, synced]; repeat' split
  all_goals (first | rfl | simp)
@[simp] theorem settleAttn_link (s : State) : (settleAttn s).link = s.link := by
  simp only [settleAttn, followAttn, synced]; repeat' split
  all_goals (first | rfl | simp)
@[simp] theorem settleAttn_cmd (s : State) : (settleAttn s).cmd = s.cmd := by
  simp only [settleAttn, followAttn, synced]; repeat' split
  all_goals (first | rfl | simp)
@[simp] theorem settleAttn_report (s : State) : (settleAttn s).report = s.report := by
  simp only [settleAttn, followAttn, synced]; repeat' split
  all_goals (first | rfl | simp)
@[simp] theorem settleAttn_image (s : State) : (settleAttn s).image = s.image := by
  simp only [settleAttn, followAttn, synced]; repeat' split
  all_goals (first | rfl | simp)
@[simp] theorem settleAttn_record (s : State) : (settleAttn s).record = s.record := by
  simp only [settleAttn, followAttn, synced]; repeat' split
  all_goals (first | rfl | simp)
@[simp] theorem settleAttn_bench (s : State) : (settleAttn s).bench = s.bench := by
  simp only [settleAttn, followAttn, synced]; repeat' split
  all_goals (first | rfl | simp)
@[simp] theorem settleAttn_params (s : State) : (settleAttn s).params = s.params := by
  simp only [settleAttn, followAttn, synced]; repeat' split
  all_goals (first | rfl | simp)
@[simp] theorem settleAttn_bus (s : State) : (settleAttn s).bus = s.bus := by
  simp only [settleAttn, followAttn, synced]; repeat' split
  all_goals (first | rfl | simp)
@[simp] theorem settleAttn_mem (s : State) : (settleAttn s).mem = s.mem := by
  simp only [settleAttn, followAttn, synced]; repeat' split
  all_goals (first | rfl | simp)
@[simp] theorem settleAttn_trust (s : State) : (settleAttn s).trust = s.trust := by
  simp only [settleAttn, followAttn, synced]; repeat' split
  all_goals (first | rfl | simp)
@[simp] theorem settleAttn_tally (s : State) : (settleAttn s).tally = s.tally := by
  simp only [settleAttn, followAttn, synced]; repeat' split
  all_goals (first | rfl | simp)
@[simp] theorem settleAttn_tel (s : State) : (settleAttn s).tel = s.tel := by
  simp only [settleAttn, followAttn, synced]; repeat' split
  all_goals (first | rfl | simp)
@[simp] theorem settleAttn_boot (s : State) : (settleAttn s).boot = s.boot := by
  simp only [settleAttn, followAttn, synced]; repeat' split
  all_goals (first | rfl | simp)
@[simp] theorem settleAttn_pending (s : State) : (settleAttn s).pending = s.pending := by
  simp only [settleAttn, followAttn, synced]; repeat' split
  all_goals (first | rfl | simp)
@[simp] theorem settleAttn_freeIdx (s : State) : (settleAttn s).freeIdx = s.freeIdx := by
  simp only [settleAttn, followAttn, synced]; repeat' split
  all_goals (first | rfl | simp)

@[simp] theorem settleOut_part (s : State) : (settleOut s).part = s.part := rfl
@[simp] theorem settleOut_dieRevision (s : State) : (settleOut s).dieRevision = s.dieRevision := rfl
@[simp] theorem settleOut_time (s : State) : (settleOut s).time = s.time := rfl
@[simp] theorem settleOut_front (s : State) : (settleOut s).front = s.front := rfl
@[simp] theorem settleOut_scan (s : State) : (settleOut s).scan = s.scan := rfl
@[simp] theorem settleOut_plane (s : State) : (settleOut s).plane = s.plane := rfl
@[simp] theorem settleOut_base (s : State) : (settleOut s).base = s.base := rfl
@[simp] theorem settleOut_trk (s : State) : (settleOut s).trk = s.trk := rfl
@[simp] theorem settleOut_pwr (s : State) : (settleOut s).pwr = s.pwr := rfl
@[simp] theorem settleOut_lvl (s : State) : (settleOut s).lvl = s.lvl := rfl
@[simp] theorem settleOut_link (s : State) : (settleOut s).link = s.link := rfl
@[simp] theorem settleOut_attn (s : State) : (settleOut s).attn = s.attn := rfl
@[simp] theorem settleOut_cmd (s : State) : (settleOut s).cmd = s.cmd := rfl
@[simp] theorem settleOut_report (s : State) : (settleOut s).report = s.report := rfl
@[simp] theorem settleOut_image (s : State) : (settleOut s).image = s.image := rfl
@[simp] theorem settleOut_record (s : State) : (settleOut s).record = s.record := rfl
@[simp] theorem settleOut_bench (s : State) : (settleOut s).bench = s.bench := rfl
@[simp] theorem settleOut_params (s : State) : (settleOut s).params = s.params := rfl
@[simp] theorem settleOut_bus (s : State) : (settleOut s).bus = s.bus := rfl
@[simp] theorem settleOut_mem (s : State) : (settleOut s).mem = s.mem := rfl
@[simp] theorem settleOut_trust (s : State) : (settleOut s).trust = s.trust := rfl
@[simp] theorem settleOut_tally (s : State) : (settleOut s).tally = s.tally := rfl
@[simp] theorem settleOut_tel (s : State) : (settleOut s).tel = s.tel := rfl
@[simp] theorem settleOut_boot (s : State) : (settleOut s).boot = s.boot := rfl
@[simp] theorem settleOut_pending (s : State) : (settleOut s).pending = s.pending := rfl
@[simp] theorem settleOut_freeIdx (s : State) : (settleOut s).freeIdx = s.freeIdx := rfl

@[simp] theorem startEnum_part (s : State) : (startEnum s).part = s.part := by simp [startEnum]
@[simp] theorem startEnum_dieRevision (s : State) : (startEnum s).dieRevision = s.dieRevision := by simp [startEnum]
@[simp] theorem startEnum_time (s : State) : (startEnum s).time = s.time := by simp [startEnum]
@[simp] theorem startEnum_front (s : State) : (startEnum s).front = s.front := by simp [startEnum]
@[simp] theorem startEnum_scan (s : State) : (startEnum s).scan = s.scan := by simp [startEnum]
@[simp] theorem startEnum_plane (s : State) : (startEnum s).plane = s.plane := by simp [startEnum]
@[simp] theorem startEnum_base (s : State) : (startEnum s).base = s.base := by simp [startEnum]
@[simp] theorem startEnum_trk (s : State) : (startEnum s).trk = s.trk := by simp [startEnum]
@[simp] theorem startEnum_pwr (s : State) : (startEnum s).pwr = s.pwr := by simp [startEnum]
@[simp] theorem startEnum_lvl (s : State) : (startEnum s).lvl = s.lvl := by simp [startEnum]
@[simp] theorem startEnum_link (s : State) : (startEnum s).link = s.link := by simp [startEnum]
@[simp] theorem startEnum_attn (s : State) : (startEnum s).attn = s.attn := by simp [startEnum]
@[simp] theorem startEnum_cmd (s : State) : (startEnum s).cmd = s.cmd := by simp [startEnum]
@[simp] theorem startEnum_report (s : State) : (startEnum s).report = s.report := by simp [startEnum]
@[simp] theorem startEnum_image (s : State) : (startEnum s).image = s.image := by simp [startEnum]
@[simp] theorem startEnum_record (s : State) : (startEnum s).record = s.record := by simp [startEnum]
@[simp] theorem startEnum_bench (s : State) : (startEnum s).bench = s.bench := by simp [startEnum]
@[simp] theorem startEnum_params (s : State) : (startEnum s).params = s.params := by simp [startEnum]
@[simp] theorem startEnum_bus (s : State) : (startEnum s).bus = s.bus := by simp [startEnum]
@[simp] theorem startEnum_mem (s : State) : (startEnum s).mem = s.mem := by simp [startEnum]
@[simp] theorem startEnum_trust (s : State) : (startEnum s).trust = s.trust := by simp [startEnum]
@[simp] theorem startEnum_tally (s : State) : (startEnum s).tally = s.tally := by simp [startEnum]
@[simp] theorem startEnum_boot (s : State) : (startEnum s).boot = s.boot := by simp [startEnum]
@[simp] theorem startEnum_pending (s : State) : (startEnum s).pending = s.pending := by simp [startEnum]
@[simp] theorem startEnum_freeIdx (s : State) : (startEnum s).freeIdx = s.freeIdx := by simp [startEnum]

@[simp] theorem settleRedo_part (s : State) : (settleRedo s).part = s.part := by
  simp only [settleRedo]; repeat' split
  all_goals (first | rfl | simp)
@[simp] theorem settleRedo_dieRevision (s : State) : (settleRedo s).dieRevision = s.dieRevision := by
  simp only [settleRedo]; repeat' split
  all_goals (first | rfl | simp)
@[simp] theorem settleRedo_time (s : State) : (settleRedo s).time = s.time := by
  simp only [settleRedo]; repeat' split
  all_goals (first | rfl | simp)
@[simp] theorem settleRedo_front (s : State) : (settleRedo s).front = s.front := by
  simp only [settleRedo]; repeat' split
  all_goals (first | rfl | simp)
@[simp] theorem settleRedo_scan (s : State) : (settleRedo s).scan = s.scan := by
  simp only [settleRedo]; repeat' split
  all_goals (first | rfl | simp)
@[simp] theorem settleRedo_plane (s : State) : (settleRedo s).plane = s.plane := by
  simp only [settleRedo]; repeat' split
  all_goals (first | rfl | simp)
@[simp] theorem settleRedo_base (s : State) : (settleRedo s).base = s.base := by
  simp only [settleRedo]; repeat' split
  all_goals (first | rfl | simp)
@[simp] theorem settleRedo_trk (s : State) : (settleRedo s).trk = s.trk := by
  simp only [settleRedo]; repeat' split
  all_goals (first | rfl | simp)
@[simp] theorem settleRedo_pwr (s : State) : (settleRedo s).pwr = s.pwr := by
  simp only [settleRedo]; repeat' split
  all_goals (first | rfl | simp)
@[simp] theorem settleRedo_lvl (s : State) : (settleRedo s).lvl = s.lvl := by
  simp only [settleRedo]; repeat' split
  all_goals (first | rfl | simp)
@[simp] theorem settleRedo_link (s : State) : (settleRedo s).link = s.link := by
  simp only [settleRedo]; repeat' split
  all_goals (first | rfl | simp)
@[simp] theorem settleRedo_attn (s : State) : (settleRedo s).attn = s.attn := by
  simp only [settleRedo]; repeat' split
  all_goals (first | rfl | simp)
@[simp] theorem settleRedo_cmd (s : State) : (settleRedo s).cmd = s.cmd := by
  simp only [settleRedo]; repeat' split
  all_goals (first | rfl | simp)
@[simp] theorem settleRedo_report (s : State) : (settleRedo s).report = s.report := by
  simp only [settleRedo]; repeat' split
  all_goals (first | rfl | simp)
@[simp] theorem settleRedo_image (s : State) : (settleRedo s).image = s.image := by
  simp only [settleRedo]; repeat' split
  all_goals (first | rfl | simp)
@[simp] theorem settleRedo_record (s : State) : (settleRedo s).record = s.record := by
  simp only [settleRedo]; repeat' split
  all_goals (first | rfl | simp)
@[simp] theorem settleRedo_bench (s : State) : (settleRedo s).bench = s.bench := by
  simp only [settleRedo]; repeat' split
  all_goals (first | rfl | simp)
@[simp] theorem settleRedo_params (s : State) : (settleRedo s).params = s.params := by
  simp only [settleRedo]; repeat' split
  all_goals (first | rfl | simp)
@[simp] theorem settleRedo_bus (s : State) : (settleRedo s).bus = s.bus := by
  simp only [settleRedo]; repeat' split
  all_goals (first | rfl | simp)
@[simp] theorem settleRedo_mem (s : State) : (settleRedo s).mem = s.mem := by
  simp only [settleRedo]; repeat' split
  all_goals (first | rfl | simp)
@[simp] theorem settleRedo_trust (s : State) : (settleRedo s).trust = s.trust := by
  simp only [settleRedo]; repeat' split
  all_goals (first | rfl | simp)
@[simp] theorem settleRedo_tally (s : State) : (settleRedo s).tally = s.tally := by
  simp only [settleRedo]; repeat' split
  all_goals (first | rfl | simp)
@[simp] theorem settleRedo_boot (s : State) : (settleRedo s).boot = s.boot := by
  simp only [settleRedo]; repeat' split
  all_goals (first | rfl | simp)
@[simp] theorem settleRedo_pending (s : State) : (settleRedo s).pending = s.pending := by
  simp only [settleRedo]; repeat' split
  all_goals (first | rfl | simp)
@[simp] theorem settleRedo_freeIdx (s : State) : (settleRedo s).freeIdx = s.freeIdx := by
  simp only [settleRedo]; repeat' split
  all_goals (first | rfl | simp)

@[simp] theorem settle_part (s : State) : (settle s).part = s.part := by simp [settle]
@[simp] theorem settle_dieRevision (s : State) : (settle s).dieRevision = s.dieRevision := by simp [settle]
@[simp] theorem settle_time (s : State) : (settle s).time = s.time := by simp [settle]
@[simp] theorem settle_base (s : State) : (settle s).base = s.base := by simp [settle]
@[simp] theorem settle_link (s : State) : (settle s).link = s.link := by simp [settle]
@[simp] theorem settle_cmd (s : State) : (settle s).cmd = s.cmd := by simp [settle]
@[simp] theorem settle_image (s : State) : (settle s).image = s.image := by simp [settle]
@[simp] theorem settle_record (s : State) : (settle s).record = s.record := by simp [settle]
@[simp] theorem settle_params (s : State) : (settle s).params = s.params := by simp [settle]
@[simp] theorem settle_bus (s : State) : (settle s).bus = s.bus := by simp [settle]
@[simp] theorem settle_mem (s : State) : (settle s).mem = s.mem := by simp [settle]
@[simp] theorem settle_trust (s : State) : (settle s).trust = s.trust := by simp [settle]
@[simp] theorem settle_tally (s : State) : (settle s).tally = s.tally := by simp [settle]
@[simp] theorem settle_boot (s : State) : (settle s).boot = s.boot := by simp [settle]
@[simp] theorem settle_pending (s : State) : (settle s).pending = s.pending := by simp [settle]
@[simp] theorem settle_freeIdx (s : State) : (settle s).freeIdx = s.freeIdx := by simp [settle]

end Sys2Proof.Machine
end

