-- ==== Sys2Proof/Laws/Settle.lean ====
section
/-! SUPPORT. What follows every command: the end of scanning and what it sets off, then the attention controller;
the shape of every answer. -/

namespace Sys2Proof.Machine

/-! ## Bits -/

theorem getLsbD_setBit {w : Nat} (v : BitVec w) (i j : Nat) (b : Bool) (hi : i < w) :
    (setBit v i b).getLsbD j = if j = i then b else v.getLsbD j := by
  unfold setBit
  by_cases hj : j = i
  · subst hj; cases b <;> simp [hi]
  · cases b
    · by_cases h : j < w
      · simp [hj, h]; intro; omega
      · simp [hj, h, BitVec.getLsbD_of_ge v j (by omega)]
    · simp [hj]; intro _ h; omega

theorem getElem_setBit {w : Nat} (v : BitVec w) (i j : Nat) (b : Bool) (hi : i < w) (hj : j < w) :
    (setBit v i b)[j] = if j = i then b else v[j] := by
  have h := getLsbD_setBit v i j b hi
  simpa only [BitVec.getLsbD_eq_getElem hj] using h

/-! ## The attention controller -/

@[simp] theorem levelCond_attn (s : State) (a : Attn) (src : Nat) : levelCond { s with attn := a } src = levelCond s src := by
  unfold levelCond State.lineFault State.tbFault; split <;> rfl

/-- A level source's active bit follows its condition, and other sources keep theirs. -/
theorem syncLevel_active (s : State) (i src j : Nat) (a : Attn) (h : src < 25) :
    (syncLevel s i src a).active.getLsbD j = if j = src then levelCond s src else a.active.getLsbD j := by
  unfold syncLevel
  dsimp only
  repeat' split
  all_goals simp_all [getLsbD_setBit, getElem_setBit]

/-- An acknowledgement goes with its condition, and other sources keep theirs. -/
theorem syncLevel_acked (s : State) (i src j : Nat) (a : Attn) (h : src < 25) :
    (syncLevel s i src a).acked.getLsbD j =
      if j = src then a.acked.getLsbD src && levelCond s src else a.acked.getLsbD j := by
  unfold syncLevel
  dsimp only
  repeat' split
  all_goals simp_all [getLsbD_setBit, getElem_setBit]

/-- What the level sources leave of the attention registers. -/
theorem syncLevel_keeps (s : State) (i src : Nat) (a : Attn) :
    (syncLevel s i src a).enable = a.enable ∧ (syncLevel s i src a).global = a.global ∧
    (syncLevel s i src a).base = a.base ∧ (syncLevel s i src a).stride = a.stride ∧
    (syncLevel s i src a).wakeGroups = a.wakeGroups ∧ (syncLevel s i src a).groups = a.groups ∧
    (syncLevel s i src a).inService = a.inService ∧ (syncLevel s i src a).vector = a.vector ∧
    (syncLevel s i src a).wake = a.wake ∧ (syncLevel s i src a).wakeDue = a.wakeDue ∧
    (syncLevel s i src a).wakeSet = a.wakeSet ∧ (syncLevel s i src a).attnN = a.attnN := by
  unfold syncLevel
  dsimp only
  repeat' split
  all_goals simp

/-- The level sources one after the other. -/
theorem syncLevels_eq (s : State) :
    syncLevels s = syncLevel s 5 18 (syncLevel s 4 17 (syncLevel s 3 15 (syncLevel s 2 14 (syncLevel s 1 11
      (syncLevel s 0 9 s.attn))))) := rfl

/-- Every level source is active exactly while its condition is met. -/
theorem syncLevels_active (s : State) (src : Nat) (h : src ∈ levelSources) :
    (syncLevels s).active.getLsbD src = levelCond s src := by
  simp only [levelSources, List.mem_cons, List.not_mem_nil, or_false] at h
  rw [syncLevels_eq]
  rcases h with rfl | rfl | rfl | rfl | rfl | rfl <;>
    simp (disch := decide) only [syncLevel_active, Nat.reduceEqDiff, if_true, if_false]

/-- Only an active level source is acknowledged. -/
theorem syncLevels_acked (s : State) (src : Nat) (h : src ∈ levelSources)
    (ha : (syncLevels s).acked.getLsbD src = true) : (syncLevels s).active.getLsbD src = true := by
  rw [syncLevels_active s src h]
  simp only [levelSources, List.mem_cons, List.not_mem_nil, or_false] at h
  rw [syncLevels_eq] at ha
  rcases h with rfl | rfl | rfl | rfl | rfl | rfl <;>
    simp (disch := decide) only [syncLevel_acked, Nat.reduceEqDiff, if_true, if_false, Bool.and_eq_true] at ha <;> exact ha.2

/-- Other sources' active bits are as before. -/
theorem syncLevels_active_other (s : State) (src : Nat) (h : src ∉ levelSources) :
    (syncLevels s).active.getLsbD src = s.attn.active.getLsbD src := by
  simp only [levelSources, List.mem_cons, List.not_mem_nil, or_false, not_or] at h
  rw [syncLevels_eq]
  simp (disch := decide) only [syncLevel_active, h, if_false]

/-- The registers that the level sources leave as they are. -/
theorem syncLevels_keeps (s : State) :
    (syncLevels s).enable = s.attn.enable ∧ (syncLevels s).global = s.attn.global ∧
    (syncLevels s).base = s.attn.base ∧ (syncLevels s).stride = s.attn.stride ∧
    (syncLevels s).wakeGroups = s.attn.wakeGroups ∧ (syncLevels s).groups = s.attn.groups ∧
    (syncLevels s).inService = s.attn.inService ∧ (syncLevels s).vector = s.attn.vector ∧
    (syncLevels s).wake = s.attn.wake ∧ (syncLevels s).wakeDue = s.attn.wakeDue ∧
    (syncLevels s).wakeSet = s.attn.wakeSet ∧ (syncLevels s).attnN = s.attn.attnN := by
  rw [syncLevels_eq]
  simp [syncLevel_keeps]

/-- A level source that follows its condition already is left as it is. -/
theorem syncLevel_follows (s : State) (i src : Nat) (a : Attn) (hs : src < 25) (h : a.active.getLsbD src = levelCond s src)
    (hk : a.acked.getLsbD src = true → a.active.getLsbD src = true) : syncLevel s i src a = a := by
  unfold syncLevel
  dsimp only
  cases hc : levelCond s src
  · rw [hc] at h
    have ha : a.acked.getLsbD src = false := by
      cases e : a.acked.getLsbD src
      · rfl
      · rw [hk e] at h; cases h
    have : setBit a.acked src false = a.acked := by
      apply BitVec.eq_of_getLsbD_eq
      intro j hj
      rw [getLsbD_setBit _ _ _ _ hs]; split
      · next e => subst e; exact ha.symm
      · rfl
    simp [h, this]
  · rw [hc] at h; simp [h]

/-- Level sources that follow their conditions already are left as they are. -/
theorem syncLevels_follow (s : State) (h : ∀ src ∈ levelSources, s.attn.active.getLsbD src = levelCond s src ∧
    (s.attn.acked.getLsbD src = true → s.attn.active.getLsbD src = true)) : syncLevels s = s.attn := by
  have e : ∀ i src, src ∈ levelSources → syncLevel s i src s.attn = s.attn :=
    fun i src hs => syncLevel_follows s i src s.attn (by revert src; decide) (h src hs).1 (h src hs).2
  rw [syncLevels_eq, e 0 9 (by decide), e 1 11 (by decide), e 2 14 (by decide), e 3 15 (by decide), e 4 17 (by decide),
    e 5 18 (by decide)]

/-! ## What follows every command -/

/-- A WAKE pulse called for touches the attention registers alone. -/
theorem wakeAsk_eq (c g : Nat) (s : State) : wakeAsk c g s = { s with attn := (wakeAsk c g s).attn } := by
  unfold wakeAsk; repeat' split
  all_goals rfl

/-- The attention controller touches the attention registers alone. -/
theorem settleAttn_eq (s : State) : settleAttn s = { s with attn := (settleAttn s).attn } := by
  have h : ∀ u : State, u.part = s.part → u.dieRevision = s.dieRevision → u.time = s.time → u.front = s.front →
      u.scan = s.scan → u.plane = s.plane → u.base = s.base → u.trk = s.trk → u.pwr = s.pwr → u.casc = s.casc →
      u.lvl = s.lvl → u.link = s.link → u.cmd = s.cmd → u.report = s.report → u.image = s.image →
      u.record = s.record → u.bench = s.bench → u.params = s.params → u.bus = s.bus → u.mem = s.mem →
      u.trust = s.trust → u.tally = s.tally → u.tel = s.tel → u.boot = s.boot → u.pending = s.pending →
      u.freeIdx = s.freeIdx → u = { s with attn := u.attn } := by
    intro u; cases u; cases s; intros; subst_vars; rfl
  apply h <;> simp

/-- ATTN_N and WAKE: what follows the level sources. -/
theorem followAttn_attn (s : State) : (followAttn s).attn =
    { s.attn with attnN := drivesAttn s && !(deliverables s).isEmpty, wakeSet := worthyNow s
                  wakeDue := (followAttn s).attn.wakeDue } := by
  unfold followAttn wakeAsk; repeat' split
  all_goals rfl

/-- Level sources that follow their conditions already leave ATTN_N and WAKE alone to settle. -/
theorem settleAttn_follow (s : State) (ho : s.attnOn = true) (h : LevelsFollow s) : settleAttn s = followAttn s := by
  have e : synced s = s := by
    unfold synced; rw [if_pos ho, syncLevels_follow s (h ho)]
  rw [settleAttn, e]

/-- With no transition waiting, a command is followed by the attention controller alone. -/
theorem settle_calm (s : State) (h : s.calm) :
    settle s = { s with attn := (settleAttn s).attn, casc := (settleOut s).casc } := by
  obtain ⟨h1, h0, h2, h3, h4, h5, h6⟩ := h
  have e0 : settleDrive s = s := by simp [settleDrive, h0]
  have e1 : settleScan s = s := by simp [settleScan, idleStop, entryReply, h1, h2]
  have e2 : settleCheck s = s := by simp [settleCheck, h4]
  have e3 : settleSleep s = s := by simp [settleSleep, h5]
  have e4 : settleDoze s = s := by simp [settleDoze, h3]
  have e5 : settleRedo s = s := by simp [settleRedo, h6]
  rw [settle, e0, e1, e2, e3, e4, e5, settleAttn_eq]
  rfl

@[simp] theorem settle_calm_front (s : State) (h : s.calm) : (settle s).front = s.front := by rw [settle_calm s h]
@[simp] theorem settle_calm_scan (s : State) (h : s.calm) : (settle s).scan = s.scan := by rw [settle_calm s h]
@[simp] theorem settle_calm_plane (s : State) (h : s.calm) : (settle s).plane = s.plane := by rw [settle_calm s h]
@[simp] theorem settle_calm_trk (s : State) (h : s.calm) : (settle s).trk = s.trk := by rw [settle_calm s h]
@[simp] theorem settle_calm_pwr (s : State) (h : s.calm) : (settle s).pwr = s.pwr := by rw [settle_calm s h]
@[simp] theorem settle_calm_lvl (s : State) (h : s.calm) : (settle s).lvl = s.lvl := by rw [settle_calm s h]
@[simp] theorem settle_calm_report (s : State) (h : s.calm) : (settle s).report = s.report := by rw [settle_calm s h]
@[simp] theorem settle_calm_bench (s : State) (h : s.calm) : (settle s).bench = s.bench := by rw [settle_calm s h]
@[simp] theorem settle_calm_tel (s : State) (h : s.calm) : (settle s).tel = s.tel := by rw [settle_calm s h]

/-- Nothing leaves by the Tenon ports of what the command did not hand over. -/
theorem settle_calm_casc (s : State) (h : s.calm) (ho : s.casc.out = []) : (settle s).casc = s.casc := by
  rw [settle_calm s h]
  have e : (settleOut s).casc = { s.casc with out := [] } := by simp only [settleOut, ho]; rfl
  rw [e, ← ho]

/-- The seal bears on no transition. -/
@[simp] theorem sealed_calm (s t : State) : (sealed s t).calm ↔ t.calm := Iff.rfl

/-- It bears on no level source. -/
@[simp] theorem sealed_follows (s t : State) : LevelsFollow (sealed s t) ↔ LevelsFollow t := Iff.rfl
@[simp] theorem sealed_attnOn (s t : State) : (sealed s t).attnOn = t.attnOn := rfl
@[simp] theorem State.entered_follows (s : State) (tk : Tick) : LevelsFollow (s.entered tk) ↔ LevelsFollow s := by
  unfold State.entered State.atTick; split <;> exact Iff.rfl
@[simp] theorem State.entered_attnOn (s : State) (tk : Tick) : (s.entered tk).attnOn = s.attnOn := by
  unfold State.entered State.atTick; split <;> rfl

/-- Nor does the instant. -/
@[simp] theorem State.entered_calm (s : State) (tk : Tick) : (s.entered tk).calm ↔ s.calm := by
  unfold State.entered State.atTick; split <;> exact Iff.rfl

/-- While PD1 is off the attention registers but for acknowledgements stay. -/
theorem acksEnded_eq (s : State) : acksEnded s = { s.attn with acked := (acksEnded s).acked } := by
  have h : ∀ (l : List Nat) (a b : Attn), a = { b with acked := a.acked } →
      (l.foldl (fun (a : Attn) src => if levelCond s src then a else { a with acked := setBit a.acked src false }) a) =
        { b with acked := (l.foldl (fun (a : Attn) src =>
          if levelCond s src then a else { a with acked := setBit a.acked src false }) a).acked } := by
    intro l
    induction l with
    | nil => intro a b h; exact h
    | cons x r ih =>
      intro a b h
      rw [List.foldl_cons]
      apply ih
      split
      · exact h
      · rw [h]
  exact h levelSources s.attn s.attn rfl

/-- What settling leaves of the attention registers, with no transition waiting. -/
theorem settle_calm_attn (s : State) (h : s.calm) :
    (settle s).attn.enable = s.attn.enable ∧ (settle s).attn.global = s.attn.global ∧
    (settle s).attn.base = s.attn.base ∧ (settle s).attn.stride = s.attn.stride ∧
    (settle s).attn.wakeGroups = s.attn.wakeGroups ∧ (settle s).attn.groups = s.attn.groups ∧
    (settle s).attn.inService = s.attn.inService ∧ (settle s).attn.vector = s.attn.vector ∧
    (settle s).attn.wake = s.attn.wake := by
  rw [settle_calm s h]
  show (settleAttn s).attn.enable = _ ∧ _
  rw [settleAttn, followAttn_attn]
  have hk := syncLevels_keeps s
  have he := acksEnded_eq s
  simp only [synced]
  split
  · exact ⟨hk.1, hk.2.1, hk.2.2.1, hk.2.2.2.1, hk.2.2.2.2.1, hk.2.2.2.2.2.1, hk.2.2.2.2.2.2.1, hk.2.2.2.2.2.2.2.1,
      hk.2.2.2.2.2.2.2.2.1⟩
  · rw [he]; simp

/-- The attention registers of a settled state whose level sources followed their conditions already. -/
theorem settle_follow_attn (s : State) (h : s.calm) (ho : s.attnOn = true) (hl : LevelsFollow s) :
    ∃ n w d, (settle s).attn = { s.attn with attnN := n, wakeSet := w, wakeDue := d } := by
  rw [settle_calm s h]
  exact ⟨_, _, _, by show (settleAttn s).attn = _; rw [settleAttn_follow s ho hl]; exact followAttn_attn s⟩

/-! ## Frames -/

theorem Comp.same_refl (c : Comp) (s : State) : c.same s s := by cases c <;> rfl

theorem Comp.same_trans {c : Comp} {s t u : State} (h : c.same s t) (h' : c.same t u) : c.same s u := by
  cases c <;> exact Eq.trans h' h

/-- A frame with fewer components is one with more. -/
theorem keepsBut_mono {cs ds : List Comp} {s t : State} (h : KeepsBut cs s t) (hd : ∀ c ∈ cs, c ∈ ds) : KeepsBut ds s t :=
  fun c hn => h c fun hc => hn (hd c hc)

/-- Frames follow one another. -/
theorem keepsBut_trans {cs : List Comp} {s t u : State} (h : KeepsBut cs s t) (h' : KeepsBut cs t u) : KeepsBut cs s u :=
  fun c hn => Comp.same_trans (h c hn) (h' c hn)

/-- A command's frame after it has settled, with no transition waiting; `u` is the state in which it ran. -/
theorem keepsBut_settle {cs : List Comp} {s u w : State} (hc : w.calm) (hu : u.part = s.part ∧ u.dieRevision = s.dieRevision ∧
    u.pending = s.pending ∧ u.casc.out = []) (hw : .casc ∉ cs → w.casc = u.casc)
    (h : KeepsBut (.part :: .dieRevision :: .pending :: .casc :: cs) u w) (ha : .attn ∈ cs) :
    KeepsBut cs u (settle (sealed s w)) := by
  intro c hn
  by_cases h1 : c = .part; · subst h1; simp [Comp.same, hu]
  by_cases h2 : c = .dieRevision; · subst h2; simp [Comp.same, hu]
  by_cases h3 : c = .pending; · subst h3; simp [Comp.same, hu]
  by_cases h4 : c = .casc
  · subst h4
    simp only [Comp.same]
    rw [settle_calm_casc _ (by simpa using hc) (by simp [hw hn, hu])]
    simpa using hw hn
  · have := h c (by simp [*])
    cases c <;> simp_all [Comp.same]

end Sys2Proof.Machine
end

