-- ==== Sys2Proof/Laws/Exec.lean ====
section
/-! SUPPORT. Each command's meaning, and the shape of every command's answer: a settled state of the same part with the same
queue, but for the one command that stops. -/

namespace Sys2Proof.Machine

/-! ## Dispatch, arm by arm -/

@[simp] theorem exec_readReg (tk : Tick) (addr : BitVec 16) (words : Nat) (ext : Extent) (s : State) : exec (.readReg tk addr words ext) s = execReadReg tk addr words ext s := rfl
@[simp] theorem exec_writeReg (tk : Tick) (addr : BitVec 16) (count : Nat) (words : List Word) (crc : BitVec 16) (ext : Extent) (s : State) : exec (.writeReg tk addr count words crc ext) s = execWriteReg tk addr count words crc ext s := rfl
@[simp] theorem exec_pushCmd (tk : Tick) (length : Nat) (bytes : List Byte) (ext : Extent) (s : State) : exec (.pushCmd tk length bytes ext) s = execPushCmd tk length bytes ext s := rfl
@[simp] theorem exec_popReport (tk : Tick) (max : Nat) (ext : Extent) (s : State) : exec (.popReport tk max ext) s = execPopReport tk max ext s := rfl
@[simp] theorem exec_popImage (tk : Tick) (max : Nat) (ext : Extent) (s : State) : exec (.popImage tk max ext) s = execPopImage tk max ext s := rfl
@[simp] theorem exec_popRecord (tk : Tick) (max : Nat) (ext : Extent) (s : State) : exec (.popRecord tk max ext) s = execPopRecord tk max ext s := rfl
@[simp] theorem exec_done (tk : Tick) (source : Byte) (check : Byte) (ext : Extent) (s : State) : exec (.done tk source check ext) s = execDone tk source check ext s := rfl
@[simp] theorem exec_readId (tk : Tick) (ext : Extent) (s : State) : exec (.readId tk ext) s = execReadId tk ext s := rfl
@[simp] theorem exec_undefinedLinkOperation (tk : Tick) (op : Byte) (ext : Extent) (s : State) : exec (.undefinedLinkOperation tk op ext) s = execUndefinedLinkOperation tk op ext s := rfl
@[simp] theorem exec_timebaseLoRead (tk : Tick) (s : State) : exec (.timebaseLoRead tk) s = execTimebaseLoRead tk s := rfl
@[simp] theorem exec_tallySeqLoRead (tk : Tick) (s : State) : exec (.tallySeqLoRead tk) s = execTallySeqLoRead tk s := rfl
@[simp] theorem exec_attnPendingWrite (tk : Tick) (value : Word) (s : State) : exec (.attnPendingWrite tk value) s = execAttnPendingWrite tk value s := rfl
@[simp] theorem exec_clearedBeforeServiceWrite (tk : Tick) (value : Word) (s : State) : exec (.clearedBeforeServiceWrite tk value) s = execClearedBeforeServiceWrite tk value s := rfl
@[simp] theorem exec_vectorBaseWrite (tk : Tick) (value : Word) (s : State) : exec (.vectorBaseWrite tk value) s = execVectorBaseWrite tk value s := rfl
@[simp] theorem exec_vectorStrideWrite (tk : Tick) (value : Word) (s : State) : exec (.vectorStrideWrite tk value) s = execVectorStrideWrite tk value s := rfl
@[simp] theorem exec_holdoffWrite (tk : Tick) (group : Fin 8) (value : Word) (s : State) : exec (.holdoffWrite tk group value) s = execHoldoffWrite tk group value s := rfl
@[simp] theorem exec_registerWrite (tk : Tick) (addr : BitVec 16) (value : Word) (s : State) : exec (.registerWrite tk addr value) s = execRegisterWrite tk addr value s := rfl
@[simp] theorem exec_hostCsNWake (tk : Tick) (s : State) : exec (.hostCsNWake tk) s = execHostCsNWake tk s := rfl
@[simp] theorem exec_hsleepRise (tk : Tick) (s : State) : exec (.hsleepRise tk) s = execHsleepRise tk s := rfl
@[simp] theorem exec_hsleepFall (tk : Tick) (s : State) : exec (.hsleepFall tk) s = execHsleepFall tk s := rfl
@[simp] theorem exec_malformedPush (tk : Tick) (s : State) : exec (.malformedPush tk) s = execMalformedPush tk s := rfl
@[simp] theorem exec_unknownOpcode (tk : Tick) (s : State) : exec (.unknownOpcode tk) s = execUnknownOpcode tk s := rfl
@[simp] theorem exec_nop (tk : Tick) (s : State) : exec (.nop tk) s = execNop tk s := rfl
@[simp] theorem exec_identify (tk : Tick) (s : State) : exec (.identify tk) s = execIdentify tk s := rfl
@[simp] theorem exec_attest (tk : Tick) (s : State) : exec (.attest tk) s = execAttest tk s := rfl
@[simp] theorem exec_getStatus (tk : Tick) (s : State) : exec (.getStatus tk) s = execGetStatus tk s := rfl
@[simp] theorem exec_reset (tk : Tick) (s : State) : exec (.reset tk) s = execReset tk s := rfl
@[simp] theorem exec_setPower (tk : Tick) (s : State) : exec (.setPower tk) s = execSetPower tk s := rfl
@[simp] theorem exec_hostSleep (tk : Tick) (s : State) : exec (.hostSleep tk) s = execHostSleep tk s := rfl
@[simp] theorem exec_scanStart (tk : Tick) (s : State) : exec (.scanStart tk) s = execScanStart tk s := rfl
@[simp] theorem exec_scanStop (tk : Tick) (s : State) : exec (.scanStop tk) s = execScanStop tk s := rfl
@[simp] theorem exec_scanProfile (tk : Tick) (s : State) : exec (.scanProfile tk) s = execScanProfile tk s := rfl
@[simp] theorem exec_freqSet (tk : Tick) (s : State) : exec (.freqSet tk) s = execFreqSet tk s := rfl
@[simp] theorem exec_lineMap (tk : Tick) (s : State) : exec (.lineMap tk) s = execLineMap tk s := rfl
@[simp] theorem exec_healthMap (tk : Tick) (s : State) : exec (.healthMap tk) s = execHealthMap tk s := rfl
@[simp] theorem exec_legacyPhase (tk : Tick) (s : State) : exec (.legacyPhase tk) s = execLegacyPhase tk s := rfl
@[simp] theorem exec_baselineAcquire (tk : Tick) (s : State) : exec (.baselineAcquire tk) s = execBaselineAcquire tk s := rfl
@[simp] theorem exec_referenceSave (tk : Tick) (s : State) : exec (.referenceSave tk) s = execReferenceSave tk s := rfl
@[simp] theorem exec_referenceSelect (tk : Tick) (s : State) : exec (.referenceSelect tk) s = execReferenceSelect tk s := rfl
@[simp] theorem exec_keyDefine (tk : Tick) (s : State) : exec (.keyDefine tk) s = execKeyDefine tk s := rfl
@[simp] theorem exec_keyRead (tk : Tick) (s : State) : exec (.keyRead tk) s = execKeyRead tk s := rfl
@[simp] theorem exec_gestureSet (tk : Tick) (s : State) : exec (.gestureSet tk) s = execGestureSet tk s := rfl
@[simp] theorem exec_sillSet (tk : Tick) (s : State) : exec (.sillSet tk) s = execSillSet tk s := rfl
@[simp] theorem exec_contactFilter (tk : Tick) (s : State) : exec (.contactFilter tk) s = execContactFilter tk s := rfl
@[simp] theorem exec_imageStream (tk : Tick) (s : State) : exec (.imageStream tk) s = execImageStream tk s := rfl
@[simp] theorem exec_imageSnapshot (tk : Tick) (s : State) : exec (.imageSnapshot tk) s = execImageSnapshot tk s := rfl
@[simp] theorem exec_levelConfig (tk : Tick) (s : State) : exec (.levelConfig tk) s = execLevelConfig tk s := rfl
@[simp] theorem exec_levelConvert (tk : Tick) (s : State) : exec (.levelConvert tk) s = execLevelConvert tk s := rfl
@[simp] theorem exec_levelExcite (tk : Tick) (s : State) : exec (.levelExcite tk) s = execLevelExcite tk s := rfl
@[simp] theorem exec_levelRefbuf (tk : Tick) (s : State) : exec (.levelRefbuf tk) s = execLevelRefbuf tk s := rfl
@[simp] theorem exec_levelOpenwire (tk : Tick) (s : State) : exec (.levelOpenwire tk) s = execLevelOpenwire tk s := rfl
@[simp] theorem exec_levelTrigger (tk : Tick) (s : State) : exec (.levelTrigger tk) s = execLevelTrigger tk s := rfl
@[simp] theorem exec_detectorRead (tk : Tick) (s : State) : exec (.detectorRead tk) s = execDetectorRead tk s := rfl
@[simp] theorem exec_linearSet (tk : Tick) (s : State) : exec (.linearSet tk) s = execLinearSet tk s := rfl
@[simp] theorem exec_busXfer (tk : Tick) (s : State) : exec (.busXfer tk) s = execBusXfer tk s := rfl
@[simp] theorem exec_busRollcall (tk : Tick) (s : State) : exec (.busRollcall tk) s = execBusRollcall tk s := rfl
@[simp] theorem exec_busBranch (tk : Tick) (s : State) : exec (.busBranch tk) s = execBusBranch tk s := rfl
@[simp] theorem exec_busConfig (tk : Tick) (s : State) : exec (.busConfig tk) s = execBusConfig tk s := rfl
@[simp] theorem exec_cascadeMap (tk : Tick) (s : State) : exec (.cascadeMap tk) s = execCascadeMap tk s := rfl
@[simp] theorem exec_cascadePlan (tk : Tick) (s : State) : exec (.cascadePlan tk) s = execCascadePlan tk s := rfl
@[simp] theorem exec_cascadeForward (tk : Tick) (s : State) : exec (.cascadeForward tk) s = execCascadeForward tk s := rfl
@[simp] theorem exec_paramGet (tk : Tick) (s : State) : exec (.paramGet tk) s = execParamGet tk s := rfl
@[simp] theorem exec_paramSet (tk : Tick) (s : State) : exec (.paramSet tk) s = execParamSet tk s := rfl
@[simp] theorem exec_updateBegin (tk : Tick) (s : State) : exec (.updateBegin tk) s = execUpdateBegin tk s := rfl
@[simp] theorem exec_updateChunk (tk : Tick) (s : State) : exec (.updateChunk tk) s = execUpdateChunk tk s := rfl
@[simp] theorem exec_updateCommit (tk : Tick) (s : State) : exec (.updateCommit tk) s = execUpdateCommit tk s := rfl
@[simp] theorem exec_memoryInfo (tk : Tick) (s : State) : exec (.memoryInfo tk) s = execMemoryInfo tk s := rfl
@[simp] theorem exec_tallyRead (tk : Tick) (s : State) : exec (.tallyRead tk) s = execTallyRead tk s := rfl
@[simp] theorem exec_tallyMark (tk : Tick) (s : State) : exec (.tallyMark tk) s = execTallyMark tk s := rfl
@[simp] theorem exec_calendarSet (tk : Tick) (s : State) : exec (.calendarSet tk) s = execCalendarSet tk s := rfl
@[simp] theorem exec_timeGet (tk : Tick) (s : State) : exec (.timeGet tk) s = execTimeGet tk s := rfl
@[simp] theorem exec_attnConfig (tk : Tick) (s : State) : exec (.attnConfig tk) s = execAttnConfig tk s := rfl
@[simp] theorem exec_attnRoute (tk : Tick) (s : State) : exec (.attnRoute tk) s = execAttnRoute tk s := rfl
@[simp] theorem exec_telemetryRead (tk : Tick) (s : State) : exec (.telemetryRead tk) s = execTelemetryRead tk s := rfl
@[simp] theorem exec_telemetryClear (tk : Tick) (s : State) : exec (.telemetryClear tk) s = execTelemetryClear tk s := rfl
@[simp] theorem exec_testChallenge (tk : Tick) (s : State) : exec (.testChallenge tk) s = execTestChallenge tk s := rfl
@[simp] theorem exec_testUnlock (tk : Tick) (s : State) : exec (.testUnlock tk) s = execTestUnlock tk s := rfl
@[simp] theorem exec_selftest (tk : Tick) (s : State) : exec (.selftest tk) s = execSelftest tk s := rfl
@[simp] theorem exec_attestComplete (tk : Tick) (s : State) : exec (.attestComplete tk) s = execAttestComplete tk s := rfl
@[simp] theorem exec_updateBeginComplete (tk : Tick) (res : FlashRes) (s : State) : exec (.updateBeginComplete tk res) s = execUpdateBeginComplete tk res s := rfl
@[simp] theorem exec_updateChunkComplete (tk : Tick) (res : FlashRes) (s : State) : exec (.updateChunkComplete tk res) s = execUpdateChunkComplete tk res s := rfl
@[simp] theorem exec_updateCommitComplete (tk : Tick) (readRes : FlashRes) (pointerRes : FlashRes) (s : State) : exec (.updateCommitComplete tk readRes pointerRes) s = execUpdateCommitComplete tk readRes pointerRes s := rfl
@[simp] theorem exec_referenceSaveComplete (tk : Tick) (fails : List FlashRes) (s : State) : exec (.referenceSaveComplete tk fails) s = execReferenceSaveComplete tk fails s := rfl
@[simp] theorem exec_tallyReadComplete (tk : Tick) (badSectors : List Nat) (s : State) : exec (.tallyReadComplete tk badSectors) s = execTallyReadComplete tk badSectors s := rfl
@[simp] theorem exec_selftestComplete (tk : Tick) (failed : BitVec 16) (tests : List LineTest) (s : State) : exec (.selftestComplete tk failed tests) s = execSelftestComplete tk failed tests s := rfl
@[simp] theorem exec_testUnlockComplete (tk : Tick) (s : State) : exec (.testUnlockComplete tk) s = execTestUnlockComplete tk s := rfl
@[simp] theorem exec_imageSnapshotComplete (tk : Tick) (s : State) : exec (.imageSnapshotComplete tk) s = execImageSnapshotComplete tk s := rfl
@[simp] theorem exec_cascadePlanComplete (tk : Tick) (s : State) : exec (.cascadePlanComplete tk) s = execCascadePlanComplete tk s := rfl
@[simp] theorem exec_cascadeForwardTimeout (tk : Tick) (tag : Byte) (s : State) : exec (.cascadeForwardTimeout tk tag) s = execCascadeForwardTimeout tk tag s := rfl
@[simp] theorem exec_busBranchCycleComplete (tk : Tick) (s : State) : exec (.busBranchCycleComplete tk) s = execBusBranchCycleComplete tk s := rfl
@[simp] theorem exec_scanStopPark (tk : Tick) (s : State) : exec (.scanStopPark tk) s = execScanStopPark tk s := rfl
@[simp] theorem exec_heldReplyWrite (tk : Tick) (s : State) : exec (.heldReplyWrite tk) s = execHeldReplyWrite tk s := rfl
@[simp] theorem exec_queuedRecordWrite (tk : Tick) (s : State) : exec (.queuedRecordWrite tk) s = execQueuedRecordWrite tk s := rfl
@[simp] theorem exec_resetReplyTimeout (tk : Tick) (s : State) : exec (.resetReplyTimeout tk) s = execResetReplyTimeout tk s := rfl
@[simp] theorem exec_beatEdge (count : Nat) (s : State) : exec (.beatEdge count) s = execBeatEdge count s := rfl
@[simp] theorem exec_storyPoleFaultClear (tk : Tick) (s : State) : exec (.storyPoleFaultClear tk) s = execStoryPoleFaultClear tk s := rfl
@[simp] theorem exec_crystalDeclaredRunning (tk : Tick) (s : State) : exec (.crystalDeclaredRunning tk) s = execCrystalDeclaredRunning tk s := rfl
@[simp] theorem exec_crystalSwitch (tk : Tick) (s : State) : exec (.crystalSwitch tk) s = execCrystalSwitch tk s := rfl
@[simp] theorem exec_crystalLost (tk : Tick) (s : State) : exec (.crystalLost tk) s = execCrystalLost tk s := rfl
@[simp] theorem exec_fallbackTakeover (tk : Tick) (s : State) : exec (.fallbackTakeover tk) s = execFallbackTakeover tk s := rfl
@[simp] theorem exec_clk32DeclaredRunning (tk : Tick) (s : State) : exec (.clk32DeclaredRunning tk) s = execClk32DeclaredRunning tk s := rfl
@[simp] theorem exec_clk32Lost (tk : Tick) (s : State) : exec (.clk32Lost tk) s = execClk32Lost tk s := rfl
@[simp] theorem exec_frameStart (tk : Tick) (s : State) : exec (.frameStart tk) s = execFrameStart tk s := rfl
@[simp] theorem exec_frameSlotSkip (tk : Tick) (s : State) : exec (.frameSlotSkip tk) s = execFrameSlotSkip tk s := rfl
@[simp] theorem exec_selfPassComplete (tk : Tick) (drive : List SelfMeas) (sense : List SelfMeas) (guardDev : Nat) (s : State) : exec (.selfPassComplete tk drive sense guardDev) s = execSelfPassComplete tk drive sense guardDev s := rfl
@[simp] theorem exec_mutualPassStart (tk : Tick) (index : Nat) (s : State) : exec (.mutualPassStart tk index) s = execMutualPassStart tk index s := rfl
@[simp] theorem exec_dovetailOutput (tk : Tick) (index : Nat) (charge : List (List ChipCharge)) (s : State) : exec (.dovetailOutput tk index charge) s = execDovetailOutput tk index charge s := rfl
@[simp] theorem exec_noiseAlarmClear (tk : Tick) (s : State) : exec (.noiseAlarmClear tk) s = execNoiseAlarmClear tk s := rfl
@[simp] theorem exec_activeSlotChange (tk : Tick) (s : State) : exec (.activeSlotChange tk) s = execActiveSlotChange tk s := rfl
@[simp] theorem exec_planeCombine (tk : Tick) (ecc : List EccErr) (s : State) : exec (.planeCombine tk ecc) s = execPlaneCombine tk ecc s := rfl
@[simp] theorem exec_trackerFrame (tk : Tick) (s : State) : exec (.trackerFrame tk) s = execTrackerFrame tk s := rfl
@[simp] theorem exec_contactLift (tk : Tick) (id : Nat) (s : State) : exec (.contactLift tk id) s = execContactLift tk id s := rfl
@[simp] theorem exec_longPress (tk : Tick) (id : Nat) (s : State) : exec (.longPress tk id) s = execLongPress tk id s := rfl
@[simp] theorem exec_tapDeferralSettle (tk : Tick) (id : Nat) (s : State) : exec (.tapDeferralSettle tk id) s = execTapDeferralSettle tk id s := rfl
@[simp] theorem exec_keyStateChange (tk : Tick) (key : Nat) (s : State) : exec (.keyStateChange tk key) s = execKeyStateChange tk key s := rfl
@[simp] theorem exec_contactOwnerChange (tk : Tick) (id : Nat) (s : State) : exec (.contactOwnerChange tk id) s = execContactOwnerChange tk id s := rfl
@[simp] theorem exec_frameGroupWrite (tk : Tick) (marginPct : Nat) (s : State) : exec (.frameGroupWrite tk marginPct) s = execFrameGroupWrite tk marginPct s := rfl
@[simp] theorem exec_acquisitionPhase1 (tk : Tick) (s : State) : exec (.acquisitionPhase1 tk) s = execAcquisitionPhase1 tk s := rfl
@[simp] theorem exec_acquisitionPhase2End (tk : Tick) (s : State) : exec (.acquisitionPhase2End tk) s = execAcquisitionPhase2End tk s := rfl
@[simp] theorem exec_trackingBlockEnd (tk : Tick) (s : State) : exec (.trackingBlockEnd tk) s = execTrackingBlockEnd tk s := rfl
@[simp] theorem exec_nodeStateRelease (tk : Tick) (node : Nat) (s : State) : exec (.nodeStateRelease tk node) s = execNodeStateRelease tk node s := rfl
@[simp] theorem exec_objectAbsorbed (tk : Tick) (id : Nat) (s : State) : exec (.objectAbsorbed tk id) s = execObjectAbsorbed tk id s := rfl
@[simp] theorem exec_scarResolved (tk : Tick) (box : Nat) (s : State) : exec (.scarResolved tk box) s = execScarResolved tk box s := rfl
@[simp] theorem exec_baselineRegionRebuild (tk : Tick) (nodes : List Nat) (s : State) : exec (.baselineRegionRebuild tk nodes) s = execBaselineRegionRebuild tk nodes s := rfl
@[simp] theorem exec_tempReading (tk : Tick) (humid : Bool) (source : Nat) (value : Int) (s : State) : exec (.tempReading tk humid source value) s = execTempReading tk humid source value s := rfl
@[simp] theorem exec_tempSourceStale (tk : Tick) (humid : Bool) (s : State) : exec (.tempSourceStale tk humid) s = execTempSourceStale tk humid s := rfl
@[simp] theorem exec_driveOvercurrent (tk : Tick) (line : Nat) (s : State) : exec (.driveOvercurrent tk line) s = execDriveOvercurrent tk line s := rfl
@[simp] theorem exec_lineFaultConfirmed (tk : Tick) (line : Nat) (cause : Nat) (partner : Nat) (s : State) : exec (.lineFaultConfirmed tk line cause partner) s = execLineFaultConfirmed tk line cause partner s := rfl
@[simp] theorem exec_lineReturn (tk : Tick) (line : Nat) (s : State) : exec (.lineReturn tk line) s = execLineReturn tk line s := rfl
@[simp] theorem exec_fullLineCheckComplete (tk : Tick) (tests : List LineTest) (s : State) : exec (.fullLineCheckComplete tk tests) s = execFullLineCheckComplete tk tests s := rfl
@[simp] theorem exec_detectionSelfPass (tk : Tick) (drive : List SelfMeas) (sense : GuardedSense) (s : State) : exec (.detectionSelfPass tk drive sense) s = execDetectionSelfPass tk drive sense s := rfl
@[simp] theorem exec_pumpSettled (tk : Tick) (s : State) : exec (.pumpSettled tk) s = execPumpSettled tk s := rfl
@[simp] theorem exec_vdrvRestore (tk : Tick) (s : State) : exec (.vdrvRestore tk) s = execVdrvRestore tk s := rfl
@[simp] theorem exec_housekeepingGap (tk : Tick) (inp : GapIn) (s : State) : exec (.housekeepingGap tk inp) s = execHousekeepingGap tk inp s := rfl
@[simp] theorem exec_probe (tk : Tick) (charge : List (List ChipCharge)) (s : State) : exec (.probe tk charge) s = execProbe tk charge s := rfl
@[simp] theorem exec_thermalClampClear (tk : Tick) (s : State) : exec (.thermalClampClear tk) s = execThermalClampClear tk s := rfl
@[simp] theorem exec_sleepEntry (tk : Tick) (s : State) : exec (.sleepEntry tk) s = execSleepEntry tk s := rfl
@[simp] theorem exec_idleTimeout (tk : Tick) (s : State) : exec (.idleTimeout tk) s = execIdleTimeout tk s := rfl
@[simp] theorem exec_timerWake (tk : Tick) (s : State) : exec (.timerWake tk) s = execTimerWake tk s := rfl
@[simp] theorem exec_sillPeriodStart (tk : Tick) (s : State) : exec (.sillPeriodStart tk) s = execSillPeriodStart tk s := rfl
@[simp] theorem exec_sillReading (tk : Tick) (group : Nat) (edges : Nat) (s : State) : exec (.sillReading tk group edges) s = execSillReading tk group edges s := rfl
@[simp] theorem exec_wakeCheckTimeout (tk : Tick) (s : State) : exec (.wakeCheckTimeout tk) s = execWakeCheckTimeout tk s := rfl
@[simp] theorem exec_syncWakePulse (tk : Tick) (low : Nat) (s : State) : exec (.syncWakePulse tk low) s = execSyncWakePulse tk low s := rfl
@[simp] theorem exec_vddLoss (tk : Tick) (vbk : Bool) (s : State) : exec (.vddLoss tk vbk) s = execVddLoss tk vbk s := rfl
@[simp] theorem exec_holdoffEnd (tk : Tick) (group : Fin 8) (s : State) : exec (.holdoffEnd tk group) s = execHoldoffEnd tk group s := rfl
@[simp] theorem exec_wakePulseStart (tk : Tick) (s : State) : exec (.wakePulseStart tk) s = execWakePulseStart tk s := rfl
@[simp] theorem exec_wakePulseEnd (tk : Tick) (s : State) : exec (.wakePulseEnd tk) s = execWakePulseEnd tk s := rfl
@[simp] theorem exec_tenonPolarityTrial (tk : Tick) (port : Fin 4) (s : State) : exec (.tenonPolarityTrial tk port) s = execTenonPolarityTrial tk port s := rfl
@[simp] theorem exec_tenonRun (tk : Tick) (port : Fin 4) (s : State) : exec (.tenonRun tk port) s = execTenonRun tk port s := rfl
@[simp] theorem exec_tenonPortDown (tk : Tick) (port : Fin 4) (kind : TenonError) (s : State) : exec (.tenonPortDown tk port kind) s = execTenonPortDown tk port kind s := rfl
@[simp] theorem exec_tenonBringupRestart (tk : Tick) (port : Fin 4) (s : State) : exec (.tenonBringupRestart tk port) s = execTenonBringupRestart tk port s := rfl
@[simp] theorem exec_tenonMessageCrcFail (tk : Tick) (rx : WireMsg) (s : State) : exec (.tenonMessageCrcFail tk rx) s = execTenonMessageCrcFail tk rx s := rfl
@[simp] theorem exec_scarfCross (tk : Tick) (hdr : MsgHdr) (deltas : List Int) (s : State) : exec (.scarfCross tk hdr deltas) s = execScarfCross tk hdr deltas s := rfl
@[simp] theorem exec_scarfStrip (tk : Tick) (hdr : MsgHdr) (nodes : List StripNode) (s : State) : exec (.scarfStrip tk hdr nodes) s = execScarfStrip tk hdr nodes s := rfl
@[simp] theorem exec_scarfCorner (tk : Tick) (hdr : MsgHdr) (nodes : List StripNode) (s : State) : exec (.scarfCorner tk hdr nodes) s = execScarfCorner tk hdr nodes s := rfl
@[simp] theorem exec_report (tk : Tick) (hdr : MsgHdr) (body : ReportBody) (s : State) : exec (.report tk hdr body) s = execReport tk hdr body s := rfl
@[simp] theorem exec_direct (tk : Tick) (hdr : MsgHdr) (body : DirectBody) (s : State) : exec (.direct tk hdr body) s = execDirect tk hdr body s := rfl
@[simp] theorem exec_time (tk : Tick) (hdr : MsgHdr) (masterT : Nat) (s : State) : exec (.time tk hdr masterT) s = execTime tk hdr masterT s := rfl
@[simp] theorem exec_plan (tk : Tick) (hdr : MsgHdr) (body : PlanBody) (s : State) : exec (.plan tk hdr body) s = execPlan tk hdr body s := rfl
@[simp] theorem exec_enum (tk : Tick) (hdr : MsgHdr) (col : Nat) (row : Nat) (s : State) : exec (.enum tk hdr col row) s = execEnum tk hdr col row s := rfl
@[simp] theorem exec_enumReply (tk : Tick) (hdr : MsgHdr) (cap : TileCap) (col : Nat) (row : Nat) (s : State) : exec (.enumReply tk hdr cap col row) s = execEnumReply tk hdr cap col row s := rfl
@[simp] theorem exec_join (tk : Tick) (hdr : MsgHdr) (cap : TileCap) (s : State) : exec (.join tk hdr cap) s = execJoin tk hdr cap s := rfl
@[simp] theorem exec_event (tk : Tick) (hdr : MsgHdr) (rec : List Byte) (s : State) : exec (.event tk hdr rec) s = execEvent tk hdr rec s := rfl
@[simp] theorem exec_forward (tk : Tick) (hdr : MsgHdr) (packet : List Byte) (s : State) : exec (.forward tk hdr packet) s = execForward tk hdr packet s := rfl
@[simp] theorem exec_forwardReply (tk : Tick) (hdr : MsgHdr) (rec : List Byte) (s : State) : exec (.forwardReply tk hdr rec) s = execForwardReply tk hdr rec s := rfl
@[simp] theorem exec_imageChunk (tk : Tick) (hdr : MsgHdr) (offset : Nat) (bytes : List Byte) (s : State) : exec (.imageChunk tk hdr offset bytes) s = execImageChunk tk hdr offset bytes s := rfl
@[simp] theorem exec_ack (tk : Tick) (hdr : MsgHdr) (type : Byte) (seq : Byte) (s : State) : exec (.ack tk hdr type seq) s = execAck tk hdr type seq s := rfl
@[simp] theorem exec_imageData (tk : Tick) (hdr : MsgHdr) (bytes : List Byte) (first : Bool) (last : Bool) (s : State) : exec (.imageData tk hdr bytes first last) s = execImageData tk hdr bytes first last s := rfl
@[simp] theorem exec_ackTimeout (tk : Tick) (dest : Nat) (type : Nat) (seq : Nat) (s : State) : exec (.ackTimeout tk dest type seq) s = execAckTimeout tk dest type seq s := rfl
@[simp] theorem exec_enumWindowClose (tk : Tick) (s : State) : exec (.enumWindowClose tk) s = execEnumWindowClose tk s := rfl
@[simp] theorem exec_memberReadyTimeout (tk : Tick) (s : State) : exec (.memberReadyTimeout tk) s = execMemberReadyTimeout tk s := rfl
@[simp] theorem exec_memberLost (tk : Tick) (tile : Nat) (reason : Nat) (s : State) : exec (.memberLost tk tile reason) s = execMemberLost tk tile reason s := rfl
@[simp] theorem exec_syncPulse (tk : Tick) (low : Nat) (s : State) : exec (.syncPulse tk low) s = execSyncPulse tk low s := rfl
@[simp] theorem exec_syncLost (tk : Tick) (s : State) : exec (.syncLost tk) s = execSyncLost tk s := rfl
@[simp] theorem exec_planeServiceRound (tk : Tick) (inp : RoundIn) (s : State) : exec (.planeServiceRound tk inp) s = execPlaneServiceRound tk inp s := rfl
@[simp] theorem exec_levelQueuedRecordWrite (tk : Tick) (s : State) : exec (.levelQueuedRecordWrite tk) s = execLevelQueuedRecordWrite tk s := rfl
@[simp] theorem exec_levelTimerTrigger (tk : Tick) (slot : Nat) (s : State) : exec (.levelTimerTrigger tk slot) s = execLevelTimerTrigger tk slot s := rfl
@[simp] theorem exec_levelRequestEligible (tk : Tick) (slot : Nat) (s : State) : exec (.levelRequestEligible tk slot) s = execLevelRequestEligible tk slot s := rfl
@[simp] theorem exec_levelConversionStart (tk : Tick) (s : State) : exec (.levelConversionStart tk) s = execLevelConversionStart tk s := rfl
@[simp] theorem exec_openWireCheckEnd (tk : Tick) (slot : Nat) (s : State) : exec (.openWireCheckEnd tk slot) s = execOpenWireCheckEnd tk slot s := rfl
@[simp] theorem exec_excitationReversal (tk : Tick) (s : State) : exec (.excitationReversal tk) s = execExcitationReversal tk s := rfl
@[simp] theorem exec_excitationOvercurrent (tk : Tick) (s : State) : exec (.excitationOvercurrent tk) s = execExcitationOvercurrent tk s := rfl
@[simp] theorem exec_refbufSettled (tk : Tick) (s : State) : exec (.refbufSettled tk) s = execRefbufSettled tk s := rfl
@[simp] theorem exec_pd5PowerDown (tk : Tick) (s : State) : exec (.pd5PowerDown tk) s = execPd5PowerDown tk s := rfl
@[simp] theorem exec_busStart (tk : Tick) (s : State) : exec (.busStart tk) s = execBusStart tk s := rfl
@[simp] theorem exec_busStartTimer (tk : Tick) (sclHigh : Bool) (sdaHigh : Bool) (probe : Option (Bool × Nat)) (s : State) : exec (.busStartTimer tk sclHigh sdaHigh probe) s = execBusStartTimer tk sclHigh sdaHigh probe s := rfl
@[simp] theorem exec_busJobStart (tk : Tick) (s : State) : exec (.busJobStart tk) s = execBusJobStart tk s := rfl
@[simp] theorem exec_busTransactionEnd (tk : Tick) (res : BusEnd) (s : State) : exec (.busTransactionEnd tk res) s = execBusTransactionEnd tk res s := rfl
@[simp] theorem exec_addressRetry (tk : Tick) (s : State) : exec (.addressRetry tk) s = execAddressRetry tk s := rfl
@[simp] theorem exec_clockStretchTimeout (tk : Tick) (sclHigh : Bool) (sdaHigh : Bool) (s : State) : exec (.clockStretchTimeout tk sclHigh sdaHigh) s = execClockStretchTimeout tk sclHigh sdaHigh s := rfl
@[simp] theorem exec_busFreeTimeout (tk : Tick) (s : State) : exec (.busFreeTimeout tk) s = execBusFreeTimeout tk s := rfl
@[simp] theorem exec_arbitrationLost (tk : Tick) (s : State) : exec (.arbitrationLost tk) s = execArbitrationLost tk s := rfl
@[simp] theorem exec_arbitrationLostAtStop (tk : Tick) (atStop : Bool) (s : State) : exec (.arbitrationLostAtStop tk atStop) s = execArbitrationLostAtStop tk atStop s := rfl
@[simp] theorem exec_busJobTimeLimit (tk : Tick) (s : State) : exec (.busJobTimeLimit tk) s = execBusJobTimeLimit tk s := rfl
@[simp] theorem exec_sbAlertChange (tk : Tick) (low : Bool) (s : State) : exec (.sbAlertChange tk low) s = execSbAlertChange tk low s := rfl
@[simp] theorem exec_rollcallDue (tk : Tick) (s : State) : exec (.rollcallDue tk) s = execRollcallDue tk s := rfl
@[simp] theorem exec_rollcallEnd (tk : Tick) (s : State) : exec (.rollcallEnd tk) s = execRollcallEnd tk s := rfl
@[simp] theorem exec_envReadDue (tk : Tick) (humid : Bool) (s : State) : exec (.envReadDue tk humid) s = execEnvReadDue tk humid s := rfl
@[simp] theorem exec_vbrCurrentLimit (tk : Tick) (s : State) : exec (.vbrCurrentLimit tk) s = execVbrCurrentLimit tk s := rfl
@[simp] theorem exec_vbrReclose (tk : Tick) (s : State) : exec (.vbrReclose tk) s = execVbrReclose tk s := rfl
@[simp] theorem exec_vbrClosingClear (tk : Tick) (s : State) : exec (.vbrClosingClear tk) s = execVbrClosingClear tk s := rfl
@[simp] theorem exec_reverifyDue (tk : Tick) (badReads : List Nat) (s : State) : exec (.reverifyDue tk badReads) s = execReverifyDue tk badReads s := rfl
@[simp] theorem exec_ledgerSnapshot (tk : Tick) (res : FlashRes) (s : State) : exec (.ledgerSnapshot tk res) s = execLedgerSnapshot tk res s := rfl
@[simp] theorem exec_referenceRead (tk : Tick) (slot : Nat) (readOk : Bool) (s : State) : exec (.referenceRead tk slot readOk) s = execReferenceRead tk slot readOk s := rfl
@[simp] theorem exec_imageVerificationComplete (tk : Tick) (readOk : Bool) (s : State) : exec (.imageVerificationComplete tk readOk) s = execImageVerificationComplete tk readOk s := rfl
@[simp] theorem exec_recoveryEntry (tk : Tick) (s : State) : exec (.recoveryEntry tk) s = execRecoveryEntry tk s := rfl
@[simp] theorem exec_tapPublicInstruction (tk : Tick) (ir : Byte) (s : State) : exec (.tapPublicInstruction tk ir) s = execTapPublicInstruction tk ir s := rfl
@[simp] theorem exec_tapBoundaryTestMode (tk : Tick) (ir : Byte) (s : State) : exec (.tapBoundaryTestMode tk ir) s = execTapBoundaryTestMode tk ir s := rfl
@[simp] theorem exec_tapPrivateInstruction (tk : Tick) (ir : Byte) (s : State) : exec (.tapPrivateInstruction tk ir) s = execTapPrivateInstruction tk ir s := rfl
@[simp] theorem exec_challengeExpiry (tk : Tick) (s : State) : exec (.challengeExpiry tk) s = execChallengeExpiry tk s := rfl
@[simp] theorem exec_tallyRecordClose (tk : Tick) (s : State) : exec (.tallyRecordClose tk) s = execTallyRecordClose tk s := rfl
@[simp] theorem exec_tallyTimeMark (tk : Tick) (s : State) : exec (.tallyTimeMark tk) s = execTallyTimeMark tk s := rfl
@[simp] theorem exec_tallyDrain (tk : Tick) (res : FlashRes) (s : State) : exec (.tallyDrain tk res) s = execTallyDrain tk res s := rfl
@[simp] theorem exec_retentionCheck (tk : Tick) (uncorrectable : Bool) (s : State) : exec (.retentionCheck tk uncorrectable) s = execRetentionCheck tk uncorrectable s := rfl
@[simp] theorem exec_availabilityDayEnd (tk : Tick) (s : State) : exec (.availabilityDayEnd tk) s = execAvailabilityDayEnd tk s := rfl
@[simp] theorem exec_telemetryPeriod (tk : Tick) (s : State) : exec (.telemetryPeriod tk) s = execTelemetryPeriod tk s := rfl
@[simp] theorem exec_powerOnReset (tk : Tick) (vbk : Bool) (s : State) : exec (.powerOnReset tk vbk) s = execPowerOnReset tk vbk s := rfl
@[simp] theorem exec_resetNLow (tk : Tick) (ns : Nat) (s : State) : exec (.resetNLow tk ns) s = execResetNLow tk ns s := rfl
@[simp] theorem exec_internalResetRelease (tk : Tick) (mode : BitVec 2) (recoverN : Bool) (s : State) : exec (.internalResetRelease tk mode recoverN) s = execInternalResetRelease tk mode recoverN s := rfl
@[simp] theorem exec_vddLowWarningSet (tk : Tick) (s : State) : exec (.vddLowWarningSet tk) s = execVddLowWarningSet tk s := rfl
@[simp] theorem exec_vddLowWarningClear (tk : Tick) (s : State) : exec (.vddLowWarningClear tk) s = execVddLowWarningClear tk s := rfl
@[simp] theorem exec_pumpStartTimeout (tk : Tick) (s : State) : exec (.pumpStartTimeout tk) s = execPumpStartTimeout tk s := rfl
@[simp] theorem exec_fuseStepWhileStopped (tk : Tick) (blown : Bool) (s : State) : exec (.fuseStepWhileStopped tk blown) s = execFuseStepWhileStopped tk blown s := rfl
@[simp] theorem exec_nodeMemoryInitComplete (tk : Tick) (s : State) : exec (.nodeMemoryInitComplete tk) s = execNodeMemoryInitComplete tk s := rfl
@[simp] theorem exec_discoveryComplete (tk : Tick) (sfdp : Sfdp) (s : State) : exec (.discoveryComplete tk sfdp) s = execDiscoveryComplete tk sfdp s := rfl
@[simp] theorem exec_pd1Pd4Ready (tk : Tick) (badRegions : Nat) (s : State) : exec (.pd1Pd4Ready tk badRegions) s = execPd1Pd4Ready tk badRegions s := rfl
@[simp] theorem exec_syncAnnounce (tk : Tick) (frame : Bool) (s : State) : exec (.syncAnnounce tk frame) s = execSyncAnnounce tk frame s := rfl
@[simp] theorem exec_busBusy (tk : Tick) (s : State) : exec (.busBusy tk) s = execBusBusy tk s := rfl

/-! ## The shape of every answer -/

/-- Every command but BEAT_EDGE and TAP_PRIVATE_INSTRUCTION runs through the wrapper of the meanings. -/
theorem exec_runAt (i : Instr) (s : State) (h : ∀ n, i ≠ .beatEdge n) (h' : ∀ tk r, i ≠ .tapPrivateInstruction tk r) :
    ∃ tk f, exec i s = runAt tk s f := by
  cases i with
  | readReg tk addr words ext => exact ⟨_, _, Eq.trans (b := execReadReg tk addr words ext s) rfl rfl⟩
  | writeReg tk addr count words crc ext => exact ⟨_, _, Eq.trans (b := execWriteReg tk addr count words crc ext s) rfl rfl⟩
  | pushCmd tk length bytes ext => exact ⟨_, _, Eq.trans (b := execPushCmd tk length bytes ext s) rfl rfl⟩
  | popReport tk max ext => exact ⟨_, _, Eq.trans (b := execPopReport tk max ext s) rfl rfl⟩
  | popImage tk max ext => exact ⟨_, _, Eq.trans (b := execPopImage tk max ext s) rfl rfl⟩
  | popRecord tk max ext => exact ⟨_, _, Eq.trans (b := execPopRecord tk max ext s) rfl rfl⟩
  | done tk source check ext => exact ⟨_, _, Eq.trans (b := execDone tk source check ext s) rfl rfl⟩
  | readId tk ext => exact ⟨_, _, Eq.trans (b := execReadId tk ext s) rfl rfl⟩
  | undefinedLinkOperation tk op ext => exact ⟨_, _, Eq.trans (b := execUndefinedLinkOperation tk op ext s) rfl rfl⟩
  | timebaseLoRead tk => exact ⟨_, _, Eq.trans (b := execTimebaseLoRead tk s) rfl rfl⟩
  | tallySeqLoRead tk => exact ⟨_, _, Eq.trans (b := execTallySeqLoRead tk s) rfl rfl⟩
  | attnPendingWrite tk value => exact ⟨_, _, Eq.trans (b := execAttnPendingWrite tk value s) rfl rfl⟩
  | clearedBeforeServiceWrite tk value => exact ⟨_, _, Eq.trans (b := execClearedBeforeServiceWrite tk value s) rfl rfl⟩
  | vectorBaseWrite tk value => exact ⟨_, _, Eq.trans (b := execVectorBaseWrite tk value s) rfl rfl⟩
  | vectorStrideWrite tk value => exact ⟨_, _, Eq.trans (b := execVectorStrideWrite tk value s) rfl rfl⟩
  | holdoffWrite tk group value => exact ⟨_, _, Eq.trans (b := execHoldoffWrite tk group value s) rfl rfl⟩
  | registerWrite tk addr value => exact ⟨_, _, Eq.trans (b := execRegisterWrite tk addr value s) rfl rfl⟩
  | hostCsNWake tk => exact ⟨_, _, Eq.trans (b := execHostCsNWake tk s) rfl rfl⟩
  | hsleepRise tk => exact ⟨_, _, Eq.trans (b := execHsleepRise tk s) rfl rfl⟩
  | hsleepFall tk => exact ⟨_, _, Eq.trans (b := execHsleepFall tk s) rfl rfl⟩
  | malformedPush tk => exact ⟨_, _, Eq.trans (b := execMalformedPush tk s) rfl rfl⟩
  | unknownOpcode tk => exact ⟨_, _, Eq.trans (b := execUnknownOpcode tk s) rfl rfl⟩
  | nop tk => exact ⟨_, _, Eq.trans (b := execNop tk s) rfl rfl⟩
  | identify tk => exact ⟨_, _, Eq.trans (b := execIdentify tk s) rfl rfl⟩
  | attest tk => exact ⟨_, _, Eq.trans (b := execAttest tk s) rfl rfl⟩
  | getStatus tk => exact ⟨_, _, Eq.trans (b := execGetStatus tk s) rfl rfl⟩
  | reset tk => exact ⟨_, _, Eq.trans (b := execReset tk s) rfl rfl⟩
  | setPower tk => exact ⟨_, _, Eq.trans (b := execSetPower tk s) rfl rfl⟩
  | hostSleep tk => exact ⟨_, _, Eq.trans (b := execHostSleep tk s) rfl rfl⟩
  | scanStart tk => exact ⟨_, _, Eq.trans (b := execScanStart tk s) rfl rfl⟩
  | scanStop tk => exact ⟨_, _, Eq.trans (b := execScanStop tk s) rfl rfl⟩
  | scanProfile tk => exact ⟨_, _, Eq.trans (b := execScanProfile tk s) rfl rfl⟩
  | freqSet tk => exact ⟨_, _, Eq.trans (b := execFreqSet tk s) rfl rfl⟩
  | lineMap tk => exact ⟨_, _, Eq.trans (b := execLineMap tk s) rfl rfl⟩
  | healthMap tk => exact ⟨_, _, Eq.trans (b := execHealthMap tk s) rfl rfl⟩
  | legacyPhase tk => exact ⟨_, _, Eq.trans (b := execLegacyPhase tk s) rfl rfl⟩
  | baselineAcquire tk => exact ⟨_, _, Eq.trans (b := execBaselineAcquire tk s) rfl rfl⟩
  | referenceSave tk => exact ⟨_, _, Eq.trans (b := execReferenceSave tk s) rfl rfl⟩
  | referenceSelect tk => exact ⟨_, _, Eq.trans (b := execReferenceSelect tk s) rfl rfl⟩
  | keyDefine tk => exact ⟨_, _, Eq.trans (b := execKeyDefine tk s) rfl rfl⟩
  | keyRead tk => exact ⟨_, _, Eq.trans (b := execKeyRead tk s) rfl rfl⟩
  | gestureSet tk => exact ⟨_, _, Eq.trans (b := execGestureSet tk s) rfl rfl⟩
  | sillSet tk => exact ⟨_, _, Eq.trans (b := execSillSet tk s) rfl rfl⟩
  | contactFilter tk => exact ⟨_, _, Eq.trans (b := execContactFilter tk s) rfl rfl⟩
  | imageStream tk => exact ⟨_, _, Eq.trans (b := execImageStream tk s) rfl rfl⟩
  | imageSnapshot tk => exact ⟨_, _, Eq.trans (b := execImageSnapshot tk s) rfl rfl⟩
  | levelConfig tk => exact ⟨_, _, Eq.trans (b := execLevelConfig tk s) rfl rfl⟩
  | levelConvert tk => exact ⟨_, _, Eq.trans (b := execLevelConvert tk s) rfl rfl⟩
  | levelExcite tk => exact ⟨_, _, Eq.trans (b := execLevelExcite tk s) rfl rfl⟩
  | levelRefbuf tk => exact ⟨_, _, Eq.trans (b := execLevelRefbuf tk s) rfl rfl⟩
  | levelOpenwire tk => exact ⟨_, _, Eq.trans (b := execLevelOpenwire tk s) rfl rfl⟩
  | levelTrigger tk => exact ⟨_, _, Eq.trans (b := execLevelTrigger tk s) rfl rfl⟩
  | detectorRead tk => exact ⟨_, _, Eq.trans (b := execDetectorRead tk s) rfl rfl⟩
  | linearSet tk => exact ⟨_, _, Eq.trans (b := execLinearSet tk s) rfl rfl⟩
  | busXfer tk => exact ⟨_, _, Eq.trans (b := execBusXfer tk s) rfl rfl⟩
  | busRollcall tk => exact ⟨_, _, Eq.trans (b := execBusRollcall tk s) rfl rfl⟩
  | busBranch tk => exact ⟨_, _, Eq.trans (b := execBusBranch tk s) rfl rfl⟩
  | busConfig tk => exact ⟨_, _, Eq.trans (b := execBusConfig tk s) rfl rfl⟩
  | cascadeMap tk => exact ⟨_, _, Eq.trans (b := execCascadeMap tk s) rfl rfl⟩
  | cascadePlan tk => exact ⟨_, _, Eq.trans (b := execCascadePlan tk s) rfl rfl⟩
  | cascadeForward tk => exact ⟨_, _, Eq.trans (b := execCascadeForward tk s) rfl rfl⟩
  | paramGet tk => exact ⟨_, _, Eq.trans (b := execParamGet tk s) rfl rfl⟩
  | paramSet tk => exact ⟨_, _, Eq.trans (b := execParamSet tk s) rfl rfl⟩
  | updateBegin tk => exact ⟨_, _, Eq.trans (b := execUpdateBegin tk s) rfl rfl⟩
  | updateChunk tk => exact ⟨_, _, Eq.trans (b := execUpdateChunk tk s) rfl rfl⟩
  | updateCommit tk => exact ⟨_, _, Eq.trans (b := execUpdateCommit tk s) rfl rfl⟩
  | memoryInfo tk => exact ⟨_, _, Eq.trans (b := execMemoryInfo tk s) rfl rfl⟩
  | tallyRead tk => exact ⟨_, _, Eq.trans (b := execTallyRead tk s) rfl rfl⟩
  | tallyMark tk => exact ⟨_, _, Eq.trans (b := execTallyMark tk s) rfl rfl⟩
  | calendarSet tk => exact ⟨_, _, Eq.trans (b := execCalendarSet tk s) rfl rfl⟩
  | timeGet tk => exact ⟨_, _, Eq.trans (b := execTimeGet tk s) rfl rfl⟩
  | attnConfig tk => exact ⟨_, _, Eq.trans (b := execAttnConfig tk s) rfl rfl⟩
  | attnRoute tk => exact ⟨_, _, Eq.trans (b := execAttnRoute tk s) rfl rfl⟩
  | telemetryRead tk => exact ⟨_, _, Eq.trans (b := execTelemetryRead tk s) rfl rfl⟩
  | telemetryClear tk => exact ⟨_, _, Eq.trans (b := execTelemetryClear tk s) rfl rfl⟩
  | testChallenge tk => exact ⟨_, _, Eq.trans (b := execTestChallenge tk s) rfl rfl⟩
  | testUnlock tk => exact ⟨_, _, Eq.trans (b := execTestUnlock tk s) rfl rfl⟩
  | selftest tk => exact ⟨_, _, Eq.trans (b := execSelftest tk s) rfl rfl⟩
  | attestComplete tk => exact ⟨_, _, Eq.trans (b := execAttestComplete tk s) rfl rfl⟩
  | updateBeginComplete tk res => exact ⟨_, _, Eq.trans (b := execUpdateBeginComplete tk res s) rfl rfl⟩
  | updateChunkComplete tk res => exact ⟨_, _, Eq.trans (b := execUpdateChunkComplete tk res s) rfl rfl⟩
  | updateCommitComplete tk readRes pointerRes => exact ⟨_, _, Eq.trans (b := execUpdateCommitComplete tk readRes pointerRes s) rfl rfl⟩
  | referenceSaveComplete tk fails => exact ⟨_, _, Eq.trans (b := execReferenceSaveComplete tk fails s) rfl rfl⟩
  | tallyReadComplete tk badSectors => exact ⟨_, _, Eq.trans (b := execTallyReadComplete tk badSectors s) rfl rfl⟩
  | selftestComplete tk failed tests => exact ⟨_, _, Eq.trans (b := execSelftestComplete tk failed tests s) rfl rfl⟩
  | testUnlockComplete tk => exact ⟨_, _, Eq.trans (b := execTestUnlockComplete tk s) rfl rfl⟩
  | imageSnapshotComplete tk => exact ⟨_, _, Eq.trans (b := execImageSnapshotComplete tk s) rfl rfl⟩
  | cascadePlanComplete tk => exact ⟨_, _, Eq.trans (b := execCascadePlanComplete tk s) rfl rfl⟩
  | cascadeForwardTimeout tk tag => exact ⟨_, _, Eq.trans (b := execCascadeForwardTimeout tk tag s) rfl rfl⟩
  | busBranchCycleComplete tk => exact ⟨_, _, Eq.trans (b := execBusBranchCycleComplete tk s) rfl rfl⟩
  | scanStopPark tk => exact ⟨_, _, Eq.trans (b := execScanStopPark tk s) rfl rfl⟩
  | heldReplyWrite tk => exact ⟨_, _, Eq.trans (b := execHeldReplyWrite tk s) rfl rfl⟩
  | queuedRecordWrite tk => exact ⟨_, _, Eq.trans (b := execQueuedRecordWrite tk s) rfl rfl⟩
  | resetReplyTimeout tk => exact ⟨_, _, Eq.trans (b := execResetReplyTimeout tk s) rfl rfl⟩
  | beatEdge n => exact absurd rfl (h n)
  | storyPoleFaultClear tk => exact ⟨_, _, Eq.trans (b := execStoryPoleFaultClear tk s) rfl rfl⟩
  | crystalDeclaredRunning tk => exact ⟨_, _, Eq.trans (b := execCrystalDeclaredRunning tk s) rfl rfl⟩
  | crystalSwitch tk => exact ⟨_, _, Eq.trans (b := execCrystalSwitch tk s) rfl rfl⟩
  | crystalLost tk => exact ⟨_, _, Eq.trans (b := execCrystalLost tk s) rfl rfl⟩
  | fallbackTakeover tk => exact ⟨_, _, Eq.trans (b := execFallbackTakeover tk s) rfl rfl⟩
  | clk32DeclaredRunning tk => exact ⟨_, _, Eq.trans (b := execClk32DeclaredRunning tk s) rfl rfl⟩
  | clk32Lost tk => exact ⟨_, _, Eq.trans (b := execClk32Lost tk s) rfl rfl⟩
  | frameStart tk => exact ⟨_, _, Eq.trans (b := execFrameStart tk s) rfl rfl⟩
  | frameSlotSkip tk => exact ⟨_, _, Eq.trans (b := execFrameSlotSkip tk s) rfl rfl⟩
  | selfPassComplete tk drive sense guardDev => exact ⟨_, _, Eq.trans (b := execSelfPassComplete tk drive sense guardDev s) rfl rfl⟩
  | mutualPassStart tk index => exact ⟨_, _, Eq.trans (b := execMutualPassStart tk index s) rfl rfl⟩
  | dovetailOutput tk index charge => exact ⟨_, _, Eq.trans (b := execDovetailOutput tk index charge s) rfl rfl⟩
  | noiseAlarmClear tk => exact ⟨_, _, Eq.trans (b := execNoiseAlarmClear tk s) rfl rfl⟩
  | activeSlotChange tk => exact ⟨_, _, Eq.trans (b := execActiveSlotChange tk s) rfl rfl⟩
  | planeCombine tk ecc => exact ⟨_, _, Eq.trans (b := execPlaneCombine tk ecc s) rfl rfl⟩
  | trackerFrame tk => exact ⟨_, _, Eq.trans (b := execTrackerFrame tk s) rfl rfl⟩
  | contactLift tk id => exact ⟨_, _, Eq.trans (b := execContactLift tk id s) rfl rfl⟩
  | longPress tk id => exact ⟨_, _, Eq.trans (b := execLongPress tk id s) rfl rfl⟩
  | tapDeferralSettle tk id => exact ⟨_, _, Eq.trans (b := execTapDeferralSettle tk id s) rfl rfl⟩
  | keyStateChange tk key => exact ⟨_, _, Eq.trans (b := execKeyStateChange tk key s) rfl rfl⟩
  | contactOwnerChange tk id => exact ⟨_, _, Eq.trans (b := execContactOwnerChange tk id s) rfl rfl⟩
  | frameGroupWrite tk marginPct => exact ⟨_, _, Eq.trans (b := execFrameGroupWrite tk marginPct s) rfl rfl⟩
  | acquisitionPhase1 tk => exact ⟨_, _, Eq.trans (b := execAcquisitionPhase1 tk s) rfl rfl⟩
  | acquisitionPhase2End tk => exact ⟨_, _, Eq.trans (b := execAcquisitionPhase2End tk s) rfl rfl⟩
  | trackingBlockEnd tk => exact ⟨_, _, Eq.trans (b := execTrackingBlockEnd tk s) rfl rfl⟩
  | nodeStateRelease tk node => exact ⟨_, _, Eq.trans (b := execNodeStateRelease tk node s) rfl rfl⟩
  | objectAbsorbed tk id => exact ⟨_, _, Eq.trans (b := execObjectAbsorbed tk id s) rfl rfl⟩
  | scarResolved tk box => exact ⟨_, _, Eq.trans (b := execScarResolved tk box s) rfl rfl⟩
  | baselineRegionRebuild tk nodes => exact ⟨_, _, Eq.trans (b := execBaselineRegionRebuild tk nodes s) rfl rfl⟩
  | tempReading tk humid source value => exact ⟨_, _, Eq.trans (b := execTempReading tk humid source value s) rfl rfl⟩
  | tempSourceStale tk humid => exact ⟨_, _, Eq.trans (b := execTempSourceStale tk humid s) rfl rfl⟩
  | driveOvercurrent tk line => exact ⟨_, _, Eq.trans (b := execDriveOvercurrent tk line s) rfl rfl⟩
  | lineFaultConfirmed tk line cause partner => exact ⟨_, _, Eq.trans (b := execLineFaultConfirmed tk line cause partner s) rfl rfl⟩
  | lineReturn tk line => exact ⟨_, _, Eq.trans (b := execLineReturn tk line s) rfl rfl⟩
  | fullLineCheckComplete tk tests => exact ⟨_, _, Eq.trans (b := execFullLineCheckComplete tk tests s) rfl rfl⟩
  | detectionSelfPass tk drive sense => exact ⟨_, _, Eq.trans (b := execDetectionSelfPass tk drive sense s) rfl rfl⟩
  | pumpSettled tk => exact ⟨_, _, Eq.trans (b := execPumpSettled tk s) rfl rfl⟩
  | vdrvRestore tk => exact ⟨_, _, Eq.trans (b := execVdrvRestore tk s) rfl rfl⟩
  | housekeepingGap tk inp => exact ⟨_, _, Eq.trans (b := execHousekeepingGap tk inp s) rfl rfl⟩
  | probe tk charge => exact ⟨_, _, Eq.trans (b := execProbe tk charge s) rfl rfl⟩
  | thermalClampClear tk => exact ⟨_, _, Eq.trans (b := execThermalClampClear tk s) rfl rfl⟩
  | sleepEntry tk => exact ⟨_, _, Eq.trans (b := execSleepEntry tk s) rfl rfl⟩
  | idleTimeout tk => exact ⟨_, _, Eq.trans (b := execIdleTimeout tk s) rfl rfl⟩
  | timerWake tk => exact ⟨_, _, Eq.trans (b := execTimerWake tk s) rfl rfl⟩
  | sillPeriodStart tk => exact ⟨_, _, Eq.trans (b := execSillPeriodStart tk s) rfl rfl⟩
  | sillReading tk group edges => exact ⟨_, _, Eq.trans (b := execSillReading tk group edges s) rfl rfl⟩
  | wakeCheckTimeout tk => exact ⟨_, _, Eq.trans (b := execWakeCheckTimeout tk s) rfl rfl⟩
  | syncWakePulse tk low => exact ⟨_, _, Eq.trans (b := execSyncWakePulse tk low s) rfl rfl⟩
  | vddLoss tk vbk => exact ⟨_, _, Eq.trans (b := execVddLoss tk vbk s) rfl rfl⟩
  | holdoffEnd tk group => exact ⟨_, _, Eq.trans (b := execHoldoffEnd tk group s) rfl rfl⟩
  | wakePulseStart tk => exact ⟨_, _, Eq.trans (b := execWakePulseStart tk s) rfl rfl⟩
  | wakePulseEnd tk => exact ⟨_, _, Eq.trans (b := execWakePulseEnd tk s) rfl rfl⟩
  | tenonPolarityTrial tk port => exact ⟨_, _, Eq.trans (b := execTenonPolarityTrial tk port s) rfl rfl⟩
  | tenonRun tk port => exact ⟨_, _, Eq.trans (b := execTenonRun tk port s) rfl rfl⟩
  | tenonPortDown tk port kind => exact ⟨_, _, Eq.trans (b := execTenonPortDown tk port kind s) rfl rfl⟩
  | tenonBringupRestart tk port => exact ⟨_, _, Eq.trans (b := execTenonBringupRestart tk port s) rfl rfl⟩
  | tenonMessageCrcFail tk rx => exact ⟨_, _, Eq.trans (b := execTenonMessageCrcFail tk rx s) rfl rfl⟩
  | scarfCross tk hdr deltas => exact ⟨_, _, Eq.trans (b := execScarfCross tk hdr deltas s) rfl rfl⟩
  | scarfStrip tk hdr nodes => exact ⟨_, _, Eq.trans (b := execScarfStrip tk hdr nodes s) rfl rfl⟩
  | scarfCorner tk hdr nodes => exact ⟨_, _, Eq.trans (b := execScarfCorner tk hdr nodes s) rfl rfl⟩
  | report tk hdr body => exact ⟨_, _, Eq.trans (b := execReport tk hdr body s) rfl rfl⟩
  | direct tk hdr body => exact ⟨_, _, Eq.trans (b := execDirect tk hdr body s) rfl rfl⟩
  | time tk hdr masterT => exact ⟨_, _, Eq.trans (b := execTime tk hdr masterT s) rfl rfl⟩
  | plan tk hdr body => exact ⟨_, _, Eq.trans (b := execPlan tk hdr body s) rfl rfl⟩
  | enum tk hdr col row => exact ⟨_, _, Eq.trans (b := execEnum tk hdr col row s) rfl rfl⟩
  | enumReply tk hdr cap col row => exact ⟨_, _, Eq.trans (b := execEnumReply tk hdr cap col row s) rfl rfl⟩
  | join tk hdr cap => exact ⟨_, _, Eq.trans (b := execJoin tk hdr cap s) rfl rfl⟩
  | event tk hdr rec => exact ⟨_, _, Eq.trans (b := execEvent tk hdr rec s) rfl rfl⟩
  | forward tk hdr packet => exact ⟨_, _, Eq.trans (b := execForward tk hdr packet s) rfl rfl⟩
  | forwardReply tk hdr rec => exact ⟨_, _, Eq.trans (b := execForwardReply tk hdr rec s) rfl rfl⟩
  | imageChunk tk hdr offset bytes => exact ⟨_, _, Eq.trans (b := execImageChunk tk hdr offset bytes s) rfl rfl⟩
  | ack tk hdr type seq => exact ⟨_, _, Eq.trans (b := execAck tk hdr type seq s) rfl rfl⟩
  | imageData tk hdr bytes first last => exact ⟨_, _, Eq.trans (b := execImageData tk hdr bytes first last s) rfl rfl⟩
  | ackTimeout tk dest type seq => exact ⟨_, _, Eq.trans (b := execAckTimeout tk dest type seq s) rfl rfl⟩
  | enumWindowClose tk => exact ⟨_, _, Eq.trans (b := execEnumWindowClose tk s) rfl rfl⟩
  | memberReadyTimeout tk => exact ⟨_, _, Eq.trans (b := execMemberReadyTimeout tk s) rfl rfl⟩
  | memberLost tk tile reason => exact ⟨_, _, Eq.trans (b := execMemberLost tk tile reason s) rfl rfl⟩
  | syncPulse tk low => exact ⟨_, _, Eq.trans (b := execSyncPulse tk low s) rfl rfl⟩
  | syncLost tk => exact ⟨_, _, Eq.trans (b := execSyncLost tk s) rfl rfl⟩
  | planeServiceRound tk inp => exact ⟨_, _, Eq.trans (b := execPlaneServiceRound tk inp s) rfl rfl⟩
  | levelQueuedRecordWrite tk => exact ⟨_, _, Eq.trans (b := execLevelQueuedRecordWrite tk s) rfl rfl⟩
  | levelTimerTrigger tk slot => exact ⟨_, _, Eq.trans (b := execLevelTimerTrigger tk slot s) rfl rfl⟩
  | levelRequestEligible tk slot => exact ⟨_, _, Eq.trans (b := execLevelRequestEligible tk slot s) rfl rfl⟩
  | levelConversionStart tk => exact ⟨_, _, Eq.trans (b := execLevelConversionStart tk s) rfl rfl⟩
  | openWireCheckEnd tk slot => exact ⟨_, _, Eq.trans (b := execOpenWireCheckEnd tk slot s) rfl rfl⟩
  | excitationReversal tk => exact ⟨_, _, Eq.trans (b := execExcitationReversal tk s) rfl rfl⟩
  | excitationOvercurrent tk => exact ⟨_, _, Eq.trans (b := execExcitationOvercurrent tk s) rfl rfl⟩
  | refbufSettled tk => exact ⟨_, _, Eq.trans (b := execRefbufSettled tk s) rfl rfl⟩
  | pd5PowerDown tk => exact ⟨_, _, Eq.trans (b := execPd5PowerDown tk s) rfl rfl⟩
  | busStart tk => exact ⟨_, _, Eq.trans (b := execBusStart tk s) rfl rfl⟩
  | busStartTimer tk sclHigh sdaHigh probe => exact ⟨_, _, Eq.trans (b := execBusStartTimer tk sclHigh sdaHigh probe s) rfl rfl⟩
  | busJobStart tk => exact ⟨_, _, Eq.trans (b := execBusJobStart tk s) rfl rfl⟩
  | busTransactionEnd tk res => exact ⟨_, _, Eq.trans (b := execBusTransactionEnd tk res s) rfl rfl⟩
  | addressRetry tk => exact ⟨_, _, Eq.trans (b := execAddressRetry tk s) rfl rfl⟩
  | clockStretchTimeout tk sclHigh sdaHigh => exact ⟨_, _, Eq.trans (b := execClockStretchTimeout tk sclHigh sdaHigh s) rfl rfl⟩
  | busFreeTimeout tk => exact ⟨_, _, Eq.trans (b := execBusFreeTimeout tk s) rfl rfl⟩
  | arbitrationLost tk => exact ⟨_, _, Eq.trans (b := execArbitrationLost tk s) rfl rfl⟩
  | arbitrationLostAtStop tk atStop => exact ⟨_, _, Eq.trans (b := execArbitrationLostAtStop tk atStop s) rfl rfl⟩
  | busJobTimeLimit tk => exact ⟨_, _, Eq.trans (b := execBusJobTimeLimit tk s) rfl rfl⟩
  | sbAlertChange tk low => exact ⟨_, _, Eq.trans (b := execSbAlertChange tk low s) rfl rfl⟩
  | rollcallDue tk => exact ⟨_, _, Eq.trans (b := execRollcallDue tk s) rfl rfl⟩
  | rollcallEnd tk => exact ⟨_, _, Eq.trans (b := execRollcallEnd tk s) rfl rfl⟩
  | envReadDue tk humid => exact ⟨_, _, Eq.trans (b := execEnvReadDue tk humid s) rfl rfl⟩
  | vbrCurrentLimit tk => exact ⟨_, _, Eq.trans (b := execVbrCurrentLimit tk s) rfl rfl⟩
  | vbrReclose tk => exact ⟨_, _, Eq.trans (b := execVbrReclose tk s) rfl rfl⟩
  | vbrClosingClear tk => exact ⟨_, _, Eq.trans (b := execVbrClosingClear tk s) rfl rfl⟩
  | reverifyDue tk badReads => exact ⟨_, _, Eq.trans (b := execReverifyDue tk badReads s) rfl rfl⟩
  | ledgerSnapshot tk res => exact ⟨_, _, Eq.trans (b := execLedgerSnapshot tk res s) rfl rfl⟩
  | referenceRead tk slot readOk => exact ⟨_, _, Eq.trans (b := execReferenceRead tk slot readOk s) rfl rfl⟩
  | imageVerificationComplete tk readOk => exact ⟨_, _, Eq.trans (b := execImageVerificationComplete tk readOk s) rfl rfl⟩
  | recoveryEntry tk => exact ⟨_, _, Eq.trans (b := execRecoveryEntry tk s) rfl rfl⟩
  | tapPublicInstruction tk ir => exact ⟨_, _, Eq.trans (b := execTapPublicInstruction tk ir s) rfl rfl⟩
  | tapBoundaryTestMode tk ir => exact ⟨_, _, Eq.trans (b := execTapBoundaryTestMode tk ir s) rfl rfl⟩
  | tapPrivateInstruction a b => exact absurd rfl (h' a b)
  | challengeExpiry tk => exact ⟨_, _, Eq.trans (b := execChallengeExpiry tk s) rfl rfl⟩
  | tallyRecordClose tk => exact ⟨_, _, Eq.trans (b := execTallyRecordClose tk s) rfl rfl⟩
  | tallyTimeMark tk => exact ⟨_, _, Eq.trans (b := execTallyTimeMark tk s) rfl rfl⟩
  | tallyDrain tk res => exact ⟨_, _, Eq.trans (b := execTallyDrain tk res s) rfl rfl⟩
  | retentionCheck tk uncorrectable => exact ⟨_, _, Eq.trans (b := execRetentionCheck tk uncorrectable s) rfl rfl⟩
  | availabilityDayEnd tk => exact ⟨_, _, Eq.trans (b := execAvailabilityDayEnd tk s) rfl rfl⟩
  | telemetryPeriod tk => exact ⟨_, _, Eq.trans (b := execTelemetryPeriod tk s) rfl rfl⟩
  | powerOnReset tk vbk => exact ⟨_, _, Eq.trans (b := execPowerOnReset tk vbk s) rfl rfl⟩
  | resetNLow tk ns => exact ⟨_, _, Eq.trans (b := execResetNLow tk ns s) rfl rfl⟩
  | internalResetRelease tk mode recoverN => exact ⟨_, _, Eq.trans (b := execInternalResetRelease tk mode recoverN s) rfl rfl⟩
  | vddLowWarningSet tk => exact ⟨_, _, Eq.trans (b := execVddLowWarningSet tk s) rfl rfl⟩
  | vddLowWarningClear tk => exact ⟨_, _, Eq.trans (b := execVddLowWarningClear tk s) rfl rfl⟩
  | pumpStartTimeout tk => exact ⟨_, _, Eq.trans (b := execPumpStartTimeout tk s) rfl rfl⟩
  | fuseStepWhileStopped tk blown => exact ⟨_, _, Eq.trans (b := execFuseStepWhileStopped tk blown s) rfl rfl⟩
  | nodeMemoryInitComplete tk => exact ⟨_, _, Eq.trans (b := execNodeMemoryInitComplete tk s) rfl rfl⟩
  | discoveryComplete tk sfdp => exact ⟨_, _, Eq.trans (b := execDiscoveryComplete tk sfdp s) rfl rfl⟩
  | pd1Pd4Ready tk badRegions => exact ⟨_, _, Eq.trans (b := execPd1Pd4Ready tk badRegions s) rfl rfl⟩
  | syncAnnounce tk frame => exact ⟨_, _, Eq.trans (b := execSyncAnnounce tk frame s) rfl rfl⟩
  | busBusy tk => exact ⟨_, _, Eq.trans (b := execBusBusy tk s) rfl rfl⟩

/-- A command answers a settled state of the same part with the same queue, or is the one that stops (15 R460). -/
theorem exec_shape (i : Instr) (s : State) :
    (∃ u, exec i s = .next (settle (sealed s u))) ∨
      (privateWhileUnlocked i s ∧ exec i s = .refused .privateTestInstruction) := by
  by_cases hb : ∃ n, i = .beatEdge n
  · obtain ⟨n, rfl⟩ := hb
    exact .inl ⟨_, Eq.trans (b := execBeatEdge n s) rfl rfl⟩
  · by_cases ht : ∃ tk r, i = .tapPrivateInstruction tk r
    · obtain ⟨tk, r, rfl⟩ := ht
      have e : exec (.tapPrivateInstruction tk r) s = execTapPrivateInstruction tk r s := rfl
      rw [e, execTapPrivateInstruction]
      split
      · next h =>
        split
        · next u => exact .inr ⟨⟨h.1, h.2, u⟩, rfl⟩
        · exact .inl ⟨_, rfl⟩
      · exact .inl ⟨_, rfl⟩
    · obtain ⟨tk, f, h⟩ := exec_runAt i s (fun n e => hb ⟨n, e⟩) (fun tk r e => ht ⟨tk, r, e⟩)
      exact .inl ⟨_, h⟩

/-- A next state is settled, and of this part with this queue. -/
theorem exec_settles (i : Instr) (s t : State) (h : exec i s = .next t) : ∃ u, t = settle (sealed s u) := by
  obtain ⟨u, e⟩ | ⟨-, e⟩ := exec_shape i s
  · rw [e] at h; exact ⟨u, (Host.Outcome.next.inj h).symm⟩
  · rw [e] at h; cases h

/-- A command whose effect keeps the transitions completes with its effect and its frame; `u` is the state in which it
ran, `w` its effect. -/
theorem runs_settled {s w u : State} {cs : List Comp} {q : State → Prop} (hu : u.part = s.part ∧
    u.dieRevision = s.dieRevision ∧ u.pending = s.pending ∧ u.casc.out = []) (hc : u.calm) (hk : KeepsBut cs u w)
    (hs : .scan ∉ cs ∧ .pwr ∉ cs ∧ .casc ∉ cs) (ha : .attn ∈ cs)
    (hq : w.calm → KeepsBut cs u (settle (sealed s w)) → q (settle (sealed s w))) :
    ∃ t, (Host.Outcome.next (settle (sealed s w)) : Host.Outcome State Fault Refusal) = .next t ∧ q t := by
  have h1 := hk _ hs.1; have h2 := hk _ hs.2.1; have h3 := hk _ hs.2.2
  simp only [Comp.same] at h1 h2 h3
  have wc : w.calm := by simpa [State.calm, h1, h2, h3] using hc
  exact ⟨_, rfl, hq wc (keepsBut_settle wc hu (fun _ => h3) (keepsBut_mono hk (by intro c h; simp [h])) ha)⟩

end Sys2Proof.Machine
end

