-- ==== Sys2Proof/Laws/Records.lean ====
section
/-! SUPPORT. Events, Tally records, report records and replies: what each leaves in the registers it touches, and how a
packet is taken. -/

namespace Sys2Proof.Machine

/-! ## Events and Tally records -/

/-- Two attention register sets that differ in the pending bits, and in what was set last, alone. -/
def Pended (a b : Attn) : Prop :=
  b = { a with pending := b.pending, setT := b.setT, setPend := b.setPend, setCbs := b.setCbs }

theorem pended_refl (a : Attn) : Pended a a := rfl

theorem pended_trans {a b c : Attn} (h : Pended a b) (h' : Pended b c) : Pended a c := by
  unfold Pended at *; rw [h'.trans (by rw [h])]

/-- An event touches the pending bits alone of the attention registers. -/
theorem raise_attn (src : Nat) (s : State) : Pended s.attn (raise src s).attn := by
  unfold raise; split
  · exact pended_refl _
  · simp [Pended, Attn.setBits]

theorem copyRecord_attn (bs : List Byte) (s : State) : Pended s.attn (copyRecord bs s).attn := by
  unfold copyRecord
  dsimp only
  repeat' split
  · exact raise_attn _ _
  · exact pended_refl _
  · exact pended_refl _

theorem tallyPut_attn (a b c d : Nat) (s : State) : Pended s.attn (tallyPut a b c d s).attn :=
  copyRecord_attn _ _

/-- So does a Tally record. -/
theorem tallyBy_attn (o c d : Nat) (s : State) : Pended s.attn (tallyBy o c d s).attn := by
  unfold tallyBy
  dsimp only
  split
  · exact pended_refl _
  · split
    · exact pended_refl _
    · unfold tallyNew; dsimp only
      split
      · exact pended_trans (tallyPut_attn (s.tileNo % 16) 2 _ 0
          { s with tally := { s.tally with epoch := (s.tally.epoch + 1) % 65536, seq := 0, started := false } })
          (tallyPut_attn _ _ _ _ _)
      · exact tallyPut_attn _ _ _ _ _

/-- What the recorder works from. -/
def SameForTally (s t : State) : Prop :=
  t.tally = s.tally ∧ t.time = s.time ∧ t.casc.role = s.casc.role ∧ t.casc.tile = s.casc.tile ∧
    t.pwr.pd1 = s.pwr.pd1 ∧ t.params = s.params ∧ t.part = s.part

theorem tallyPut_same (a b c d : Nat) {s t : State} (h : SameForTally s t) :
    (tallyPut a b c d t).tally = (tallyPut a b c d s).tally := by
  obtain ⟨h1, h2, -, -, h5, -, -⟩ := h
  simp only [tallyPut, copyRecord_tally, State.tbFault, State.now, h1, h2, h5]

/-- A Tally record depends on nothing else. -/
theorem tallyBy_same (o c d : Nat) {s t : State} (h : SameForTally s t) :
    (tallyBy o c d t).tally = (tallyBy o c d s).tally := by
  have h' := h
  obtain ⟨h1, h2, h3, h4, h5, h6, h7⟩ := h
  have hn : t.tileNo = s.tileNo := by simp only [State.tileNo, h3, h4]
  have hr : tallyRepeats (16 * o + s.tileNo % 16) c d t = tallyRepeats (16 * o + s.tileNo % 16) c d s := by
    simp only [tallyRepeats, State.pnat, State.param, State.now, h1, h2, h6, h7]
  unfold tallyBy
  simp only [hn, hr, h1]
  split
  · exact h1
  · split
    · rfl
    · unfold tallyNew
      simp only [h1]
      rw [hn]
      split
      · apply tallyPut_same
        refine ⟨?_, by simp [h2], by simp [h3], by simp [h4], by simp [h5], by simp [h6], by simp [h7]⟩
        apply tallyPut_same
        exact ⟨rfl, h2, h3, h4, h5, h6, h7⟩
      · exact tallyPut_same _ _ _ _ h'

theorem tally_same (c d : Nat) {s t : State} (h : SameForTally s t) : (tally c d t).tally = (tally c d s).tally :=
  tallyBy_same 0 c d h

/-! ## Replies -/

/-- A reply but HOST_SLEEP's and RESET's sets nothing off. -/
theorem replyWritten_plain (r : Reply) (s : State) (h : r.opcode ≠ 6 ∨ r.status ≠ 0) (hm : ∀ k, r.mark ≠ .resetReply k) :
    replyWritten r s = s := by
  have e : ¬ (r.opcode = 6 ∧ r.status = 0) := fun c => h.elim (fun n => n c.1) (fun n => n c.2)
  unfold replyWritten
  rw [if_neg (fun c => e ⟨c.1, c.2.1⟩), if_neg e]
  split
  · next k _ e _ => exact absurd e (hm _)
  · rfl

/-- A reply that fits, with none held, is written (11 R343). -/
theorem postReply_fits (r : Reply) (s : State) (hm : s.casc.role ≠ .member) (hh : s.bench.held = [])
    (hf : s.reportFits r.size = true) : postReply r s = writeReply r s := by
  unfold postReply
  rw [if_neg hm, if_pos (by simp [hh, hf])]

/-- A final reply that has its turn, with none waiting for theirs, is written at once where it fits (12 R364). -/
theorem finish_atTurn (d : Deferred) (st : Nat) (data : List Byte) (s : State) (ht : s.atTurn d) (hm : s.casc.role ≠ .member)
    (hh : s.bench.held = []) (hf : s.reportFits (Reply.mk d.tag d.opcode st 2 d.seq data .plain).size = true) :
    finish (some d) st data s = writeReply ⟨d.tag, d.opcode, st, 2, d.seq, data, .plain⟩ s := by
  simp only [finish, ht.2, Bool.false_eq_true, if_false, ht.1, List.length_nil, postTurn]
  exact postReply_fits _ _ hm hh hf

/-- A final reply whose turn has not come waits (12 R364). -/
theorem finish_waits (d : Deferred) (st : Nat) (data : List Byte) (s : State) (h : s.ahead d = true) :
    finish (some d) st data s =
      { s with bench := { s.bench with turn := s.bench.turn ++ [⟨d.tag, d.opcode, st, 2, d.seq, data, .plain⟩] } } := by
  simp [finish, h]

/-- The report ring after a reply that is not final. -/
theorem writeReply_report (r : Reply) (s : State) (hk : r.kind ≠ 2) :
    (writeReply r s).report = s.report.put s.reportSize ⟨r.bytes s.bench.outstanding.length, r.mark⟩ := by
  have e : dropOutstanding r s = s := by unfold dropOutstanding; rw [if_neg hk]
  simp only [writeReply, e, replyWritten_report, raise_report, writeReport]
  unfold wakeCheckPass; split <;> rfl

/-- A wake check's success touches its flag alone of the power registers. -/
theorem wakeCheckPass_pwr (s : State) : ∃ b, (wakeCheckPass s).pwr = { s.pwr with wakeCheck := b } := by
  unfold wakeCheckPass; split
  · exact ⟨false, rfl⟩
  · exact ⟨s.pwr.wakeCheck, rfl⟩

@[simp] theorem wakeCheckPass_calm (s : State) : (wakeCheckPass s).calm ↔ s.calm := by
  unfold wakeCheckPass; split <;> exact Iff.rfl

@[simp] theorem raise_calm (src : Nat) (s : State) : (raise src s).calm ↔ s.calm := by
  unfold raise; split <;> exact Iff.rfl

@[simp] theorem writeReport_calm (bs : List Byte) (m : RecMark) (s : State) : (writeReport bs m s).calm ↔ s.calm := by
  unfold writeReport; rw [wakeCheckPass_calm]; exact Iff.rfl

/-- A reply but HOST_SLEEP's and RESET's sets no transition off. -/
theorem writeReply_calm (r : Reply) (s : State) (h : r.opcode ≠ 6 ∨ r.status ≠ 0) (hm : ∀ k, r.mark ≠ .resetReply k) :
    (writeReply r s).calm ↔ s.calm := by
  simp only [writeReply]
  rw [replyWritten_plain _ _ h hm, raise_calm, writeReport_calm]
  unfold dropOutstanding; split <;> exact Iff.rfl

/-- What a written reply that is not final leaves. -/
theorem writeReply_frame (r : Reply) (s : State) (hk : r.kind ≠ 2) (h : r.opcode ≠ 6 ∨ r.status ≠ 0) (hm : ∀ k, r.mark ≠ .resetReply k) :
    KeepsBut [.attn, .report, .pwr, .trk] s (writeReply r s) := by
  have e : dropOutstanding r s = s := by unfold dropOutstanding; rw [if_neg hk]
  intro c hn
  simp only [writeReply, e]
  rw [replyWritten_plain _ _ h hm]
  cases c <;> simp at hn <;> simp [Comp.same]

/-! ## Taking packets -/

/-- A packet that Bench serves is taken, and its command runs. -/
theorem takeFor_serves (op : Nat) (run : Call → State → State) (s : State) (tk : Tick) (p : Packet) (n : Nat)
    (h : Serves s op p n) : takeFor op run (s.entered tk) = run (callOf s p) (s.taken tk n) := by
  obtain ⟨h1, h2, h3⟩ := h
  have e1 : benchOpen (s.entered tk) = true := by simpa [benchOpen] using h1
  have e2 : takePacket (benchFront (s.entered tk)) = .packet p n := by simpa [benchFront] using h2
  have e3 : callOf (s.entered tk) p = callOf s p := by simp [callOf]
  unfold takeFor
  rw [if_pos e1, e2]
  simp only [h3, e3, if_true]
  rfl

/-- The packet's taking touches the ring, Bench's place in it and CMD_SPACE. -/
theorem passPacket_frame (n : Nat) (s : State) : KeepsBut [.attn, .cmd, .bench, .trk] s (passPacket n s) := by
  have d : ∀ s : State, KeepsBut [.attn, .cmd, .bench, .trk] s (dropPush s) := by
    intro s c hn
    have e : ∀ u : State, u = dropPush s → c.same s u := by
      intro u hu
      simp only [dropPush] at hu
      split at hu <;> subst hu <;> cases c <;> simp at hn <;> simp [Comp.same]
    exact e _ rfl
  intro c hn
  have e : ∀ u : State, u = passPacket n s → c.same s u := by
    intro u hu
    simp only [passPacket] at hu
    split at hu
    · have h' : ∀ v, u = dropPush v → c.same v u := fun v hv => by rw [hv]; exact d v c hn
      have h'' := h' _ hu
      cases c <;> simp at hn <;> exact h''
    · subst hu; cases c <;> simp at hn <;> rfl
  exact e _ rfl

@[simp] theorem passPacket_calm (n : Nat) (s : State) : (passPacket n s).calm ↔ s.calm := by
  have h := passPacket_frame n s
  have h1 := h .scan (by simp); have h2 := h .pwr (by simp); have h3 := h .casc (by simp)
  simp only [Comp.same] at h1 h2 h3
  simp [State.calm, h1, h2, h3]

/-- The packet is counted, and Bench's place moves on. -/
theorem passPacket_bench (n : Nat) (s : State) : ∃ k, (passPacket n s).bench =
    { s.bench with packetSeq := s.bench.packetSeq + 1, taken := k } := by
  unfold passPacket dropPush countPacket
  dsimp only
  split
  · split
    · exact ⟨_, by rw [raise_bench]⟩
    · exact ⟨_, rfl⟩
  · exact ⟨_, rfl⟩

/-- What the taking of a packet leaves. -/
theorem taken_keeps (s : State) (tk : Tick) (n : Nat) :
    (s.taken tk n).part = s.part ∧ (s.taken tk n).dieRevision = s.dieRevision ∧ (s.taken tk n).pending = s.pending ∧
      (s.taken tk n).casc.out = [] := by
  have h := passPacket_frame n (s.entered tk)
  have h1 := h .part (by simp); have h2 := h .dieRevision (by simp)
  have h3 := h .pending (by simp); have h4 := h .casc (by simp)
  simp only [Comp.same] at h1 h2 h3 h4
  simp [State.taken, h1, h2, h3, h4]

/-- What a packet's command finds. -/
theorem taken_facts {s : State} {op n : Nat} {p : Packet} (tk : Tick) (h : Serves s op p n) (hc : s.calm) :
   (s.taken tk n).casc.role ≠ .member ∧ (s.taken tk n).bench.held = [] ∧ (s.taken tk n).calm ∧ (s.taken tk n).bench.outstanding = s.bench.outstanding ∧ (s.taken tk n).pwr = s.pwr ∧ (s.taken tk n).link = s.link ∧ (s.taken tk n).part = s.part ∧ (s.taken tk n).scan = s.scan ∧ (s.taken tk n).params = s.params ∧ (s.taken tk n).boot = s.boot := by
  have hf := passPacket_frame n (s.entered tk)
  obtain ⟨k, hb⟩ := passPacket_bench n (s.entered tk)
  have h0 := h.1
  simp only [benchOpen, Bool.and_eq_true, bne_iff_ne, ne_eq, List.isEmpty_iff] at h0
  have h1 := hf .casc (by simp); have h2 := hf .pwr (by simp); have h3 := hf .link (by simp)
  have h4 := hf .part (by simp); have h5 := hf .scan (by simp); have h6 := hf .params (by simp); have h7 := hf .boot (by simp)
  simp only [Comp.same] at h1 h2 h3 h4 h5 h6 h7
  refine ⟨?_, ?_, ?_, ?_, ?_, ?_, ?_, ?_, ?_, ?_⟩ <;> simp [State.taken, h1, h2, h3, h4, h5, h6, h7, hb]
  · exact h0.1.1.1.1.2
  · exact h0.1.1.1.2
  · exact hc

/-- The state sets are those before the packet was taken. -/
theorem inSet_taken {s : State} {op n : Nat} {p : Packet} (tk : Tick) (h : Serves s op p n) (hc : s.calm) (st : StateSet) : inSet st (s.taken tk n) = inSet st s := by
  obtain ⟨-, -, -, -, h1, h2, -, h3, -⟩ := taken_facts tk h hc
  simp only [inSet, State.recovering, State.scanning, h1, h2, h3]

/-- A command that answers its packet with a sole reply, and nothing else. -/
theorem answers_sole {i : Instr} {s : State} {tk : Tick} {op n : Nat} {p : Packet} {run : Call → State → State} {st : Nat} {data : List Byte}
   (he : exec i s = runAt tk s (takeFor op run)) (h : Serves s op p n) (hc : s.calm) (hf : replyFits (s.taken tk n) data.length)
   (h6 : p.opcode ≠ 6 ∨ st ≠ 0) (hr : run (callOf s p) (s.taken tk n) = sole (callOf s p) st data (s.taken tk n)) : Answers i s (s.taken tk n) p st data := by
  unfold Answers Runs
  rw [he]; unfold runAt
  rw [takeFor_serves op run s tk p n h, hr]
  obtain ⟨f1, f2, f3, f4, -⟩ := taken_facts tk h hc
  unfold sole
  rw [if_neg (by have := hf.1; omega), postReply_fits _ _ f1 f2 (by simpa [Reply.size] using hf.2)]
  refine ⟨_, rfl, ?_, ?_⟩
  · rw [settle_calm_report _ (by rw [sealed_calm, writeReply_calm]; exact f3; simpa [callOf] using h6; simp)]
    simp only [sealed_report]
    rw [writeReply_report _ _ (by simp)]
    rfl
  · apply keepsBut_settle
    · rw [writeReply_calm]; exact f3; simpa [callOf] using h6; simp
    · exact taken_keeps s tk n
    · intro _; exact writeReply_frame _ _ (by simp) (by simpa [callOf] using h6) (by simp) .casc (by simp)
    · exact keepsBut_mono (writeReply_frame _ _ (by simp) (by simpa [callOf] using h6) (by simp)) (by simp)
    · simp

end Sys2Proof.Machine
end

