-- ==== Sys2Proof/WellFormed.lean ====
section
/-! DEFINITION. When a command's operands lie within what its carrier can hold: the widths of the link's fields
(11 R332 to R336), of a Tenon header (09 Table 9.3), and of the numbers by which the chapters name lines, slots,
contacts, keys and tiles. -/

namespace Sys2Proof

/-- A Tenon header's fields are bytes (09 Table 9.3). -/
def MsgHdr.wf (h : MsgHdr) : Bool :=
  decide (h.dest < 256) && decide (h.src < 256) && decide (h.seq < 256) && decide (h.port < 256)

/-- A physical line's word (03 Table 3.8): bit 15 sense, bits 14:0 below the largest line count. -/
def lineWordWf (w : Nat) : Bool := decide (w < 192) || (decide (0x8000 ≤ w) && decide (w < 0x8000 + 120))

/-- A line check's result names lines that a part can have (03 R85). -/
def LineTest.wf (t : LineTest) : Bool := lineWordWf t.line && t.cMv.all fun r => lineWordWf r.1

/-- A region number: kind in bits 15:12, block in bits 11:0, of at most 96 blocks (17 R490). -/
def EccErr.wf (e : EccErr) : Bool := decide (e.region / 4096 < 8) && decide (e.region % 4096 < 96)

/-- The bytes of a push are those of its length field, when it is clocked whole (11 R334). -/
def pushWf (length : Nat) (bytes : List Byte) : Bool := decide (length < 65536) && decide (bytes.length ≤ length)

/-- A message of at most 255 words (09 Table 9.3). -/
def payloadWf (bs : List Byte) : Bool := decide (bs.length ≤ 1020)

/-- Is a command well formed? -/
def Instr.wf : Instr → Bool
  | .readReg _ _ words _ => decide (words < 256)
  | .writeReg _ _ count words _ _ => decide (count < 256) && decide (words.length ≤ count)
  | .pushCmd _ length bytes _ => pushWf length bytes
  | .popReport _ max _ => decide (max < 65536)
  | .popImage _ max _ => decide (max < 65536)
  | .popRecord _ max _ => decide (max < 65536)
  | .selftestComplete _ _ tests => tests.all LineTest.wf
  | .cascadeForwardTimeout _ tag => decide (tag.toNat < 256)
  | .beatEdge count => decide (count < 2 ^ 20)
  | .mutualPassStart _ index => decide (index < 8)
  | .dovetailOutput _ index _ => decide (index < 8)
  | .planeCombine _ ecc => ecc.all EccErr.wf
  | .contactLift _ id => decide (id < 64)
  | .longPress _ id => decide (id < 64)
  | .tapDeferralSettle _ id => decide (id < 64)
  | .keyStateChange _ key => decide (key < 256)
  | .contactOwnerChange _ id => decide (id < 64)
  | .frameGroupWrite _ margin => decide (margin ≤ 100)
  | .objectAbsorbed _ id => decide (id < 64)
  | .scarResolved _ box => decide (box < 16)
  | .tempReading _ _ source _ => decide (source < 5)
  | .driveOvercurrent _ line => decide (line < 192)
  | .lineFaultConfirmed _ line cause _ => lineWordWf line && decide (cause < 16)
  | .lineReturn _ line => lineWordWf line
  | .fullLineCheckComplete _ tests => tests.all LineTest.wf
  | .housekeepingGap _ inp => inp.tests.all LineTest.wf && inp.ecc.all EccErr.wf
  | .sillReading _ group _ => decide (group < 8)
  | .pd1Pd4Ready _ regions => decide (regions ≤ 96)
  | .scarfCross _ hdr _ => hdr.wf
  | .scarfStrip _ hdr _ => hdr.wf
  | .scarfCorner _ hdr _ => hdr.wf
  | .report _ hdr _ => hdr.wf
  | .direct _ hdr _ => hdr.wf
  | .time _ hdr t => hdr.wf && decide (t < 2 ^ 56)
  | .plan _ hdr _ => hdr.wf
  | .enum _ hdr col row => hdr.wf && decide (col < 256) && decide (row < 256)
  | .enumReply _ hdr _ col row => hdr.wf && decide (col < 256) && decide (row < 256)
  | .join _ hdr _ => hdr.wf
  | .event _ hdr bs => hdr.wf && payloadWf bs
  | .forward _ hdr bs => hdr.wf && payloadWf bs
  | .forwardReply _ hdr bs => hdr.wf && payloadWf bs
  | .imageChunk _ hdr _ bs => hdr.wf && payloadWf bs
  | .ack _ hdr _ _ => hdr.wf
  | .imageData _ hdr bs _ _ => hdr.wf && payloadWf bs
  | .ackTimeout _ dest type seq => decide (dest < 256) && decide (type < 256) && decide (seq < 256)
  | .memberLost _ tile _ => decide (tile < 16)
  | .levelTimerTrigger _ slot => decide (slot < 16)
  | .levelRequestEligible _ slot => decide (slot < 16)
  | .openWireCheckEnd _ slot => decide (slot < 16)
  | .referenceRead _ slot _ => decide (slot < 4)
  | .readId _ _ => true | .done _ _ _ _ => true | .undefinedLinkOperation _ _ _ => true
  | .timebaseLoRead _ => true | .tallySeqLoRead _ => true | .attnPendingWrite _ _ => true
  | .clearedBeforeServiceWrite _ _ => true | .vectorBaseWrite _ _ => true | .vectorStrideWrite _ _ => true
  | .holdoffWrite _ _ _ => true | .registerWrite _ _ _ => true | .hostCsNWake _ => true
  | .hsleepRise _ => true | .hsleepFall _ => true | .malformedPush _ => true | .unknownOpcode _ => true
  | .nop _ => true | .identify _ => true | .attest _ => true | .getStatus _ => true | .reset _ => true
  | .setPower _ => true | .hostSleep _ => true | .scanStart _ => true | .scanStop _ => true
  | .scanProfile _ => true | .freqSet _ => true | .lineMap _ => true | .healthMap _ => true
  | .legacyPhase _ => true | .baselineAcquire _ => true | .referenceSave _ => true
  | .referenceSelect _ => true | .keyDefine _ => true | .keyRead _ => true | .gestureSet _ => true
  | .sillSet _ => true | .contactFilter _ => true | .imageStream _ => true | .imageSnapshot _ => true
  | .levelConfig _ => true | .levelConvert _ => true | .levelExcite _ => true | .levelRefbuf _ => true
  | .levelOpenwire _ => true | .levelTrigger _ => true | .detectorRead _ => true | .linearSet _ => true
  | .busXfer _ => true | .busRollcall _ => true | .busBranch _ => true | .busConfig _ => true
  | .cascadeMap _ => true | .cascadePlan _ => true | .cascadeForward _ => true | .paramGet _ => true
  | .paramSet _ => true | .updateBegin _ => true | .updateChunk _ => true | .updateCommit _ => true
  | .memoryInfo _ => true | .tallyRead _ => true | .tallyMark _ => true | .calendarSet _ => true
  | .timeGet _ => true | .attnConfig _ => true | .attnRoute _ => true | .telemetryRead _ => true
  | .telemetryClear _ => true | .testChallenge _ => true | .testUnlock _ => true | .selftest _ => true
  | .attestComplete _ => true | .updateBeginComplete _ _ => true | .updateChunkComplete _ _ => true
  | .updateCommitComplete _ _ _ => true | .referenceSaveComplete _ _ => true
  | .tallyReadComplete _ _ => true | .testUnlockComplete _ => true | .imageSnapshotComplete _ => true
  | .cascadePlanComplete _ => true | .busBranchCycleComplete _ => true | .scanStopPark _ => true
  | .heldReplyWrite _ => true | .queuedRecordWrite _ => true | .resetReplyTimeout _ => true
  | .storyPoleFaultClear _ => true | .crystalDeclaredRunning _ => true | .crystalSwitch _ => true
  | .crystalLost _ => true | .fallbackTakeover _ => true | .clk32DeclaredRunning _ => true
  | .clk32Lost _ => true | .frameStart _ => true | .frameSlotSkip _ => true
  | .selfPassComplete _ _ _ _ => true | .noiseAlarmClear _ => true | .activeSlotChange _ => true
  | .trackerFrame _ => true | .acquisitionPhase1 _ => true | .acquisitionPhase2End _ => true
  | .trackingBlockEnd _ => true | .nodeStateRelease _ _ => true | .baselineRegionRebuild _ _ => true
  | .tempSourceStale _ _ => true | .detectionSelfPass _ _ _ => true | .pumpSettled _ => true
  | .vdrvRestore _ => true | .probe _ _ => true | .thermalClampClear _ => true | .sleepEntry _ => true
  | .idleTimeout _ => true | .timerWake _ => true | .sillPeriodStart _ => true
  | .wakeCheckTimeout _ => true | .syncWakePulse _ _ => true | .vddLoss _ _ => true
  | .holdoffEnd _ _ => true | .wakePulseStart _ => true | .wakePulseEnd _ => true
  | .tenonPolarityTrial _ _ => true | .tenonRun _ _ => true | .tenonPortDown _ _ _ => true
  | .tenonBringupRestart _ _ => true | .tenonMessageCrcFail _ _ => true | .enumWindowClose _ => true
  | .memberReadyTimeout _ => true | .syncPulse _ _ => true | .syncLost _ => true
  | .planeServiceRound _ _ => true | .levelQueuedRecordWrite _ => true | .levelConversionStart _ => true
  | .excitationReversal _ => true | .excitationOvercurrent _ => true
  | .refbufSettled _ => true | .pd5PowerDown _ => true | .busStart _ => true
  | .busStartTimer _ _ _ _ => true | .busJobStart _ => true | .busTransactionEnd _ _ => true
  | .addressRetry _ => true | .clockStretchTimeout _ _ _ => true | .busFreeTimeout _ => true
  | .arbitrationLost _ => true | .arbitrationLostAtStop _ _ => true | .busJobTimeLimit _ => true
  | .sbAlertChange _ _ => true | .rollcallDue _ => true | .rollcallEnd _ => true | .envReadDue _ _ => true
  | .vbrCurrentLimit _ => true | .vbrReclose _ => true | .vbrClosingClear _ => true
  | .reverifyDue _ _ => true | .ledgerSnapshot _ _ => true | .imageVerificationComplete _ _ => true
  | .recoveryEntry _ => true | .tapPublicInstruction _ _ => true | .tapBoundaryTestMode _ _ => true
  | .tapPrivateInstruction _ _ => true | .challengeExpiry _ => true | .tallyRecordClose _ => true
  | .tallyTimeMark _ => true | .tallyDrain _ _ => true | .retentionCheck _ _ => true
  | .availabilityDayEnd _ => true | .telemetryPeriod _ => true | .powerOnReset _ _ => true
  | .resetNLow _ _ => true | .internalResetRelease _ _ _ => true | .vddLowWarningSet _ => true
  | .vddLowWarningClear _ => true | .pumpStartTimeout _ => true | .fuseStepWhileStopped _ _ => true
  | .nodeMemoryInitComplete _ => true | .discoveryComplete _ _ => true | .syncAnnounce _ _ => true
  | .busBusy _ => true

end Sys2Proof
end

