-- ==== Sys2Proof/Tests/Slice0.lean ====
section
/-! SUPPORT. The model's own tests: well-formedness, single steps on small states, and a witness of the premises of
each statement's clauses. -/

namespace Sys2Proof.Tests

open Sys2Proof Sys2Proof.Machine

set_option Elab.async false

/-! ## Small states -/

/-- The instant of the small states. -/
def t0 : Time := 0x100000000
/-- Booted, awake, stopped, standalone. -/
def up : State := { State.reset with
  boot := { Boot.initial with phase := .done, heldT := none, nodeInit := true, discovered := true }
  pwr := { Power.initial with pd1 := true, pd4 := true, nodesHeld := true }
  link := { Link.initial with busy := false, mode := 0, status := 0 }
  time := { TimeBase.initial with t := t0, stage := .placed, sourceFault := false, crystalRunning := true, declared := true }
  tally := { Tally.initial with invalid := false }
  mem := { Mem.initial with size := 4194304, eraseMin := 4096 } }
/-- A packet of 12 Table 12.1 in its bytes, padded to a multiple of 4. -/
def pkt (op tag : Nat) (par : List Byte) : List Byte :=
  let h := leBytes 1 op ++ leBytes 1 tag ++ leBytes 2 par.length ++ par
  let b := h ++ crcBytes h
  b ++ List.replicate ((4 - b.length % 4) % 4) 0
/-- `s` with one packet in the command ring, tag 9. -/
def cm (op : Nat) (par : List Byte) (s : State := up) : State :=
  let b := pkt op 9 par
  { s with cmd := ⟨[⟨b, .plain⟩], b.length, 0⟩ }
/-- `s` with these bytes as the one push in the command ring. -/
def raw (b : List Byte) (s : State := up) : State := { s with cmd := ⟨[⟨b, .plain⟩], b.length, 0⟩ }
/-- `s` with some parameters in front of its own. -/
def params (l : List (Nat × List Byte)) (s : State) : State := { s with params := l ++ s.params }
/-- `s` with 4 drive and 3 sense lines. -/
def small (s : State) : State := { s with front := { s.front with driveCount := 4, senseCount := 3 } }
/-- Scanning, with the frame in progress at a stage. -/
def fr (st : FrameStage) : State :=
  small { up with
    pwr := { up.pwr with pd2 := true }
    scan := { up.scan with
      phase := .frames, stage := st, frameTicks := 1000000, frameT := t0 - 100, slotT := t0 - 100
      activeSet := [0], frameCount := 5 } }
/-- The default values of some IDs, joined. -/
def dflt (ids : List Nat) : List Byte := ids.flatMap (paramDefault .klt3720)
/-- The packet at the front of the command ring. -/
def packetOf (s : State) : Packet :=
  match takePacket (benchFront s) with
  | .packet p _ => p
  | _ => ⟨0, 0, []⟩
/-- The key hash of image0's P-256 key, a published example key. -/
def keyHash0 : List Byte := [
  214, 194, 62, 39, 68, 168, 64, 203, 58, 90, 20, 182, 85, 76, 206, 124, 7, 0, 87, 196, 227, 41, 140, 185, 53,
  119, 222, 104, 126, 236, 230, 89]
/-- A parameter image of one record, signer_key, signed with that key over its header. -/
def image0 : List Byte := [
  75, 76, 84, 80, 1, 7, 0, 0, 0, 0, 0, 0, 68, 0, 0, 0, 7, 0, 0, 0, 0, 0, 0, 0, 0, 0, 0, 0, 0, 0, 0, 0, 142, 144,
  16, 37, 200, 46, 163, 153, 160, 48, 212, 77, 116, 181, 249, 21, 246, 196, 20, 9, 31, 122, 59, 252, 195, 96,
  199, 7, 28, 233, 87, 121, 47, 10, 64, 0, 96, 254, 212, 186, 37, 90, 157, 49, 201, 97, 235, 116, 198, 53, 109,
  104, 192, 73, 184, 146, 59, 97, 250, 108, 230, 105, 98, 46, 96, 242, 159, 182, 121, 3, 254, 16, 8, 184, 188,
  153, 164, 26, 233, 233, 86, 40, 188, 100, 242, 241, 178, 12, 45, 126, 159, 81, 119, 163, 194, 148, 212, 70,
  34, 153, 239, 212, 139, 42, 172, 182, 168, 253, 17, 64, 221, 156, 212, 94, 129, 214, 157, 44, 135, 123, 86,
  170, 249, 145, 195, 77, 14, 168, 78, 175, 55, 22, 39, 0, 114, 7, 21, 29, 141, 224, 36, 162, 188, 181, 213,
  100, 69, 52, 6, 241, 223, 245, 205, 36, 146, 84, 206, 247, 64, 71, 187, 190, 42, 72]
/-- `s` with image0's key hash in key slot 0. -/
def keyed (s : State) : State := { s with trust := { s.trust with keyHash := [keyHash0, [], [], []] } }
/-- The key hash of a key made to fit unlockPar. -/
def keyHash1 : List Byte := [
  185, 113, 33, 118, 192, 85, 247, 94, 37, 140, 85, 11, 115, 159, 120, 121, 81, 152, 218, 98, 116, 238, 187, 66,
  160, 228, 134, 35, 234, 187, 61, 147]
/-- The parameters of a TEST_UNLOCK: key slot 0, that key, and a signature that verifies over the challenge 00 and
0x54. -/
def unlockPar : List Byte := [
  0, 0, 0, 0, 159, 240, 174, 134, 92, 150, 38, 219, 135, 113, 239, 83, 245, 208, 252, 26, 224, 202, 182, 53,
  202, 36, 165, 226, 14, 245, 203, 39, 180, 128, 113, 126, 34, 143, 23, 81, 198, 157, 179, 148, 143, 234, 124,
  49, 178, 134, 159, 207, 158, 69, 61, 76, 78, 100, 99, 236, 34, 34, 58, 59, 141, 38, 85, 255, 252, 167, 128,
  102, 60, 110, 33, 104, 156, 173, 55, 195, 164, 46, 117, 88, 4, 224, 237, 145, 98, 164, 206, 8, 226, 220, 8,
  177, 156, 202, 174, 128, 252, 167, 128, 102, 60, 110, 33, 104, 156, 173, 55, 195, 164, 46, 117, 88, 4, 224,
  237, 145, 98, 164, 206, 8, 226, 220, 8, 177, 156, 202, 174, 128]
/-- `s` with that key in slot 0, which the image lets unlock. -/
def unlockable (s : State) : State :=
  { s with trust := { s.trust with keyHash := [keyHash1, [], [], []] }, params := (0xA21, [1]) :: s.params }
def tm (f : TimeBase → TimeBase) (s : State := up) : State := { s with time := f s.time }
def ln (f : LineSt → LineSt) (w : Nat) (s : State := up) : State := { s with front := { s.front with lines := [(w, f LineSt.healthy)] } }
def stg (st : FrameStage) (f : Scan → Scan) : State := { (fr st) with scan := f (fr st).scan }
def bt (ph : BootPhase) : State := { up with boot := { up.boot with phase := ph, releaseT := some 0, heldT := some 0 } }
def hd0 : SfdpHeader := ⟨0xFF00, 1, 16, ⟨true, 4194304, some 0x20, some 0xD8, 50, 50, 2, 256, 50, 2, some ⟨8, 0⟩, none, none, some ⟨4, 2⟩, 1⟩⟩
def sf0 : Sfdp := ⟨0xC84016, [0x53, 0x46, 0x44, 0x50], [⟨0xFF84, 1, 2, hd0.table⟩, hd0]⟩
def r0 : TallyRec := ⟨0, 5, 0x102, 0, 0, 0, 7⟩
def p12 (s : State) : State := { s with part := .klt3706, front := { s.front with driveCount := 96, senseCount := 64 } }
def dz (s : State) : State := { s with pwr := { s.pwr with st := 2 } }
def upd (f : Mem → Mem) (s : State) : State := { s with mem := f s.mem }
def bh (f : Bench → Bench) (s : State := up) : State := { s with bench := f s.bench }
def recordsWait3 : State := bh (fun b => {b with faultQueue := [List.replicate 16 7, [1]]})
def m' (f : Mem → Mem) (s : State := up) : State := { s with mem := f s.mem }

/-! ## Well-formedness: a term that each check refuses -/

/-- A header whose destination is no byte. -/
def hdrBad : MsgHdr := ⟨0, 256, 0, 0, 0⟩
/-- A header of bytes. -/
def hdrOk : MsgHdr := ⟨0, 1, 0, 7, 0⟩
/-- A line test on a word of no line. -/
def testBad : LineTest := ⟨192, 100, 0, []⟩
/-- A line test with a partner of no sense line. -/
def partnerBad : LineTest := ⟨191, 500, 0, [(0x8000 + 120, 100)]⟩
/-- A housekeeping gap without a finding. -/
def gapOk : GapIn := ⟨6400, 8000, 1800, [], 1000, [], [], 6400, false⟩
/-- A message payload of a byte more than 255 words. -/
def longPayload : List Byte := List.replicate 1021 0
/-- Bodies of messages, with nothing in them. -/
def reportEmpty : ReportBody := ⟨[], 0, 1, false, [], 0, [], [], [], false, false, false, false⟩
def directEmpty : DirectBody := ⟨[], 0, 0, none, [], [], [], none, [], [], 0⟩
def planEmpty : PlanBody := ⟨0, 1, 1, 5, [], [], 60, 1, [], 0⟩
/-- Commands that WellFormed refuses, one for each check. -/
def illFormed : List Instr := [
  .readReg 0 0 256 .full, .writeReg 0 0 256 [] 0 .full, .writeReg 0 0 1 [0, 0] 0 .full,
  .pushCmd 0 65536 [] .full, .pushCmd 0 4 [0, 0, 0, 0, 0] .full,
  .popReport 0 65536 .full, .popImage 0 65536 .full, .popRecord 0 65536 .full,
  .selftestComplete 0 0 [testBad], .fullLineCheckComplete 0 [partnerBad], .beatEdge (2 ^ 20),
  .mutualPassStart 0 8, .dovetailOutput 0 8 [], .planeCombine 0 [⟨0x8000, false⟩], .planeCombine 0 [⟨96, true⟩],
  .contactLift 0 64, .longPress 0 64, .tapDeferralSettle 0 64, .contactOwnerChange 0 64, .objectAbsorbed 0 64,
  .keyStateChange 0 256, .frameGroupWrite 0 101, .scarResolved 0 16, .tempReading 0 false 5 0,
  .driveOvercurrent 0 192, .lineFaultConfirmed 0 192 1 0, .lineFaultConfirmed 0 0 16 0, .lineReturn 0 0x8078,
  .housekeepingGap 0 { gapOk with tests := [testBad] }, .housekeepingGap 0 { gapOk with ecc := [⟨96, false⟩] },
  .sillReading 0 8 0, .pd1Pd4Ready 0 97]
/-- Messages and events of a cascade or of Level that WellFormed refuses. -/
def illFormedMessages : List Instr := [
  .scarfCross 0 hdrBad [], .scarfStrip 0 hdrBad [], .scarfCorner 0 hdrBad [], .report 0 hdrBad reportEmpty,
  .direct 0 hdrBad directEmpty, .time 0 hdrBad 0, .time 0 hdrOk (2 ^ 56), .plan 0 hdrBad planEmpty, .enum 0 hdrBad 0 0,
  .enum 0 hdrOk 256 0, .enum 0 hdrOk 0 256, .enumReply 0 hdrOk ⟨0, 1, 1, 1⟩ 256 0, .enumReply 0 hdrOk ⟨0, 1, 1, 1⟩ 0 256,
  .join 0 hdrBad ⟨0, 1, 1, 1⟩, .event 0 hdrOk longPayload, .forward 0 hdrOk longPayload, .forwardReply 0 hdrOk longPayload,
  .imageChunk 0 hdrOk 0 longPayload, .imageData 0 hdrOk longPayload true true, .ack 0 hdrBad 0 0,
  .ackTimeout 0 256 0 0, .ackTimeout 0 0 256 0, .ackTimeout 0 0 0 256, .memberLost 0 16 0,
  .levelTimerTrigger 0 16, .levelRequestEligible 0 16, .openWireCheckEnd 0 16, .referenceRead 0 4 true]

theorem test_ill_formed_refused : illFormed.all (fun i => !i.wf) = true := by decide +kernel
theorem test_ill_formed_messages_refused : illFormedMessages.all (fun i => !i.wf) = true := by decide +kernel
theorem test_well_formed : ([.readReg 0 0 255 .full, .pushCmd 0 4 [0, 0, 0, 0] .full, .contactLift 0 63, .lineReturn 0 0x8077,
    .housekeepingGap 0 gapOk, .time 0 hdrOk (2 ^ 56 - 1), .event 0 hdrOk (List.replicate 1020 0)] : List Instr).all
      Instr.wf = true := by decide +kernel

/-- The next state of an outcome. -/
def after (o : Host.Outcome State Fault Refusal) : Option State :=
  match o with
  | .next t => some t
  | _ => none
/-- The packet and the bytes of an outcome of takePacket. -/
def taken (b : List Byte) : Option (Packet × Nat) :=
  match takePacket b with
  | .packet p n => some (p, n)
  | _ => none

/-! ## The queue and the table's words -/

/-- The table gives no row bits, so no word spells a command. -/
theorem test_no_word_spells : decodeTableWord 32 0 = none ∧ State.reset.withFetchWord 32 0 = State.reset := ⟨rfl, rfl⟩

/-- An empty queue idles (log 1); else the front goes and the rest stays. -/
theorem test_step_takes_the_front :
    step up = .next up ∧
    (after (step { up with pending := [.attnPendingWrite 0 0, .nop 0] })).map (·.pending) = some [.nop 0] :=
  ⟨rfl, by decide +kernel⟩

theorem witness_StepRunsTheFront :
    (∃ s : State, s.pending = .nop 0 :: [.timeGet 0]) ∧ (∃ s : State, s.pending = []) :=
  ⟨⟨{ up with pending := [.nop 0, .timeGet 0] }, rfl⟩, ⟨up, rfl⟩⟩

theorem witness_EveryCommandCompletes :
    ¬ privateWhileUnlocked (.nop 0) up ∧ ¬ privateWhileUnlocked (.tapPrivateInstruction 0 5) up ∧
    privateWhileUnlocked (.tapPrivateInstruction 0 5) { up with trust := { up.trust with unlocked := true } } ∧
    privateWhileUnlocked (.tapPrivateInstruction 0 0xFE) { up with trust := { up.trust with unlocked := true } } := by
  unfold privateWhileUnlocked; decide +kernel

theorem witness_EveryStepKeepsInv : ∃ s t : State, s.Inv ∧ step s = .next t :=
  ⟨up, up, by unfold State.Inv LevelsFollow AttnFollows MessagesInOrder; decide +kernel, rfl⟩

/-! ## Worked examples of the spec -/

/-- 12, the worked packet after R357: NOP with tag 0x01. -/
theorem test_nop_packet : pkt 0x00 1 [] = [0x00, 0x01, 0x00, 0x00, 0xF0, 0xB3, 0x00, 0x00] ∧
    taken (pkt 0x00 1 []) = some (⟨0, 1, []⟩, 8) := by decide +kernel

/-- 12 Table 12.17: profile 0 of a KLT3720 runs with frame_ticks 34,952. -/
theorem test_default_frame : frameTicksOf .klt3720 [] none (profileOf .klt3720 [] 0) = 34952 := by decide +kernel

/-- 12 Table 12.17: the data of the PARAM_GET reply, in a record of 32 bytes. -/
theorem test_param_get_reply :
    (after (execParamGet 0 (cm 0x50 [0x00, 0x03, 0x13, 0x01]))).map (fun t =>
      t.report.items.map (fun i => (i.bytes.length, (i.bytes.drop 12).take 12))) =
    some [(32, [0x00, 0x03, 0x02, 0x00, 0x78, 0x00, 0x13, 0x01, 0x02, 0x00, 0xE0, 0x01])] := by decide +kernel

/-- 04, the example after R105: a KLT3706 at 400 Hz and at 300 Hz. -/
theorem test_frame_ticks :
    let t : PTab := [(0x100, [20]), (0x101, [24]), (0x102, [30]), (0x103, [34]), (0x104, [60]), (0x110, [0x1F, 0x00])]
    let p : Profile := ⟨7, 2, 2, [0, 1], 1, 1, false, false, false, 400, 0, 64, 0, 0⟩
    frameTicksOf .klt3706 t none p = 22016 ∧ frameTicksOf .klt3706 t none { p with rate := 300 } = 27962 ∧
    admissible .klt3706 t none 22016 p [0, 1] = true ∧ admissible .klt3706 t none 22016 p [0, 2] = false ∧
    admissible .klt3706 t none 27962 p [2, 4] = true ∧ admissible .klt3706 t none 27962 p [3, 4] = false := by
  decide +kernel

/-- 05, the worked combine after R134. -/
theorem test_combine : combineNode [(4194304, 820), (1048576, 815), (262144, 830)] = some 820 := by decide

/-- 02, the worked stamp after R45: F − 22,528 with P10. -/
theorem test_contact_stamp :
    let s := fr .written
    ({ s with scan := { s.scan with activeSet := [0, 1, 2], frameT := 0x1300002000, frameTicks := 32768 } }).frameStamp =
      0x12FFFFC800#56 := by decide +kernel

/-- 06, the worked example after R165: a reference value of 819 counts becomes a baseline of 815.33. -/
theorem test_reference_baseline :
    let s := params [(0x212, [150, 0]), (0x213, [0, 0])] (fr .written)
    let s := { s with
      base := { s.base with tComp := 1920 }
      front := { s.front with rails := List.replicate 5 7960 } }
    let img : List Byte := List.replicate 12 0 ++ [2, 0, 0, 0] ++ leBytes 2 8000 ++ leBytes 2 1024 ++ List.replicate 44 0 ++ leBytes 2 819
    refBaseline s img 0 0 / 256 = 815 ∧ (refBaseline s img 0 0 % 256) * 100 / 256 = 33 := by decide +kernel

/-- 11 Table 11.11: source 2 is claimed at 500, with its hold-off up to 8,692 and its vector. -/
def heldOff : State := { up with
  time := { up.time with t := 500 }
  attn := { up.attn with
    enable := 0x1FFFFFF, global := true, pending := 0x24, base := 0x20000, stride := 2
    groups := (up.attn.groups.set 1 ⟨7, 2, 8, none, 0⟩) } }

theorem test_held_off_claim :
    chosen heldOff = some 2 ∧ (claim 2 heldOff).attn.vector = 0x00020020 ∧
    ((claim 2 heldOff).attn.groups.getD 1 .initial).holdEnd = some 8692 ∧
    deliverable (claim 2 heldOff) 5 = false ∧ vectorOf heldOff.attn 5 = 0x00020050 := by decide +kernel

/-- 13, the environment example after R419: −29.98 degrees, held as −7,675. -/
theorem test_env_read :
    let v : List Byte := [0x44, 0, 2, 0x01, 2, 14, 0, 0, 0x0A, 0xD7, 0x23, 0x3C, 0x00, 0x00, 0x20, 0xC2]
    envRaw v [0x0F, 0xA8] = 1002 ∧ f32ScaleRound 256 (envValue false v [0x0F, 0xA8]) = -7675 := by decide +kernel

/-- 17, the worked loss figure after R493. -/
theorem test_loss_ppb : lossPpb { up.tel with days := [(622089492, 15)] } = 24 := by decide +kernel

/-- 16, the worked set after R474: a calendar set back by 4,600 s, beats 119,013,376. -/
theorem test_set_back :
    let s : State := { up with
      time := { up.time with
        t := BitVec.ofNat 56 (119013376 * 256), calendarSet := true
        calOffset := 800000000 * 65536 - 1048576 * 2 }
      tally := { up.tally with seq := 1004, started := true, lastMarkCal := some (800000000 * 65536) } }
    calendar s = 800003600 * 65536 ∧
    ((setCalendar (799999000 * 65536) s).tally.kept.map fun r => (r.seq, r.code, r.flags, r.data)) =
      [(1005, 1, 1, 799999000 * 65536), (1006, 7, 0, 119013376)] := by decide +kernel

/-! ## The image -/

/-- The signature of image0 verifies. -/
theorem image0_signature :
    ecdsaVerify (slice image0 68 64) (imgHeaderDigest image0) (slice image0 132 64) = true := by decide +kernel

/-- image0 passes every step of 15 Table 15.2 where its key is in slot 0. -/
theorem image0_verdict : imgVerdict up.part (keyed up).trust image0 = 0 := by
  have h1 : imgStructureOk image0 = true := by decide +kernel
  have h2 : bitAt (byteAt image0 5) (targetBit up.part) = true := by decide +kernel
  have h3 : signerKey image0 = some (slice image0 68 64) := by decide +kernel
  have h4 : firstKey up.part (keyed up).trust image0 (slice image0 68 64) = false := by decide +kernel
  have h5 : (keyed up).trust.programmed (imgKeySlot image0) = true := by decide +kernel
  have h6 : (keyed up).trust.revoked.getD (imgKeySlot image0) false = false := by decide +kernel
  have h7 : (keyed up).trust.keyHash.getD (imgKeySlot image0) [] = sha256 (slice image0 68 64) := by decide +kernel
  have h8 : ¬ imgRollback image0 < (keyed up).trust.steps := by decide +kernel
  have h9 : 64 + imgPayloadLen image0 = 132 := by decide +kernel
  unfold imgVerdict verdictOf
  simp only [h1, h2, h3, h4, h5, h6, h7, h8, h9, image0_signature, Bool.not_true, Bool.false_eq_true, if_false,
    bne_self_eq_false, Bool.and_false, Bool.not_false]

/-! ## Witnesses: Time and the panel front end -/

namespace Front

def mem' : State := { up with casc := { up.casc with role := .member, tile := some 5 } }
def rq : LvlReq := ⟨2, 0, false, 0, 1, none, false, true⟩
def lr0 : LvlRun := ⟨rq, [0,0,0,0,0,0,0,0,0,0], false, 0, 0, 0, 0, 0, 0, 0, false, [], [], false, false, false, none, 0, none, false, false, [0,0,0], [0,0,0], [0,0], [0,0], none, [], none, none⟩
def beatEdges1 : State := tm (fun y => {y with stage := .off})
def beatEdges5 : State := { up with lvl := { up.lvl with running := some lr0 } }
def timeSources1 : State := tm (fun y => {y with poleFault := true, inRange := 16})
def timeSources2 : State := tm (fun y => {y with crystalRunning := false, takeoverDue := true})
def timeSources4 : State := { mem' with
  front := { mem'.front with driveCount := 4, senseCount := 3 }
  scan := { mem'.scan with phase := .frames, stage := .started, frameTicks := 1000000, frameT := t0, slotT := t0, activeSet := [0], passesStarted := 1 } }
def small (s : State) : State := { s with front := { s.front with driveCount := 4, senseCount := 3 } }
def fr (st : FrameStage) : State := small { up with pwr := { up.pwr with pd2 := true }, scan := { up.scan with phase := .frames, stage := st, frameTicks := 1000000, frameT := t0 - 100, slotT := t0 - 100, activeSet := [0], frameCount := 5 } }
def linesAnd1 : State := ln (fun l => {l with aRun := 2}) 1
def linesAnd2 : State := ln (fun l => {l with bRun := 2}) 0x8001 (fr .started)
def linesAnd5 : State := ln (fun l => {l with cause := 1, passes := 3, forced := true}) 2
def railsAnd1 : State := { (fr .started) with front := { (fr .started).front with vdrvFallback := true, vdrvGood := 64 } }
def railsAnd2 : State := { (fr .none) with scan := { (fr .none).scan with phase := .waitPump } }
def railsAnd3 : State := { up with boot := { up.boot with thermalClamp := true, coolGaps := 64 } }
def meas1' : SelfMeas := { line := [100], ref := [200] }
def meas2' : SelfMeas := { line := [5, 400000], ref := [2] }
def meas3' : SelfMeas := { line := [7], ref := [2] }
def meas4' : SelfMeas := { line := [-5], ref := [2] }

theorem witness_BeatEdgesMeasure :
    -- beatEdge
    beatEdges1.calm := by
  unfold State.calm; decide +kernel

theorem witness_TimeSourcesChange_1 :
    -- storyPoleFaultClear
    (timeSources1.calm ∧ timeSources1.time.poleFault = true ∧ 16 ≤ timeSources1.time.inRange) ∧
    -- crystalDeclaredRunning
    (timeSources2.calm ∧ timeSources2.casc.role ≠ Role.member ∧ timeSources2.ownSource = false) ∧
    -- clk32DeclaredRunning
    (timeSources4.calm ∧ timeSources4.casc.role = Role.member ∧ timeSources4.ownSource = false) ∧
    -- crystalSwitch
    (timeSources1.calm ∧ timeSources1.time.declared = true ∧ (timeSources1.entered 0#8).midFrame = false) ∧
    -- fallbackTakeover
    (timeSources2.calm ∧ timeSources2.time.takeoverDue = true ∧ (timeSources2.entered 0#8).midFrame = false) ∧
    -- crystalLost
    (timeSources1.calm ∧ timeSources1.casc.role ≠ Role.member ∧ (timeSources1.ownSource = true ∨ timeSources1.time.declared = true) ∧
      timeSources1.lvl.running = none) := by
  refine ⟨?_, ?_, ?_, ?_, ?_, ?_⟩ <;> (try unfold State.calm) <;> decide +kernel

theorem witness_TimeSourcesChange_2 :
    -- crystalLost
    (beatEdges5.calm ∧ beatEdges5.casc.role ≠ Role.member ∧ (beatEdges5.ownSource = true ∨ beatEdges5.time.declared = true) ∧ beatEdges5.lvl.running
      = some lr0) ∧
    -- clk32Lost
    (timeSources4.calm ∧ timeSources4.casc.role = Role.member ∧ (timeSources4.ownSource = true ∨ timeSources4.time.declared = true) ∧
      timeSources4.lvl.running = none) := by
  refine ⟨?_, ?_⟩ <;> (try unfold State.calm) <;> decide +kernel

theorem witness_LinesAndSelfValues :
    -- lineFaultConfirmed
    (linesAnd1.calm ∧ recordsNow linesAnd1 ∧ faultDue (linesAnd1.entered 0#8) 1 = some (1, 65535)) ∧
    -- lineReturn
    (linesAnd5.calm ∧ recordsNow linesAnd5 ∧ (linesAnd5.line 2).cause ≠ 0 ∧ 3 ≤ (linesAnd5.line 2).passes ∧ (linesAnd5.prof.selfPass = false ∨
      (linesAnd5.line 2).openNow = false) ∧ (linesAnd5.entered 0#8).midFrame = false) ∧
    -- driveOvercurrent
    (linesAnd2.calm ∧ recordsNow linesAnd2 ∧ 0 < linesAnd2.front.driveCount ∧ (linesAnd2.entered 0#8).midFrame = true ∧ (linesAnd2.line 0).out =
      false) ∧
    -- selfPassComplete
    (linesAnd2.calm ∧ linesAnd2.scan.stage = FrameStage.started ∧ linesAnd2.prof.selfPass = true ∧ 0 ≤ 50 ∧ linesAnd2.front.driveCount ≤ [meas1',
      meas2', meas3', meas4'].length ∧ linesAnd2.front.senseCount ≤ [meas1', meas2', meas3', meas4'].length) ∧
    -- selfPassComplete
    (linesAnd2.calm ∧ linesAnd2.scan.stage = FrameStage.started ∧ linesAnd2.prof.selfPass = true ∧ 50 < 51 ∧ recordsNow linesAnd2) := by
  refine ⟨?_, ?_, ?_, ?_, ?_⟩ <;> (try unfold State.calm) <;> (try unfold recordsNow) <;> decide +kernel

theorem witness_RailsAndWarnings :
    -- vdrvRestore
    (railsAnd1.calm ∧ (railsAnd1.front.vdrvFallback = true ∨ railsAnd1.front.fallbackDue = true) ∧ 64 ≤ railsAnd1.front.vdrvGood) ∧
    -- pumpSettled
    (railsAnd1.calm ∧ railsAnd1.pwr.pd2 = true ∧ railsAnd1.front.driveSource = 1 ∧ railsAnd1.front.pumpSettled = false ∧ railsAnd1.scan.phase =
      ScanPhase.frames ∧ railsAnd1.bench.owed = none) ∧
    -- pumpStartTimeout
    (railsAnd2.calm ∧ railsAnd2.pwr.pd2 = true ∧ railsAnd2.front.driveSource = 1 ∧ railsAnd2.front.pumpSettled = false ∧ railsAnd2.front.vdrvFallback
      = false ∧ railsAnd2.bench.owed = none ∧ railsAnd2.scan.phase = ScanPhase.waitPump) ∧
    -- thermalClampClear
    (railsAnd3.calm ∧ railsAnd3.boot.thermalClamp = true ∧ 64 ≤ railsAnd3.boot.coolGaps ∧ recordsNow railsAnd3) ∧
    -- vddLowWarningSet
    (railsAnd1.calm ∧ railsAnd1.boot.vddLow = !true ∧ railsAnd1.attnOn = true ∧ recordsNow railsAnd1) := by
  refine ⟨?_, ?_, ?_, ?_, ?_⟩ <;> (try unfold State.calm) <;> (try unfold recordsNow) <;> decide +kernel

end Front

/-! ## Witnesses: Scanning -/

namespace Scan

def small (s : State) : State := { s with front := { s.front with driveCount := 4, senseCount := 3 } }
def fr (st : FrameStage) : State := small { up with pwr := { up.pwr with pd2 := true }, scan := { up.scan with phase := .frames, stage := st, frameTicks := 1000000, frameT := t0 - 100, slotT := t0 - 100, activeSet := [0], frameCount := 5 } }
def passesAre1 : State := fr .started
def passesAre2 : State := stg .started (fun c => {c with passesStarted := 1})
def passesAre4 : State := { passesAre1 with scan := { passesAre1.scan with frameT := t0 - BitVec.ofNat 56 ((fr .started).passStart 0) } }
def schedulerSteps1 : State := stg .decoded (fun c => {c with noiseAlarm := true, alarmClearDue := true})
def schedulerSteps2 : State := stg .written (fun c => {c with slotChange := some (0, 4), slotT := 0 })
def schedulerSteps3 : State := stg .decoded (fun c => {c with slotT := t0 - 1000000, frameT := t0 - 400000})
def schedulerSteps5 : State := { small up with scan := { up.scan with phase := .waitDetect } }
def schedulerSteps8 : State := { up with front := { up.front with lineChecked := false, lines := [] } }
def aFrame1 : State := { (fr .none) with scan := { (fr .none).scan with phase := .waitFrame } }
def theGap4 : State := stg .written (fun c => {c with level := 0, nextLevel := some 2})

theorem witness_PassesAreDecoded_1 :
    (16 ≤ 16 ∧ 1 < 16 ∧ edgeTime 0 16 ≤ 1 ∧ 1 < 16 / 2) ∧
    (16 ≤ 16 ∧ 12 < 16 ∧ 16 / 2 + edgeTime 0 16 ≤ 12) ∧
    (16 ≤ 16 ∧ 0 < 16 ∧ 0 < 16 / 2 ∧ levelBefore 1 1 = firstHalf 1 1) ∧
    (16 ≤ 16 ∧ 0 < 16 ∧ (2 * 0 < edgeTime 0 16 ∧ levelBefore 0 0 ≠ firstHalf 0 0 ∨ 16 / 2 ≤ 0 ∧ 2 * (0 - 16 / 2) < edgeTime 0 16)) ∧
    (passesAre4.calm ∧ passesAre4.scan.stage = FrameStage.started ∧ passesAre4.casc.role = Role.standalone) ∧
    -- mutualPassStart
    (passesAre4.calm ∧ passesAre4.scan.stage = FrameStage.started ∧ 0 = passesAre4.scan.passesStarted ∧ 0 < passesAre4.prof.passes ∧
      passesAre4.bench.parkDue = none ∧ passesAre4.scan.stopAt = none ∧ passNow (passesAre4.entered 0#8) 0 = true) := by
  refine ⟨?_, ?_, ?_, ?_, ?_, ?_⟩ <;> (try unfold State.calm) <;> decide +kernel

theorem witness_PassesAreDecoded_2 :
    -- dovetailOutput
    passesAre2.calm ∧ passesAre2.scan.stage = FrameStage.started ∧ 0 = passesAre2.scan.passes.length ∧ 0 < passesAre2.scan.passesStarted ∧
      passesAre2.casc.role = Role.standalone := by
  unfold State.calm; decide +kernel

theorem witness_SchedulerSteps_1 :
    -- noiseAlarmClear
    (schedulerSteps1.calm ∧ schedulerSteps1.scan.noiseAlarm = true ∧ schedulerSteps1.scan.alarmClearDue = true) ∧
    -- activeSlotChange
    (schedulerSteps2.calm ∧ schedulerSteps2.scan.slotChange = some (0, 4) ∧ (schedulerSteps2.scan.stage = FrameStage.none ∨
      schedulerSteps2.scan.stage = FrameStage.written) ∧ (schedulerSteps2.entered 0#8).midFrame = false) ∧
    -- probe
    (schedulerSteps3.calm ∧ schedulerSteps3.scan.stage ≠ FrameStage.none ∧ schedulerSteps3.scan.stage ≠ FrameStage.started ∧
      schedulerSteps3.scan.probed = false ∧ schedulerSteps3.scan.gapDone = false ∧ schedulerSteps3.fnat 278 ≠ 0 ∧ probeCandidate schedulerSteps3 =
      some 1 ∧ 0 < schedulerSteps3.front.senseCount ∧ schedulerSteps3.colOk 0 = true ∧ reached (schedulerSteps3.entered 0#8).now (tAdd
      schedulerSteps3.scan.frameT (schedulerSteps3.gapBegan + 2048 + 32 * periodOf schedulerSteps3.part schedulerSteps3.scan.latched 1)) = true) ∧
    -- fullLineCheckComplete
    (schedulerSteps8.calm ∧ schedulerSteps8.front.lineChecked = false ∧ schedulerSteps8.boot.phase = BootPhase.done ∧ schedulerSteps8.link.mode ≠ 2 ∧
      schedulerSteps8.pwr.pd1 = true ∧ schedulerSteps8.casc.role ≠ Role.member ∧ schedulerSteps8.scan.phase = ScanPhase.stopped) ∧
    -- detectionSelfPass
    (schedulerSteps5.calm ∧ schedulerSteps5.scan.phase = ScanPhase.waitDetect ∧ schedulerSteps5.casc.role = Role.standalone ∧
      schedulerSteps5.bench.owed = none ∧ 0 ≤ 50) ∧
    -- detectionSelfPass
    (schedulerSteps5.calm ∧ schedulerSteps5.scan.phase = ScanPhase.waitDetect ∧ schedulerSteps5.casc.role = Role.standalone ∧
      schedulerSteps5.bench.owed = none ∧ 50 < 51 ∧ recordsNow schedulerSteps5) := by
  refine ⟨?_, ?_, ?_, ?_, ?_, ?_⟩ <;> (try unfold State.calm) <;> (try unfold recordsNow) <;> decide +kernel

theorem witness_SchedulerSteps_2 :
    -- frameSlotSkip
    schedulerSteps3.calm ∧ schedulerSteps3.scan.phase = ScanPhase.frames ∧ (schedulerSteps3.scan.stage = FrameStage.decoded ∨
      schedulerSteps3.scan.stage = FrameStage.combined ∨ schedulerSteps3.scan.stage = FrameStage.tracked) ∧ reached (schedulerSteps3.entered 0#8).now
      (schedulerSteps3.scan.slotT + BitVec.ofNat 56 schedulerSteps3.scan.frameTicks) = true := by
  unfold State.calm; decide +kernel

theorem witness_AFrameStarts :
    -- frameStart
    aFrame1.casc.role = Role.standalone ∧ aFrame1.pwr.entry = none ∧ aFrame1.pwr.checkFailed = false ∧ aFrame1.pwr.sleepDue = false ∧
      aFrame1.casc.redo = false ∧ aFrame1.scan.stopAt = none ∧ aFrame1.bench.owed = none ∧ frameDue (aFrame1.entered 0#8) = some t0 ∧
      ((aFrame1.scan.phase ≠ ScanPhase.waitFrame ∧ aFrame1.dozeOk = false ∧ ∃ c p, aFrame1.pwr.next = some (2, c, p) ∧ (c = 7 ∨ c = 8)) → (none :
      Option (Nat × Nat × Nat)) = none) ∧ (¬(aFrame1.scan.phase ≠ ScanPhase.waitFrame ∧ aFrame1.dozeOk = false ∧ ∃ c p, aFrame1.pwr.next = some (2,
      c, p) ∧ (c = 7 ∨ c = 8)) → none = aFrame1.pwr.next) := by
  refine ⟨by decide +kernel, by decide +kernel, by decide +kernel, by decide +kernel, by decide +kernel, by decide +kernel, by decide +kernel, by decide +kernel, fun _ => rfl, fun _ => rfl⟩

theorem witness_TheGapRunsItsTasks :
    -- housekeepingGap
    theGap4.calm ∧ theGap4.scan.stage = FrameStage.written ∧ theGap4.scan.gapDone = false := by
  unfold State.calm; decide +kernel

end Scan

/-! ## Witnesses: Node values, baselines and contacts -/

namespace Touch

def par (l : List (Nat × List Byte)) (s : State) : State := { s with params := l ++ s.params }
def small (s : State) : State := { s with front := { s.front with driveCount := 4, senseCount := 3 } }
def fr (st : FrameStage) : State := small { up with pwr := { up.pwr with pd2 := true }, scan := { up.scan with phase := .frames, stage := st, frameTicks := 1000000, frameT := t0 - 100, slotT := t0 - 100, activeSet := [0], frameCount := 5 } }
def ch (s : State) (c : Contact) : State := { s with trk := { s.trk with contacts := [c] } }
def pd (i : Nat) (vs : List (List (Option Int))) (v : List (Option Nat)) : PassData := ⟨i, i, vs, [[false,false,false,false],[false,false,false,false],[false,false,false,false]], [false, true, false], v⟩
def g1 : List (List (Option Int)) := [[some 100, some 50, none, some (-7)],[some 3, some 4, some 5, some 6],[some 1, none, some 0, some 9]]
def g2 : List (List (Option Int)) := [[some 101, some 53, none, some (-8)],[some 13, some 14, some 15, some 16],[some 1, none, some 0, some 9]]
def bn (b : Int) (st : NodeSt) : BNode := ⟨b, st, 3, 2, 0, 4*b+100, 4, 7*b, 5, false⟩
def bns : List (List BNode) := (List.range 3).map fun x => (List.range 4).map fun y => bn (256 * (x * 10 + y : Nat)) .free
def bnsH : List (List BNode) := (List.range 3).map fun x => (List.range 4).map fun y => bn (256 * (x * 10 + y : Nat)) (if x = 1 then .held else .free)
def cns : List (List CNode) := (List.range 3).map fun x => (List.range 4).map fun y => ⟨(x * 7 + y : Nat), false, false, false⟩
def withBase (f : Base → Base) (s : State) : State := { s with base := f s.base, plane := { s.plane with combined := cns, since := 10 } }
def dec (f : Scan → Scan) : State := stg .decoded (fun c => f { c with passes := [pd 0 g1 [some 4, some 0, none], pd 1 g2 [some 9, none, some 3]] })
def ty (s : State) : State := { s with plane := { s.plane with y := (List.range 3).map (fun _ => [256,512,-100,77]), warm := (List.range 3).map (fun _ => [0,255,0,3]) } }
def passesCombine1 : State := dec id
def passesCombine4 : State := ty (dec (fun c => {c with dropped := true}))
def p2d : List (List BNode) := (List.range 3).map fun x => (List.range 4).map fun y => { bn (256 * (x * 10 + y : Nat)) .free with p2n := 40, p2 := 41 * (x * 300 + y : Nat) }
def refd (s : State) : State := { s with mem := { s.mem with refsHeld := [some (referenceImage (withBase (fun b => {b with acq := .idle, nodes := bns, inForce := true}) (fr .combined)))] } }
def acquisitionRuns1 : State := withBase (fun b => {b with acq := .wait 0 true, nodes := bns}) (fr .combined)
def acquisitionRuns4 : State := refd (withBase (fun b => {b with acq := .wait 0 false, nodes := bns}) (fr .combined))
def acquisitionRuns5 : State := { (withBase (fun b => {b with acq := .phase2 1 0xFE 63 5, nodes := p2d}) (fr .combined)) with bench := { up.bench with outstanding := [⟨3,0x18,4,[0],0⟩] } }
def ct : Contact := ⟨4, 3, false, 5, 0, 64, 64, 1, 64, 64, 1, 65, 66, 65, 66, 20, 5, 5, 64, 64, t0 - 1000000, 60, 60, 100, t0 - 500, false, false, false, false, false, false, [(1,1,20)], 1, false, 0, none⟩
def ctPresent : Contact := { ct with present := true }
def ctLong : Contact := { ct with start := 0 }
def baselinesAnd1 : State := withBase (fun b => {b with blockLen := 4, blockAt := 4, nodes := bns, inForce := true}) (fr .combined)
def baselinesAnd3 : State := withBase (fun b => {b with releaseDue := [4,5], nodes := bnsH, inForce := true}) (fr .combined)
def baselinesAnd4 : State := withBase (fun b => {b with scars := [⟨0,0,1,1,3⟩], scarDue := [(0, [(0,0),(0,1),(1,1)])], nodes := bnsH, inForce := true}) (fr .tracked)
def baselinesAnd5 : State := ch (withBase (fun b => {b with absorbDue := [4], nodes := bns, inForce := true}) (fr .tracked)) ct
def baselinesAnd6 : State := withBase (fun b => {b with rebuildDue := 2, nodes := bns, inForce := true}) (fr .written)
def baselinesAnd8 : State := withBase (fun b => {b with tempSrc := 1, humidSrc := 2, tempLast := some 0}) up
def baselinesAnd10 : State := withBase (fun b => {b with tempSrc := 2, tempFallback := true}) up
def baselinesAnd11 : State := withBase (fun b => {b with tempSrc := 1, tempLast := some 0, tDie := 6500, dieRead := some 0}) up
def theTracker1 : State := stg .combined (fun c => {c with dropped := true})
def theTracker2 : State := fr .combined
def theTracker3 : State := ch (withBase (fun b => {b with nodes := bns, inForce := true, delta := (List.range 3).map fun _ => [0,0,0,0]}) (fr .combined)) ct
def tap : TapRec := ⟨4, 3, t0 - 1000000, t0 - 500000, 64, 64, 65, 66, 9, false, some 7, none⟩
def gon (b : List Byte) (s : State) : State := { s with scan := { s.scan with latched := (0x310, b) :: s.scan.latched } }
def due (s : State) (c : Contact) : State := { (ch s c) with trk := { (ch s c).trk with liftDue := [c.id], stamp := t0 - 100 } }
def contactsAnd1 : State := due (fr .combined) ctPresent
def contactsAnd3 : State := due (gon [2,0,0,0] (fr .tracked)) ct
def contactsAnd5 : State := { (ch (gon [8,0,0,0] (fr .tracked)) ctLong) with trk := { (ch (fr .tracked) ctLong).trk with stamp := t0 - 100 } }
def contactsAnd7 : State := { (gon [2,0,0,0] (fr .tracked)) with trk := { up.trk with taps := [tap, {tap with id := 5, partner := none}], stamp := t0 - 100 } }
def contactsAnd8 : State := { (fr .tracked) with trk := { up.trk with keys := [(0, { Key.idle with due := some .on, value := 5 }), (2, { Key.idle with phase := .on, due := some .off, value := 5, onStamp := 77 })], stamp := t0 - 100 } }
def contactsAnd9 : State := { (ch (fr .tracked) ct) with trk := { (ch (fr .tracked) ct).trk with ownerDue := [(4, 2), (5, 0)] } }
def k1 : State := { (ch (withBase id (fr .tracked)) { ct with fresh := true }) with trk := { (ch (fr .tracked) { ct with fresh := true }).trk with stamp := t0 - 100, gests := [⟨1, 4, List.replicate 16 7⟩], keys := [(0, { Key.idle with phase := .on, changes := 1, value := 5 })] } }
def full (s : State) : State := { s with report := { s.report with head := 16300 } }
def groupsAre1 : State := stg .tracked (fun c => {c with dropped := true})
def groupsAre2 : State := fr .tracked
def groupsAre3 : State := full k1
def cmd1' : Deferred := { tag := 3, opcode := 24, seq := 4, par := [0], t := 0 }

theorem witness_PassesCombine :
    -- planeCombine
    (passesCombine4.calm ∧ passesCombine4.scan.stage = FrameStage.decoded ∧ passesCombine4.scan.noiseAlarm = false ∧ passesCombine4.scan.dropped =
      true) ∧
    -- planeCombine
    (passesCombine1.calm ∧ passesCombine1.scan.stage = FrameStage.decoded ∧ passesCombine1.scan.noiseAlarm = false ∧ passesCombine1.scan.dropped =
      false ∧ passesCombine1.casc.role = Role.standalone) := by
  refine ⟨?_, ?_⟩ <;> (try unfold State.calm) <;> decide +kernel

theorem witness_AcquisitionRuns :
    -- acquisitionPhase1
    (acquisitionRuns1.calm ∧ acquisitionRuns1.scan.stage = FrameStage.combined ∧ acquisitionRuns1.scan.dropped = false ∧ acquisitionRuns1.base.acq =
      Acq.wait 0 true) ∧
    -- acquisitionPhase1
    (acquisitionRuns4.calm ∧ acquisitionRuns4.scan.stage = FrameStage.combined ∧ acquisitionRuns4.scan.dropped = false ∧ acquisitionRuns4.base.acq =
      Acq.wait 0 false ∧ (selectRef (acquisitionRuns4.entered 0#8) (acquisitionRuns4.fnat 518)).toOption = some 0) ∧
    (acquisitionRuns5.calm ∧ acquisitionRuns5.scan.stage ≠ FrameStage.started ∧ acquisitionRuns5.base.acq = Acq.phase2 1 254 63 5 ∧ phase2Done
      acquisitionRuns5 = true ∧ writesNow acquisitionRuns5 6 ∧ acquisitionRuns5.atTurn cmd1' ∧ List.filter (fun d => d.opcode == 24)
      acquisitionRuns5.running = [cmd1'] ∧ cmd1'.opcode = 24) := by
  refine ⟨?_, ?_, ?_⟩ <;> (try unfold State.calm) <;> (try unfold State.atTurn) <;> (try unfold writesNow) <;> (try unfold replyFits) <;> decide +kernel

theorem witness_BaselinesAndTemperature_1 :
    -- trackingBlockEnd
    (baselinesAnd1.calm ∧ baselinesAnd1.scan.stage ≠ FrameStage.started ∧ blockDue baselinesAnd1 = true ∧ baselinesAnd1.base.releaseDue = []) ∧
    -- nodeStateRelease
    (baselinesAnd3.calm ∧ 1 < baselinesAnd3.front.senseCount ∧ 0 < baselinesAnd3.gridRows ∧ 1 * baselinesAnd3.gridRows + 0 ∈
      baselinesAnd3.base.releaseDue ∧ (List.getD baselinesAnd3.base.nodes 1 [])[0]? = some (bn (256 * ↑(1 * 10 + 0)) (if 1 = 1 then NodeSt.held else
      NodeSt.free)) ∧ (bn (256 * ↑(1 * 10 + 0)) (if 1 = 1 then NodeSt.held else NodeSt.free)).st = NodeSt.held) ∧
    -- scarResolved
    (baselinesAnd4.calm ∧ List.find? (fun e => e.fst == 0) baselinesAnd4.base.scarDue = some (0, (0, [(0, 0), (0, 1), (1, 1)]).snd)) ∧
    -- objectAbsorbed
    (baselinesAnd5.calm ∧ 4 ∈ baselinesAnd5.base.absorbDue ∧ List.find? (fun c => c.id == 4) baselinesAnd5.trk.contacts = some ct ∧ recordsNow
      baselinesAnd5 ∧ baselinesAnd5.casc.role = Role.standalone) ∧
    -- baselineRegionRebuild
    (baselinesAnd6.calm ∧ 0 < baselinesAnd6.base.rebuildDue ∧ recordsNow baselinesAnd6) ∧
    -- tempReading
    (baselinesAnd6.calm ∧ baselinesAnd6.casc.role = Role.standalone ∧ baselinesAnd6.scan.stage = FrameStage.written ∧ baselinesAnd6.base.dieRead =
      none) := by
  refine ⟨?_, ?_, ?_, ?_, ?_, ?_⟩ <;> (try unfold State.calm) <;> (try unfold recordsNow) <;> decide +kernel

theorem witness_BaselinesAndTemperature_2 :
    -- tempReading
    (baselinesAnd11.calm ∧ baselinesAnd11.casc.role = Role.standalone ∧ 1 ≠ 0 ∧ baselinesAnd11.base.tempSrc = 1 ∧ baselinesAnd11.base.tempFallback =
      false) ∧
    -- tempReading
    (baselinesAnd10.calm ∧ baselinesAnd10.casc.role = Role.standalone ∧ 2 ≠ 0 ∧ baselinesAnd10.base.tempSrc = 2 ∧ baselinesAnd10.base.tempFallback =
      true ∧ recordsNow baselinesAnd10) ∧
    -- tempReading
    (baselinesAnd8.calm ∧ baselinesAnd8.casc.role = Role.standalone ∧ 2 ≠ 0 ∧ baselinesAnd8.base.humidSrc = 2) ∧
    -- tempSourceStale
    (baselinesAnd11.calm ∧ baselinesAnd11.casc.role = Role.standalone ∧ baselinesAnd11.base.tempLast = some 0#56 ∧ reached (baselinesAnd11.entered
      0#8).now (0#56 + BitVec.ofNat 56 (8388608 * baselinesAnd11.bnat 529)) = true ∧ baselinesAnd11.base.tempFallback = false ∧
      baselinesAnd11.base.tempSrc ≠ 0 ∧ recordsNow baselinesAnd11) := by
  refine ⟨?_, ?_, ?_, ?_⟩ <;> (try unfold State.calm) <;> (try unfold recordsNow) <;> decide +kernel

theorem witness_TheTrackerMisses :
    -- trackerFrame
    (theTracker1.calm ∧ theTracker1.scan.stage = FrameStage.combined ∧ theTracker1.scan.dropped = true) ∧
    -- trackerFrame
    (theTracker2.calm ∧ theTracker2.scan.stage = FrameStage.combined ∧ theTracker2.scan.dropped = false ∧ theTracker2.casc.role = Role.standalone ∧
      phase1Due theTracker2 = none ∧ theTracker2.base.releaseDue = [] ∧ theTracker2.base.forcedNow = false ∧ theTracker2.trk.ownerDue = [] ∧
      theTracker2.trk.keySkip = [] ∧ theTracker2.noContacts = true) ∧
    -- trackerFrame
    (theTracker3.calm ∧ theTracker3.scan.stage = FrameStage.combined ∧ theTracker3.scan.dropped = false ∧ theTracker3.casc.role = Role.standalone ∧
      phase1Due theTracker3 = none ∧ theTracker3.base.releaseDue = [] ∧ theTracker3.base.forcedNow = false ∧ theTracker3.trk.ownerDue = [] ∧
      theTracker3.trk.keySkip = [] ∧ theTracker3.noContacts = false ∧ touched theTracker3 = [] ∧ (∀ (c : Contact), c ∈ theTracker3.trk.contacts →
      c.palm = false ∧ 0 < c.age)) := by
  refine ⟨?_, ?_, ?_⟩ <;> (try unfold State.calm) <;> decide +kernel

theorem witness_ContactsAndKeysTurn :
    -- contactLift
    (contactsAnd1.calm ∧ contactsAnd1.trk.liftDue = [4] ∧ List.find? (fun c => c.id == 4) contactsAnd1.trk.contacts = some ctPresent ∧ List.filter
      (fun t => t.partner == some 4) contactsAnd1.trk.taps = [] ∧ ctPresent.barred = true) ∧
    -- contactLift
    (contactsAnd3.calm ∧ contactsAnd3.trk.liftDue = [4] ∧ List.find? (fun c => c.id == 4) contactsAnd3.trk.contacts = some ct ∧ List.filter (fun t =>
      t.partner == some 4) contactsAnd3.trk.taps = [] ∧ mayTap contactsAnd3 ct = true ∧ contactsAnd3.gestOn 1 = true ∧ contactsAnd3.gestOn 2 = false
      ∧ contactsAnd3.gestOn 9 = false ∧ (ct.x - ct.sx).natAbs < contactsAnd3.fnat 791 ∧ (ct.y - ct.sy).natAbs < contactsAnd3.fnat 791) ∧
    -- longPress
    (contactsAnd5.calm ∧ contactsAnd5.scan.stage = FrameStage.tracked ∧ List.find? (fun c => c.id == 4) contactsAnd5.trk.contacts = some ctLong ∧
      pressReady contactsAnd5 ctLong = true) ∧
    -- tapDeferralSettle
    (contactsAnd7.calm ∧ contactsAnd7.scan.stage = FrameStage.tracked ∧ List.find? (fun t => t.id == 4 && settleReady contactsAnd7 t)
      contactsAnd7.trk.taps = some tap ∧ contactsAnd7.gestOn 1 = true ∧ (contactsAnd7.gestOn 2 = false ∨ firstTap
      { part := contactsAnd7.part, dieRevision := contactsAnd7.dieRevision, time := contactsAnd7.time, front := contactsAnd7.front, scan := contactsAnd7.scan, plane := contactsAnd7.plane, base := contactsAnd7.base, trk := have __src := contactsAnd7.trk; { contacts := __src.contacts, ended := __src.ended, gens := __src.gens, keys := __src.keys, keyChanges := __src.keyChanges, keySkip := __src.keySkip, taps := List.filter (fun x => x != tap) contactsAnd7.trk.taps, gests := __src.gests, queue := __src.queue, lost := __src.lost, withheld := __src.withheld, heldFlags := __src.heldFlags, heldValid := __src.heldValid, refused := __src.refused, tooMany := __src.tooMany, liftDue := __src.liftDue, ownerDue := __src.ownerDue, sillSwipe := __src.sillSwipe, stamp := __src.stamp, heldSources := __src.heldSources }, pwr := contactsAnd7.pwr, casc := contactsAnd7.casc, lvl := contactsAnd7.lvl, link := contactsAnd7.link, attn := contactsAnd7.attn, cmd := contactsAnd7.cmd, report := contactsAnd7.report, image := contactsAnd7.image, record := contactsAnd7.record, bench := contactsAnd7.bench, params := contactsAnd7.params, bus := contactsAnd7.bus, mem := contactsAnd7.mem, trust := contactsAnd7.trust, tally := contactsAnd7.tally, tel := contactsAnd7.tel, boot := contactsAnd7.boot, pending := contactsAnd7.pending, freeIdx := contactsAnd7.freeIdx }
      tap = none)) ∧
    -- keyStateChange
    (contactsAnd8.calm ∧ (contactsAnd8.key 0).due = some KeyPhase.on ∧ (contactsAnd8.key 0).cancelled = false) ∧
    -- contactOwnerChange
    (contactsAnd9.calm ∧ List.find? (fun e => e.fst == 4) contactsAnd9.trk.ownerDue = some (4, 2)) := by
  refine ⟨?_, ?_, ?_, ?_, ?_, ?_⟩ <;> (try unfold State.calm) <;> decide +kernel

theorem witness_GroupsAreWrittenWhole :
    -- frameGroupWrite
    (groupsAre1.calm ∧ groupsAre1.scan.stage = FrameStage.tracked ∧ groupsAre1.scan.noiseAlarm = false ∧ groupsAre1.pwr.wakeCheck = false ∧
      groupsAre1.scan.dropped = true) ∧
    -- frameGroupWrite
    (groupsAre2.calm ∧ groupsAre2.scan.stage = FrameStage.tracked ∧ groupsAre2.scan.noiseAlarm = false ∧ groupsAre2.pwr.wakeCheck = false ∧
      groupsAre2.scan.dropped = false ∧ groupsAre2.casc.role = Role.standalone ∧ groupSize (snapFrame (streamFrame (flushFrame (takeMargin 0
      (groupsAre2.entered 0#8))))) + groupsAre2.fnat 777 ≤ (snapFrame (streamFrame (flushFrame (takeMargin 0 (groupsAre2.entered 0#8))))).report.free
      (snapFrame (streamFrame (flushFrame (takeMargin 0 (groupsAre2.entered 0#8))))).reportSize) ∧
    -- frameGroupWrite
    (groupsAre3.calm ∧ groupsAre3.scan.stage = FrameStage.tracked ∧ groupsAre3.scan.noiseAlarm = false ∧ groupsAre3.pwr.wakeCheck = false ∧
      groupsAre3.scan.dropped = false ∧ groupsAre3.casc.role = Role.standalone ∧ (snapFrame (streamFrame (flushFrame (takeMargin 0
      (groupsAre3.entered 0#8))))).report.free (snapFrame (streamFrame (flushFrame (takeMargin 0 (groupsAre3.entered 0#8))))).reportSize < groupSize
      (snapFrame (streamFrame (flushFrame (takeMargin 0 (groupsAre3.entered 0#8))))) + groupsAre3.fnat 777) := by
  refine ⟨?_, ?_, ?_⟩ <;> (try unfold State.calm) <;> decide +kernel

end Touch

/-! ## Witnesses: Level -/

namespace Level

def par (l : List (Nat × List Byte)) (s : State) : State := { s with params := l ++ s.params }
def lv (f : Level → Level) (s : State := up) : State := { s with lvl := f s.lvl }
def rq : LvlReq := ⟨1, t0-5, false, 0, 1, none, false, true⟩
def en : List Byte := [0x20, 2, 3, 0, 0, 0, 0, 0, 0, 0, 0, 0]
def tr : List Byte := [1, 0, 2, 0, 5, 0, 7, 0]
def lr0 : LvlRun := ⟨rq, en, false, t0 - 512, t0 - 512, t0 - 480, 2, 0, 0, 0, false, [⟨false,false,false⟩], [⟨false,false,false⟩], false, false, false, none, t0 - 512, none, false, false, [0,0,0], [0,0,0], [0,0], [0,0], none, [], none, none⟩
def base0 : State := par [(0x601, en), (0x621, tr), (0x602, en), (0x622, tr)] up
def base : State := lv (fun l => {l with slots := l.slots.set 1 { LvlSlot.initial with timerNext := some (t0 - 10) }, pd5 := true, pd5Since := 0 }) base0
def rqLate : LvlReq := { rq with ready := false }
def rqFar : LvlReq := { rq with slot := 2, ready := false, eligible := t0 + 7 }
def rqTwo : LvlReq := { rq with slot := 2 }
def runCheck : LvlRun := { lr0 with checking := true, startT := t0 - 2048, checkT := t0 - 2048 }
def runMid : LvlRun := { lr0 with fineT := t0 - 544 }
def levelConverts1 : State := lv (fun l => {l with queue := [rqLate, rqFar]}) base
def levelConverts3 : State := lv (fun l => {l with queue := [rq, rqTwo]}) base
def levelConverts4 : State := lv (fun l => {l with running := some runCheck}) base
def levelConverts5 : State := lv (fun l => {l with running := some lr0}) base
def levelConverts6 : State := lv (fun l => {l with running := some runMid}) base
def levelConverts8 : State := lv (fun l => {l with waiting := [(1, List.replicate 32 6)]}) base
def levelConverts9 : State := lv (fun l => {l with nextEdge := some (t0-3), excOn := true, halfPeriod := 3}) (par [(0x611,[1])] base)
def levelConverts10 : State := lv (fun l => {l with bufOn := true, bufT := 0}) (par [(0x610,[1])] base)
def levelConverts11 : State := lv (fun l => {l with idleSince := some (t0 - 65536)}) (par [(0x610,[0]),(0x611,[0])] base)
def runKnown : LvlRun := { lr0 with checking := true, startT := t0 - 2048, checkT := t0 - 2048, owCode := some 8000000 }
def held1 : LvlHeld := ⟨lr0, ⟨700, false, false, false, ⟨false, false, false⟩⟩, t0 - 32, t0 - 40, 0, true⟩
def levelConverts13 : State := lv (fun l => {l with running := some runKnown}) base
def levelConverts15 : State := lv (fun l => {l with held := [held1]}) base

theorem witness_LevelConvertsAndSupplies_1 :
    -- levelTimerTrigger
    (base.calm ∧ 1 < base.lvl.slots.length ∧ (base.lvl.slots.getD 1 LvlSlot.initial).timerNext = some (t0 - 10) ∧ (base.lvl.slots.getD 1
      LvlSlot.initial).trigWas = none ∧ base.pwr.pd1 = true ∧ reached (base.entered 0#8).now (t0 - 10) = true ∧ byteAt (base.lvlTrigger 1) 0 = 1 ∧
      byteAt (base.lvlEntry 1) 0 ≠ 255 ∧ slotBusy base 1 = false) ∧
    -- levelTimerTrigger
    (levelConverts1.calm ∧ 1 < levelConverts1.lvl.slots.length ∧ (levelConverts1.lvl.slots.getD 1 LvlSlot.initial).timerNext = some (t0 - 10) ∧
      (levelConverts1.lvl.slots.getD 1 LvlSlot.initial).trigWas = none ∧ levelConverts1.pwr.pd1 = true ∧ reached (levelConverts1.entered 0#8).now (t0
      - 10) = true ∧ byteAt (levelConverts1.lvlTrigger 1) 0 = 1 ∧ byteAt (levelConverts1.lvlEntry 1) 0 ≠ 255 ∧ slotBusy levelConverts1 1 = true) ∧
    -- levelRequestEligible
    (levelConverts1.calm ∧ rqLate ∈ levelConverts1.lvl.queue ∧ reached (levelConverts1.entered 0#8).now rqLate.eligible = true ∧
      levelConverts1.part.hasLevel = true ∧ levelConverts1.pwr.pd1 = true) ∧
    -- levelConversionStart
    (levelConverts3.calm ∧ List.find? (fun x => x.ready) levelConverts3.lvl.queue = some rq ∧ mayStart (levelConverts3.entered 0#8) = true ∧ byteAt
      (levelConverts3.lvlEntry rq.slot) 0 ≠ 255 ∧ edgeActs (levelConverts3.lvlEntry rq.slot) = false) ∧
    -- planeServiceRound
    (levelConverts4.calm ∧ levelConverts4.lvl.running = some runCheck ∧ runCheck.checking = true ∧ runCheck.stopReq = false ∧ runCheck.restart =
      false ∧ levelConverts4.lvl.held = [] ∧ BitVec.toNat (levelConverts4.entered 0#8).now % 32 = 0) ∧
    -- openWireCheckEnd
    (levelConverts13.calm ∧ levelConverts13.lvl.running = some runKnown ∧ runKnown.checking = true ∧ runKnown.owCode = some 8000000 ∧ reached
      (levelConverts13.entered 0#8).now (runKnown.checkT + 2048) = true ∧ runKnown.req.slot < levelConverts13.lvl.slots.length ∧ recordsNow
      levelConverts13) := by
  refine ⟨?_, ?_, ?_, ?_, ?_, ?_⟩ <;> (try unfold State.calm) <;> (try unfold recordsNow) <;> decide +kernel

theorem witness_LevelConvertsAndSupplies_2 :
    -- planeServiceRound
    (levelConverts6.calm ∧ levelConverts6.lvl.running = some runMid ∧ runMid.checking = false ∧ runMid.stopReq = false ∧ runMid.pendEdge = none ∧
      levelConverts6.lvl.held = [] ∧ BitVec.toNat (levelConverts6.entered 0#8).now % 32 = 0 ∧ since (levelConverts6.entered 0#8).now runMid.fineT % 2
      ^ (byteAt runMid.entry 2 + 5) ≠ 0 ∧ since (levelConverts6.entered 0#8).now runMid.fastT % 512 ≠ 0 ∧ runMid.restart = false) ∧
    -- planeServiceRound
    (levelConverts5.calm ∧ levelConverts5.lvl.running = some lr0 ∧ lr0.checking = false ∧ lr0.stopReq = false ∧ lr0.pendEdge = none ∧
      levelConverts5.lvl.held = [] ∧ BitVec.toNat (levelConverts5.entered 0#8).now % 32 = 0 ∧ 0 < since (levelConverts5.entered 0#8).now lr0.fineT ∧
      since (levelConverts5.entered 0#8).now lr0.fineT % 2 ^ (byteAt lr0.entry 2 + 5) = 0 ∧ respSettle (byteAt lr0.entry 3) * 2 ^ (byteAt lr0.entry 2
      + 5) ≤ since (levelConverts5.entered 0#8).now lr0.fineT ∧ lr0.tooFast = false ∧ lr0.req.count = lr0.delivered + 1) ∧
    -- planeServiceRound
    (levelConverts15.calm ∧ levelConverts15.lvl.held = [held1] ∧ levelConverts15.lvl.running = none ∧ reached (levelConverts15.entered 0#8).now
      (held1.doneT + 32) = true ∧ BitVec.toNat (levelConverts15.entered 0#8).now % 32 = 0 ∧ held1.give = true ∧ byteAt held1.run.entry 4 ≠ 1 ∧
      levelConverts15.base.tempSrc ≠ 1 ∧ levelConverts15.base.humidSrc ≠ 1 ∧ levelConverts15.casc.role ≠ Role.member ∧ levelConverts15.lvl.waiting =
      [] ∧ levelConverts15.reportFits 32 = true ∧ levelConverts15.slotLost held1.run.req.slot = false) ∧
    -- levelQueuedRecordWrite
    (levelConverts8.calm ∧ levelConverts8.lvl.waiting = [(1, List.replicate 32 6)] ∧ levelConverts8.pwr.pd1 = true ∧ levelConverts8.casc.role ≠
      Role.member ∧ levelConverts8.reportFits 32 = true ∧ levelConverts8.slotLost 1 = false) ∧
    -- excitationReversal
    (levelConverts9.calm ∧ levelConverts9.lvl.nextEdge = some (t0 - 3) ∧ levelConverts9.lvl.excOn = true ∧ reached (levelConverts9.entered 0#8).now
      (t0 - 3) = true ∧ levelConverts9.lvl.running = none ∧ triggersOf levelConverts9 2 = []) ∧
    -- excitationOvercurrent
    (levelConverts9.calm ∧ levelConverts9.lvl.excOn = true ∧ levelConverts9.lvl.running = none ∧ recordsNow levelConverts9) := by
  refine ⟨?_, ?_, ?_, ?_, ?_, ?_⟩ <;> (try unfold State.calm) <;> (try unfold recordsNow) <;> decide +kernel

theorem witness_LevelConvertsAndSupplies_3 :
    -- refbufSettled
    (levelConverts10.calm ∧ levelConverts10.lvl.bufOn = true ∧ levelConverts10.lvl.bufOffT = none ∧ reached (levelConverts10.entered 0#8).now
      levelConverts10.lvl.bufT = true ∧ reached (levelConverts10.entered 0#8).now (levelConverts10.lvl.bufT + BitVec.ofNat 56 (1311 * 256)) = true) ∧
    -- pd5PowerDown
    (levelConverts11.calm ∧ levelConverts11.lvl.idleSince = some (t0 - 65536) ∧ levelConverts11.lvl.pd5 = true ∧ levelNeed levelConverts11 = false ∧
      reached (levelConverts11.entered 0#8).now (t0 - 65536 + 65536#56) = true) := by
  refine ⟨?_, ?_⟩ <;> (try unfold State.calm) <;> decide +kernel

end Level

/-! ## Witnesses: Power states, resets and the boot -/

namespace Power

def dorm : State := { up with pwr := { up.pwr with st := 0, pd1 := false, pd4 := false, entryT := some t0 } }
def par (s : State) (l : List (Nat × List Byte)) : State := { s with params := l ++ s.params }
def at0 (s : State) (t : Time) : State := { s with time := { s.time with t := t } }
def sleepsAnd1 : State := { up with pwr := { up.pwr with entry := some ⟨0, 7, none⟩ } }
def sleepsAnd2 : State := { up with pwr := { up.pwr with entry := some ⟨1, 7, none⟩ } }
def sleepsAnd4 : State := par (at0 dorm (t0 + 8388608)) [(0x40D, [1,0])]
def sleepsAnd5 : State := { dorm with casc := { dorm.casc with role := .member } }
def sleepsAnd6 : State := { dorm with time := { dorm.time with t := t0 + 1024 }, pwr := { dorm.pwr with waking := some (3, 3, none), wakeT := t0, nodesHeld := false } }
def watch : State := { dorm with pwr := { dorm.pwr with st := 1, sills := (List.range 8).map fun n => if n == 2 ∨ n == 5 then { Sill.idle with enabled := true, acq := 4, acqSum := 400, b := 25600 } else .idle, periodT := some t0, window := none, latched := [(0x412, [4,1,20,0]), (0x415, [4,1,20,0])] } }
def sillScan1 : State := { watch with pwr := { watch.pwr with window := some (2, t0) } }
def sillScan2 : State := { watch with pwr := { watch.pwr with window := some (2, t0), latched := [(0x402, [1]), (0x404, [0])] ++ watch.pwr.latched } }
def sillScan3 : State := { watch with pwr := { watch.pwr with window := some (2, t0), sills := watch.pwr.sills.map fun q => { q with acq := 3 } } }
def sleepingHost1 : State := par { up with scan := { up.scan with phase := .frames, stage := .started } } [(0x40C, [3])]
def sleepingHost2 : State := { up with pwr := { up.pwr with hsleep := true, sleepFrom := some 5 } }
def sleepingHost4 : State := par { up with scan := { up.scan with phase := .frames, stage := .started }, pwr := { up.pwr with wakeCheck := true, checkFrom := some 0, wakeCause := 1 } } [(0x407, [1,0])]
def sleepingHost5 : State := par (at0 { up with scan := { up.scan with phase := .frames, stage := .decoded }, pwr := { up.pwr with st := 2, hsleep := true } } (t0 + 838860800)) [(0x40A, [1, 0])]
def resetsKeep2 : State := { up with bench := { up.bench with resetArmed := some (0, some 0) } }
def theBoot1 : State := bt .held
def theBoot3 : State := {bt .released with pwr := {up.pwr with waking := some (6,3,none), pd1:=false,pd4:=false}}
def theBoot4 : State := { bt .starting with boot := { (bt .starting).boot with nodeInit := false } }
def theBoot5 : State := { up with boot := { up.boot with discovered := false } }
def theBoot6 : State := { bt .verifying with boot := { (bt .verifying).boot with verifySlot := some (0, false) }, mem := { up.mem with flash := { up.mem.flash with slots := [[1,2,3], []] } } }
def theBoot8 : State := { theBoot6 with mem := { up.mem with flash := { up.mem.flash with slots := [[75, 76, 84, 80] ++ List.replicate 28 0 ++ sha256 [], []] } } }
def theBoot7 : State := { bt .starting with boot := { (bt .starting).boot with recoveryDue := some 2 } }
def sf1 : Sfdp := ⟨0xC84016, [], [hd0]⟩
def sleep1' : SleepReq := { target := 0, cause := 7, tag := none }
def sleep2' : SleepReq := { target := 1, cause := 7, tag := none }

theorem witness_SleepsAndWakes :
    -- sleepEntry
    (sleepsAnd1.scan.phase ≠ ScanPhase.stopping ∧ sleepsAnd1.pwr.next = none ∧ sleepsAnd1.pwr.checkFailed = false ∧ sleepsAnd1.pwr.sleepDue = false ∧
      sleepsAnd1.casc.redo = false ∧ sleepsAnd1.scan.stopAt = none ∧ 0 ≤ 1 ∧ sleepsAnd1.pwr.entry = some sleep1' ∧ sleepsAnd1.scan.phase =
      ScanPhase.stopped ∧ sleepsAnd1.trust.boundary = false ∧ nothingOwed (sleepsAnd1.entered 0#8) = true ∧ BitVec.toNat (sleepsAnd1.entered 0#8).now
      % 256 = 0 ∧ (¬(0 = 1 ∧ (7 = 7 ∨ 7 = 8) ∧ sleepsAnd1.anySill = false))) ∧
    -- sleepEntry
    (sleepsAnd2.scan.phase ≠ ScanPhase.stopping ∧ sleepsAnd2.pwr.next = none ∧ sleepsAnd2.pwr.checkFailed = false ∧ sleepsAnd2.pwr.sleepDue = false ∧
      sleepsAnd2.casc.redo = false ∧ sleepsAnd2.scan.stopAt = none ∧ (7 = 7 ∨ 7 = 8) ∧ sleepsAnd2.pwr.entry = some sleep2' ∧ sleepsAnd2.scan.phase =
      ScanPhase.stopped ∧ nothingOwed (sleepsAnd2.entered 0#8) = true ∧ BitVec.toNat (sleepsAnd2.entered 0#8).now % 256 = 0 ∧ sleepsAnd2.anySill =
      false ∧ sleepsAnd2.pwr.st ≠ 2 ∧ sleepsAnd2.pwr.entryRan = none ∧ sleepsAnd2.trust.boundary = false) ∧
    -- hostCsNWake
    (dorm.scan.phase ≠ ScanPhase.stopping ∧ dorm.pwr.next = none ∧ dorm.pwr.checkFailed = false ∧ dorm.pwr.sleepDue = false ∧ dorm.casc.redo = false
      ∧ dorm.scan.stopAt = none ∧ dorm.pwr.entry = none ∧ dorm.dormant = true ∧ dorm.pwr.waking = none) ∧
    -- timerWake
    (sleepsAnd4.scan.phase ≠ ScanPhase.stopping ∧ sleepsAnd4.pwr.next = none ∧ sleepsAnd4.pwr.checkFailed = false ∧ sleepsAnd4.pwr.sleepDue = false ∧
      sleepsAnd4.casc.redo = false ∧ sleepsAnd4.scan.stopAt = none ∧ sleepsAnd4.pwr.entry = none ∧ sleepsAnd4.dormant = true ∧ sleepsAnd4.pwr.waking
      = none ∧ sleepsAnd4.pwr.entryT = some t0 ∧ sleepsAnd4.pnat 1037 ≠ 0 ∧ reached (sleepsAnd4.entered 0#8).now (t0 + BitVec.ofNat 56 (8388608 *
      sleepsAnd4.pnat 1037)) = true) ∧
    -- syncWakePulse
    (sleepsAnd5.scan.phase ≠ ScanPhase.stopping ∧ sleepsAnd5.pwr.next = none ∧ sleepsAnd5.pwr.checkFailed = false ∧ sleepsAnd5.pwr.sleepDue = false ∧
      sleepsAnd5.casc.redo = false ∧ sleepsAnd5.scan.stopAt = none ∧ sleepsAnd5.pwr.entry = none ∧ sleepsAnd5.dormant = true ∧ sleepsAnd5.pwr.waking
      = none ∧ sleepsAnd5.inCascade = true ∧ 512 ≤ 512) ∧
    -- pd1Pd4Ready
    (sleepsAnd6.scan.phase ≠ ScanPhase.stopping ∧ sleepsAnd6.pwr.next = none ∧ sleepsAnd6.pwr.checkFailed = false ∧ sleepsAnd6.pwr.sleepDue = false ∧
      sleepsAnd6.casc.redo = false ∧ sleepsAnd6.scan.stopAt = none ∧ sleepsAnd6.pwr.entry = none ∧ sleepsAnd6.boot.phase = BootPhase.done ∧
      sleepsAnd6.pwr.waking = some (3, 3, none) ∧ reached (sleepsAnd6.entered 0#8).now (sleepsAnd6.pwr.wakeT + 1024) = true ∧ sleepsAnd6.casc.role ≠
      Role.member) := by
  refine ⟨?_, ?_, ?_, ?_, ?_, ?_⟩ <;> decide +kernel

theorem witness_SillScanDetects :
    -- sillPeriodStart
    (watch.calm ∧ watch.pwr.st = 1 ∧ watch.pwr.waking = none ∧ watch.pwr.periodT = some t0 ∧ reached (watch.entered 0#8).now t0 = true ∧
      watch.pwr.window = none) ∧
    -- sillReading
    (sillScan3.calm ∧ sillScan3.pwr.st = 1 ∧ sillScan3.pwr.waking = none ∧ sillScan3.pwr.window = some (2, t0) ∧ reached (sillScan3.entered 0#8).now
      t0 = true ∧ 2 < sillScan3.pwr.sills.length ∧ 16 ≤ 50 ∧ 50 < 65535 ∧ (sillScan3.pwr.sills.getD 2 Sill.idle).acq = 3) ∧
    -- sillReading
    (sillScan1.calm ∧ sillScan1.pwr.st = 1 ∧ sillScan1.pwr.waking = none ∧ sillScan1.pwr.window = some (2, t0) ∧ reached (sillScan1.entered 0#8).now
      t0 = true ∧ 2 < sillScan1.pwr.sills.length ∧ 16 ≤ 95 ∧ 95 < 65535 ∧ 4 ≤ (sillScan1.pwr.sills.getD 2 Sill.idle).acq ∧ (sillScan1.pwr.sills.getD
      2 Sill.idle).armed = false ∧ (sillScan1.pwr.sills.getD 2 Sill.idle).b / 256 - ↑95 < ↑(fieldAt (sillScan1.sillEntry 2) 2 2)) ∧
    -- sillReading
    (sillScan2.calm ∧ sillScan2.pwr.st = 1 ∧ sillScan2.pwr.waking = none ∧ sillScan2.pwr.window = some (2, t0) ∧ reached (sillScan2.entered 0#8).now
      t0 = true ∧ 2 < sillScan2.pwr.sills.length ∧ 16 ≤ 50 ∧ 50 < 65535 ∧ 4 ≤ (sillScan2.pwr.sills.getD 2 Sill.idle).acq ∧ (sillScan2.pwr.sills.getD
      2 Sill.idle).armed = false ∧ (sillScan2.pwr.sills.getD 2 Sill.idle).above = false ∧ ↑(fieldAt (sillScan2.sillEntry 2) 2 2) ≤
      (sillScan2.pwr.sills.getD 2 Sill.idle).b / 256 - ↑50 ∧ sillScan2.snat 1026 ≤ 1 ∧ sillScan2.snat 1028 = 0) ∧
    -- sillReading
    (sillScan1.calm ∧ sillScan1.pwr.st = 1 ∧ sillScan1.pwr.waking = none ∧ sillScan1.pwr.window = some (2, t0) ∧ reached (sillScan1.entered 0#8).now
      t0 = true ∧ 2 < sillScan1.pwr.sills.length ∧ 2 < 16 ∧ (sillScan1.pwr.sills.getD 5 Sill.idle).live = true) := by
  refine ⟨?_, ?_, ?_, ?_, ?_⟩ <;> (try unfold State.calm) <;> decide +kernel

theorem witness_SleepingHostAndIdleTime :
    -- hsleepRise
    (up.calm ∧ up.pwr.hsleep = false ∧ up.asleep = false ∧ up.pwr.wakeCheck = false ∧ up.pnat 1036 = 0) ∧
    -- hsleepRise
    (sleepingHost1.calm ∧ sleepingHost1.pwr.hsleep = false ∧ sleepingHost1.asleep = false ∧ sleepingHost1.pwr.wakeCheck = false ∧ sleepingHost1.pnat
      1036 = 3 ∧ 2 ≤ sleepingHost1.pwr.st.toNat ∧ sleepingHost1.trust.boundary = false ∧ sleepingHost1.scan.phase = ScanPhase.frames ∧
      sleepingHost1.scan.stage ≠ FrameStage.none ∧ sleepingHost1.scan.stage ≠ FrameStage.written) ∧
    -- hsleepFall
    (sleepingHost2.calm ∧ sleepingHost2.pwr.hsleep = true ∧ sleepingHost2.pwr.hostAsleep = false) ∧
    -- idleTimeout
    (sleepingHost1.calm ∧ sleepingHost1.scan.phase = ScanPhase.frames ∧ sleepingHost1.casc.role ≠ Role.member ∧ sleepingHost1.trk.contacts = [] ∧
      sleepingHost1.pwr.wakeCheck = false ∧ sleepingHost1.pwr.st = 3 ∧ sleepingHost1.pnat 1033 ≠ 0 ∧ reached (sleepingHost1.entered 0#8).now
      (sleepingHost1.pwr.idleFrom + BitVec.ofNat 56 (8388608 * sleepingHost1.pnat 1033)) = true ∧ sleepingHost1.trust.boundary = false) ∧
    -- idleTimeout
    (sleepingHost5.calm ∧ sleepingHost5.scan.phase = ScanPhase.frames ∧ sleepingHost5.casc.role ≠ Role.member ∧ sleepingHost5.trk.contacts = [] ∧
      sleepingHost5.pwr.wakeCheck = false ∧ sleepingHost5.pwr.st = 2 ∧ sleepingHost5.asleep = true ∧ sleepingHost5.pnat 1034 ≠ 0 ∧ reached
      (sleepingHost5.entered 0#8).now (laterOf sleepingHost5.pwr.idleFrom sleepingHost5.pwr.sleepFrom + BitVec.ofNat 56 (8388608 * sleepingHost5.pnat
      1034)) = true ∧ sleepingHost5.trust.boundary = false ∧ sleepingHost5.scan.stage = FrameStage.decoded) ∧
    -- wakeCheckTimeout
    (sleepingHost4.calm ∧ checkOver (sleepingHost4.entered 0#8) = true ∧ trivialCheck sleepingHost4 = false ∧ sleepingHost4.scan.phase =
      ScanPhase.frames ∧ sleepingHost4.scan.stage ≠ FrameStage.none ∧ sleepingHost4.scan.stage ≠ FrameStage.written) := by
  refine ⟨?_, ?_, ?_, ?_, ?_, ?_⟩ <;> (try unfold State.calm) <;> decide +kernel

theorem witness_ResetsKeepTheirState :
    -- resetNLow
    (up.pwr.onVbk = false ∧ (up.boot.heldT ≠ none ∨ up.boot.phase ≠ BootPhase.held) ∧ 10000 ≤ 10000) ∧
    -- resetNLow
    (up.pwr.onVbk = false ∧ (up.boot.heldT ≠ none ∨ up.boot.phase ≠ BootPhase.held) ∧ 0 < 1000 ∧ up.calm) ∧
    -- resetReplyTimeout
    (resetsKeep2.bench.resetArmed = some (0, some 0#56) ∧ reached (resetsKeep2.entered 0#8).now (0#56 + 8388608#56) = true) := by
  refine ⟨?_, ?_, ?_⟩ <;> (try unfold State.calm) <;> decide +kernel

theorem witness_TheBootGoesOn_1 :
    -- internalResetRelease
    (theBoot1.calm ∧ theBoot1.boot.phase = BootPhase.held ∧ theBoot1.boot.heldT = some 0#56 ∧ reached (theBoot1.entered 0#8).now (0#56 + 1024) =
      true) ∧
    -- pd1Pd4Ready
    (theBoot3.calm ∧ theBoot3.boot.phase = BootPhase.released ∧ theBoot3.boot.releaseT = some 0#56 ∧ reached (theBoot3.entered 0#8).now (0#56 + 1024)
      = true) ∧
    -- nodeMemoryInitComplete
    (theBoot4.calm ∧ theBoot4.boot.phase = BootPhase.starting ∧ theBoot4.boot.nodeInit = false ∧ theBoot4.boot.kind ≠ ResetKind.warm) ∧
    -- discoveryComplete
    (theBoot5.calm ∧ theBoot5.boot.discovered = false ∧ theBoot5.pwr.pd1 = true ∧ theBoot5.boot.phase = BootPhase.done ∧ sfdpItem sf0 = 0 ∧
      bfptHeader sf0 = some hd0) ∧
    -- discoveryComplete
    (theBoot5.calm ∧ theBoot5.boot.discovered = false ∧ theBoot5.pwr.pd1 = true ∧ theBoot5.boot.phase = BootPhase.done ∧ sfdpItem sf1 ≠ 0 ∧
      recordsNow theBoot5) ∧
    -- imageVerificationComplete
    (theBoot6.calm ∧ 0 ≤ 1 ∧ theBoot6.pwr.pd1 = true ∧ theBoot6.boot.verifySlot = some (0, false) ∧ theBoot6.boot.phase = BootPhase.verifying ∧
      imgVerdict theBoot6.part theBoot6.trust (theBoot6.slotBytes 0) ≠ 0 ∧ theBoot6.slotBytes 0 ≠ [] ∧ 0 < theBoot6.mem.slotState.length ∧ slotUnread
      (theBoot6.slotBytes 0) = true ∧ recordsNow theBoot6) := by
  refine ⟨?_, ?_, ?_, ?_, ?_, ?_⟩ <;> (try unfold State.calm) <;> (try unfold recordsNow) <;> decide +kernel

theorem witness_TheBootGoesOn_2 :
    -- imageVerificationComplete
    (theBoot8.calm ∧ 0 ≤ 1 ∧ theBoot8.pwr.pd1 = true ∧ theBoot8.boot.verifySlot = some (0, false) ∧ theBoot8.boot.phase = BootPhase.verifying ∧
      imgVerdict theBoot8.part theBoot8.trust (theBoot8.slotBytes 0) ≠ 0 ∧ theBoot8.slotBytes 0 ≠ [] ∧ 0 < theBoot8.mem.slotState.length ∧ slotUnread
      (theBoot8.slotBytes 0) = false) ∧
    -- recoveryEntry
    (theBoot7.calm ∧ theBoot7.boot.recoveryDue = some 2 ∧ theBoot7.boot.nodeInit = true ∧ theBoot7.boot.phase ≠ BootPhase.done) := by
  refine ⟨?_, ?_⟩ <;> (try unfold State.calm) <;> decide +kernel

end Power

/-! ## Witnesses: The sensor bus -/

namespace Bus

def par (l : List (Nat × List Byte)) (s : State) : State := { s with params := l ++ s.params }
def bu (f : Bus → Bus) (s : State := up) : State := { s with bus := f s.bus }
def rc : List (Nat × List Byte) := [(0x710, [0x20,2,0,0x5A,0xFF,0,0,0])]
def theBus1 : State := bu (fun b => { b with phase := .starting }) (par rc up)
def theBus3 : State := bu (fun b => { b with phase := .starting, stage := .settle })
def theBus4 : State := bu (fun b => { b with phase := .starting, stage := .watch, vbr := 1 }) (par [(0x702,[0])] up)
def theBus9 : State := bu (fun b => { b with roll := some [1], rollTags := [4] }) theBus4
def theBus6 : State := bu (fun b => { b with phase := .starting, stage := .settle2, vbr := 1 })
def theBus7 : State := bu (fun b => { b with phase := .starting, stage := .offWait })
def rdy : State := bu (fun b => { b with phase := .ready, vbr := 1, foreign := false, partners := List.replicate 32 ⟨2, 0, 0, 0, 0⟩ }) (par rc up)
def xj : BusJob := .xfer 7 0x20 2 [1,2] 3
def xj1 : BusJob := .xfer 7 0x20 1 [1,2] 3
def xd : Deferred := ⟨7, 0x40, 5, [], 0⟩
def job (j : BusJob) (f : Bus → Bus := id) : State := { (bu (fun b => f { b with job := some j, active := true, retries := 0 }) rdy) with bench := { up.bench with outstanding := [xd, ⟨6,0x41,4,[],0⟩] } }
def busJobs1 : State := bu (fun b => { b with alerts := [2], xfers := [xj] }) rdy
def busJobs2 : State := bu (fun b => { b with xfers := [xj], envDue := [true] }) rdy
def busJobs3 : State := bu (fun b => { b with envDue := [true], roll := some [0] }) rdy
def busJobs4 : State := bu (fun b => { b with roll := some [1,0,3] }) rdy
def busJobs5 : State := bu (fun b => { b with job := some xj }) rdy
def busJobs6 : State := bu (fun b => { b with job := some xj, retryT := some 0 }) rdy
def busJobs7 : State := par [(0x706,[3])] (job xj)
def busJobs9 : State := job xj1
def busJobs10 : State := job xj (fun b => { b with arbs := 3 })
def busJobs11 : State := par [(0x706,[0])] (job xj (fun b => { b with arbs := 3 }))
def busJobs13 : State := job xj (fun b => { b with active := false, foreign := true })
def busJobs14 : State := { job xj1 with bench := { up.bench with outstanding := [⟨6,0x41,4,[],0⟩, xd] } }
def partnersAre2 : State := job (.probe 0) (fun b => { b with partners := List.replicate 32 ⟨1,1,0,0,0⟩ })
def partnersAre3 : State := par [(0x706,[0]), (0x70A,[3])] (job (.probe 0))
def partnersAre4 : State := par [(0x706,[0]), (0x70A,[2])] (job (.probe 0) (fun b => { b with partners := List.replicate 32 ⟨1,1,0,0,0⟩ }))
def partnersAre0 : State := (fun s => bu (fun b => { b with jobEntry := s.rollEntry 0 }) s) partnersAre2
def partnersAre19 : State := bu (fun b => { b with partners := List.replicate 32 ⟨2,1,0,0,0⟩ }) partnersAre0
def partnersAre5 : State := job (.alert 3)
def partnersAre10 : State := bu (fun b => { b with rollFrom := some 0, rollTagsNext := [4] }) (par [(0x709,[1,0])] rdy)
def partnersAre11 : State := bu (fun b => { b with rollFrom := some 0, roll := some [0], rollTagsNext := [4] }) (par [(0x709,[1,0])] rdy)
def partnersAre12 : State := { (bu (fun b => { b with roll := some [], rollTags := [6] }) rdy) with bench := { up.bench with outstanding := [⟨6,0x41,4,[],0⟩, xd] } }
def partnersAre13 : State := bu (fun b => { b with envT := [some 5, some 0], envDue := [true] }) (par [(0x740,[0x20,0,2,0,0,0,10,0,0,0,0,0,0,0,0,0]),(0x741,[0x20,0,2,0,0,0,10,0,0,0,0,0,0,0,0,0])] rdy)
def partnersAre14 : State := bu (fun b => { b with vbr := 1, closings := 2 }) { up with pwr := { up.pwr with pd1 := false } }
def partnersAre17 : State := bu (fun b => { b with vbr := 3, closings := 2 })
def xr : Reply := ⟨7, 0x40, 0, 2, 5, [2, 0, 1, 2], .plain⟩
def partnersAre18 : State := { partnersAre12 with bench := { partnersAre12.bench with turn := [xr] } }
def cmd1' : Deferred := { tag := 6, opcode := 65, seq := 4, par := [], t := 0 }

theorem witness_TheBusStarts_1 :
    -- busJobStart
    (busJobs1.calm ∧ busJobs1.pwr.pd1 = true ∧ busOpen busJobs1 = true ∧ busFree (busJobs1.entered 0#8) = true ∧ busJobs1.bus.job = none ∧
      busJobs1.bus.alerts = [2]) ∧
    -- busJobStart
    (busJobs2.calm ∧ busJobs2.pwr.pd1 = true ∧ busOpen busJobs2 = true ∧ busFree (busJobs2.entered 0#8) = true ∧ busJobs2.bus.job = none ∧
      busJobs2.bus.alerts = [] ∧ busJobs2.bus.xfers = [xj]) ∧
    -- busJobStart
    (busJobs3.calm ∧ busJobs3.pwr.pd1 = true ∧ busOpen busJobs3 = true ∧ busFree (busJobs3.entered 0#8) = true ∧ busJobs3.bus.job = none ∧
      busJobs3.bus.alerts = [] ∧ busJobs3.bus.xfers = [] ∧ busJobs3.bus.envDue = [true]) ∧
    -- busJobStart
    (busJobs4.calm ∧ busJobs4.pwr.pd1 = true ∧ busOpen busJobs4 = true ∧ busFree (busJobs4.entered 0#8) = true ∧ busJobs4.bus.job = none ∧
      busJobs4.bus.alerts = [] ∧ busJobs4.bus.xfers = [] ∧ busJobs4.bus.envDue = [] ∧ busJobs4.bus.roll = some [1, 0, 3] ∧ List.filter
      busJobs4.entryUsed [1, 0, 3] = [0]) ∧
    -- busJobStart
    (busJobs5.calm ∧ busJobs5.pwr.pd1 = true ∧ busOpen busJobs5 = true ∧ busJobs5.bus.job.isSome = true ∧ busJobs5.bus.retryT = none ∧ busFree
      (busJobs5.entered 0#8) = true) ∧
    -- addressRetry
    (busJobs6.calm ∧ busJobs6.pwr.pd1 = true ∧ busOpen busJobs6 = true ∧ busJobs6.bus.job.isSome = true ∧ busJobs6.bus.retryT = some 0#56 ∧ reached
      (busJobs6.entered 0#8).now 0#56 = true ∧ busFree (busJobs6.entered 0#8) = true) := by
  refine ⟨?_, ?_, ?_, ?_, ?_, ?_⟩ <;> (try unfold State.calm) <;> decide +kernel

theorem witness_TheBusStarts_2 :
    -- busBusy
    (busJobs1.calm ∧ busJobs1.pwr.pd1 = true ∧ busOpen busJobs1 = true ∧ busJobs1.bus.foreign = false) ∧
    -- busStart
    (theBus1.calm ∧ theBus1.pwr.pd1 = true ∧ theBus1.bus.phase = BusPhase.starting ∧ theBus1.bus.stage = BusStage.none ∧ reached (theBus1.entered
      0#8).now theBus1.bus.stageT = true) ∧
    -- busStartTimer
    (theBus3.calm ∧ theBus3.pwr.pd1 = true ∧ (false && false) = false ∧ theBus3.bus.stage = BusStage.settle ∧ reached (theBus3.entered 0#8).now
      theBus3.bus.stageT = true) ∧
    -- busStartTimer
    (theBus9.calm ∧ theBus9.pwr.pd1 = true ∧ (false && false) = false ∧ theBus9.bus.stage = BusStage.watch ∧ reached (theBus9.entered 0#8).now
      theBus9.bus.stageT = true) ∧
    -- busStartTimer
    (theBus6.calm ∧ theBus6.pwr.pd1 = true ∧ (false && false) = false ∧ theBus6.bus.stage = BusStage.settle2 ∧ reached (theBus6.entered 0#8).now
      theBus6.bus.stageT = true ∧ theBus6.bus.recovering = false ∧ recordsNow theBus6 ∧ theBus6.bus.job = none ∧ theBus6.bus.xfers = [] ∧
      theBus6.bus.envDue = [] ∧ theBus6.bus.rollTags = [] ∧ theBus6.bus.rollTagsNext = []) ∧
    -- busStartTimer
    (theBus7.calm ∧ theBus7.pwr.pd1 = true ∧ theBus7.bus.stage = BusStage.offWait ∧ reached (theBus7.entered 0#8).now theBus7.bus.stageT = true ∧
      theBus7.bus.vbr ≠ 1) := by
  refine ⟨?_, ?_, ?_, ?_, ?_, ?_⟩ <;> (try unfold State.calm) <;> (try unfold recordsNow) <;> decide +kernel

theorem witness_TheBusStarts_3 :
    -- busStartTimer
    theBus9.calm ∧ theBus9.pwr.pd1 = true ∧ theBus9.bus.recovering = false ∧ (theBus9.bus.stage = BusStage.watch ∨ (theBus9.bus.stage =
      BusStage.settle ∨ theBus9.bus.stage = BusStage.settle2) ∧ reached (theBus9.entered 0#8).now theBus9.bus.stageT = true) ∧ recordsNow theBus9 ∧
      theBus9.pnat 1794 ≠ 2 ∧ theBus9.bus.keepRoles = false ∧ theBus9.bus.wasStuck = false := by
  unfold State.calm recordsNow; decide +kernel

theorem witness_BusJobsRun_1 :
    -- busTransactionEnd
    (busJobs14.calm ∧ busJobs14.bus.job.isSome = true ∧ busJobs14.bus.active = true ∧ busJobs14.bus.retries < busJobs14.pnat 1798) ∧
    -- arbitrationLost
    (busJobs14.calm ∧ busJobs14.bus.job.isSome = true ∧ busJobs14.bus.active = true ∧ busJobs14.bus.recovering = false ∧ busJobs14.bus.arbs < 3) ∧
    -- clockStretchTimeout
    (busJobs14.calm ∧ busJobs14.bus.job.isSome = true ∧ busJobs14.bus.active = true ∧ busJobs14.bus.job = some xj1 ∧ busJobs14.bus.recovering = false
      ∧ (false && false) = false ∧ reached (busJobs14.entered 0#8).now (busJobs14.bus.jobT + BitVec.ofNat 56 (msTicks (busJobs14.pnat 1797))) = true)
      ∧
    (busJobs11.calm ∧ busJobs11.bus.job = some (BusJob.xfer 7 32 2 [1, 2] 3) ∧ busJobs11.bus.branchDue = [] ∧ busJobs11.bus.rolesDue = false ∧
      List.find? (fun d => d.tag == 7) busJobs11.running = some xd ∧ xd.opcode = 64 ∧ busJobs11.atTurn xd ∧ writesNow busJobs11 (2 + 3) ∧
      busJobs11.bus.moved.snd.length ≤ 3 ∧ busJobs11.bus.active = true ∧ busJobs11.pnat 1798 ≤ busJobs11.bus.retries) ∧
    (busJobs7.calm ∧ busJobs7.bus.job = some (BusJob.xfer 7 32 2 [1, 2] 3) ∧ busJobs7.bus.branchDue = [] ∧ busJobs7.bus.rolesDue = false ∧ List.find?
      (fun d => d.tag == 7) busJobs7.running = some xd ∧ xd.opcode = 64 ∧ busJobs7.atTurn xd ∧ writesNow busJobs7 (2 + 3) ∧
      busJobs7.bus.moved.snd.length ≤ 3 ∧ busJobs7.bus.active = true ∧ (0 + 1 < [1, 2].length ∨ 0 + 1 = [1, 2].length ∧ 2 = 2)) ∧
    (busJobs9.calm ∧ busJobs9.bus.job = some (BusJob.xfer 7 32 1 [1, 2] 3) ∧ busJobs9.bus.branchDue = [] ∧ busJobs9.bus.rolesDue = false ∧ List.find?
      (fun d => d.tag == 7) busJobs9.running = some xd ∧ xd.opcode = 64 ∧ busJobs9.atTurn xd ∧ writesNow busJobs9 (2 + 3) ∧
      busJobs9.bus.moved.snd.length ≤ 3 ∧ busJobs9.bus.active = true ∧ 1 + 1 = [1, 2].length ∧ 1 ≠ 2) := by
  refine ⟨?_, ?_, ?_, ?_, ?_, ?_⟩ <;> (try unfold State.calm) <;> (try unfold State.atTurn) <;> (try unfold writesNow) <;> (try unfold replyFits) <;> decide +kernel

theorem witness_BusJobsRun_2 :
    (busJobs7.calm ∧ busJobs7.bus.job = some (BusJob.xfer 7 32 2 [1, 2] 3) ∧ busJobs7.bus.branchDue = [] ∧ busJobs7.bus.rolesDue = false ∧ List.find?
      (fun d => d.tag == 7) busJobs7.running = some xd ∧ xd.opcode = 64 ∧ busJobs7.atTurn xd ∧ writesNow busJobs7 (2 + 3) ∧
      busJobs7.bus.moved.snd.length ≤ 3 ∧ busJobs7.bus.active = true) ∧
    (busJobs7.calm ∧ busJobs7.bus.job = some (BusJob.xfer 7 32 2 [1, 2] 3) ∧ busJobs7.bus.branchDue = [] ∧ busJobs7.bus.rolesDue = false ∧ List.find?
      (fun d => d.tag == 7) busJobs7.running = some xd ∧ xd.opcode = 64 ∧ busJobs7.atTurn xd ∧ writesNow busJobs7 (2 + 3) ∧
      busJobs7.bus.moved.snd.length ≤ 3 ∧ busJobs7.bus.active = true ∧ [4, 5, 6].length = 3) ∧
    (busJobs10.calm ∧ busJobs10.bus.job = some (BusJob.xfer 7 32 2 [1, 2] 3) ∧ busJobs10.bus.branchDue = [] ∧ busJobs10.bus.rolesDue = false ∧
      List.find? (fun d => d.tag == 7) busJobs10.running = some xd ∧ xd.opcode = 64 ∧ busJobs10.atTurn xd ∧ writesNow busJobs10 (2 + 3) ∧
      busJobs10.bus.moved.snd.length ≤ 3 ∧ busJobs10.bus.active = true ∧ busJobs10.bus.recovering = false ∧ 3 ≤ busJobs10.bus.arbs) ∧
    (busJobs7.calm ∧ busJobs7.bus.job = some (BusJob.xfer 7 32 2 [1, 2] 3) ∧ busJobs7.bus.branchDue = [] ∧ busJobs7.bus.rolesDue = false ∧ List.find?
      (fun d => d.tag == 7) busJobs7.running = some xd ∧ xd.opcode = 64 ∧ busJobs7.atTurn xd ∧ writesNow busJobs7 (2 + 3) ∧
      busJobs7.bus.moved.snd.length ≤ 3 ∧ busJobs7.bus.active = true ∧ busJobs7.bus.recovering = false ∧ reached (busJobs7.entered 0#8).now
      (busJobs7.bus.jobT + BitVec.ofNat 56 (msTicks (busJobs7.pnat 1797))) = true) ∧
    -- arbitrationLostAtStop
    (busJobs7.calm ∧ busJobs7.bus.job = some (BusJob.xfer 7 32 2 [1, 2] 3) ∧ busJobs7.bus.branchDue = [] ∧ busJobs7.bus.rolesDue = false ∧ List.find?
      (fun d => d.tag == 7) busJobs7.running = some xd ∧ xd.opcode = 64 ∧ busJobs7.atTurn xd ∧ writesNow busJobs7 (2 + 3) ∧
      busJobs7.bus.moved.snd.length ≤ 3 ∧ busJobs7.bus.active = true ∧ busJobs7.bus.recovering = false ∧ busJobs7.bench.faultQueue = [] ∧
      busJobs7.reportFits ((14 + (2 + 3) + 15) / 16 * 16 + 16) = true) ∧
    (busJobs7.calm ∧ busJobs7.bus.job = some (BusJob.xfer 7 32 2 [1, 2] 3) ∧ busJobs7.bus.branchDue = [] ∧ busJobs7.bus.rolesDue = false ∧ List.find?
      (fun d => d.tag == 7) busJobs7.running = some xd ∧ xd.opcode = 64 ∧ busJobs7.atTurn xd ∧ writesNow busJobs7 (2 + 3) ∧
      busJobs7.bus.moved.snd.length ≤ 3 ∧ busJobs7.bus.recovering = false ∧ reached (busJobs7.entered 0#8).now (busJobs7.bus.jobT + 8388608#56) =
      true) := by
  refine ⟨?_, ?_, ?_, ?_, ?_, ?_⟩ <;> (try unfold State.calm) <;> (try unfold State.atTurn) <;> (try unfold writesNow) <;> (try unfold replyFits) <;> decide +kernel

theorem witness_BusJobsRun_3 :
    (busJobs13.calm ∧ busJobs13.bus.job = some (BusJob.xfer 7 32 2 [1, 2] 3) ∧ busJobs13.bus.branchDue = [] ∧ busJobs13.bus.rolesDue = false ∧
      List.find? (fun d => d.tag == 7) busJobs13.running = some xd ∧ xd.opcode = 64 ∧ busJobs13.atTurn xd ∧ writesNow busJobs13 (2 + 3) ∧
      busJobs13.bus.moved.snd.length ≤ 3 ∧ busJobs13.bus.foreign = true ∧ busOpen busJobs13 = true ∧ reached (busJobs13.entered 0#8).now
      (busJobs13.bus.waitT + 8388608#56) = true) ∧
    -- busTransactionEnd
    (busJobs14.calm ∧ busJobs14.bus.job = some (BusJob.xfer 7 32 1 [1, 2] 3) ∧ busJobs14.bus.active = true ∧ busJobs14.bus.branchDue = [] ∧
      List.find? (fun d => d.tag == 7) busJobs14.running = some xd ∧ busJobs14.ahead xd = true ∧ [4, 5, 6].length = 3) := by
  refine ⟨?_, ?_⟩ <;> (try unfold State.calm) <;> (try unfold State.atTurn) <;> (try unfold writesNow) <;> (try unfold replyFits) <;> decide +kernel

theorem witness_PartnersAreWatched_1 :
    -- busTransactionEnd
    (partnersAre19.calm ∧ 0 < 32 ∧ partnersAre19.bus.partners.length = 32 ∧ partnersAre19.bus.job = some (BusJob.probe 0) ∧ partnersAre19.bus.active
      = true ∧ partnersAre19.bus.discard = false ∧ partnersAre19.bus.branchDue = [] ∧ byteAt (partnersAre19.rollEntry 0) 1 = 2 ∧
      partnersAre19.bus.jobEntry = partnersAre19.rollEntry 0 ∧ recordsNow partnersAre19) ∧
    -- busTransactionEnd
    (partnersAre3.calm ∧ 0 < 32 ∧ partnersAre3.bus.partners.length = 32 ∧ partnersAre3.bus.job = some (BusJob.probe 0) ∧ partnersAre3.bus.active =
      true ∧ partnersAre3.bus.discard = false ∧ partnersAre3.bus.branchDue = [] ∧ partnersAre3.pnat 1798 ≤ partnersAre3.bus.retries ∧
      (partnersAre3.bus.partners.getD 0 Partner.unused).misses + 1 < partnersAre3.pnat 1802 ∧ (partnersAre3.bus.partners.getD 0
      Partner.unused).misses < 255) ∧
    -- busTransactionEnd
    (partnersAre4.calm ∧ 0 < 32 ∧ partnersAre4.bus.partners.length = 32 ∧ partnersAre4.bus.job = some (BusJob.probe 0) ∧ partnersAre4.bus.active =
      true ∧ partnersAre4.bus.discard = false ∧ partnersAre4.bus.branchDue = [] ∧ partnersAre4.pnat 1798 ≤ partnersAre4.bus.retries ∧
      partnersAre4.pnat 1802 ≤ (partnersAre4.bus.partners.getD 0 Partner.unused).misses + 1 ∧ (partnersAre4.bus.partners.getD 0
      Partner.unused).misses < 255 ∧ (partnersAre4.bus.partners.getD 0 Partner.unused).state ≠ 3 ∧ recordsNow partnersAre4) ∧
    -- busTransactionEnd
    (partnersAre5.calm ∧ partnersAre5.bus.job = some (BusJob.alert 3) ∧ partnersAre5.bus.active = true ∧ partnersAre5.bus.alerts = [] ∧
      partnersAre5.bus.branchDue = [] ∧ recordsNow partnersAre5) ∧
    -- sbAlertChange
    (partnersAre18.calm ∧ partnersAre18.pwr.pd1 = true) ∧
    -- rollcallDue
    (partnersAre10.calm ∧ partnersAre10.bus.rollFrom = some 0#56 ∧ partnersAre10.pnat 1801 ≠ 0 ∧ partnersAre10.pwr.pd1 = true ∧
      partnersAre10.bus.phase = BusPhase.ready ∧ reached (partnersAre10.entered 90#8).now (0#56 + BitVec.ofNat 56 (8388608 * partnersAre10.pnat
      1801)) = true ∧ partnersAre10.bus.roll = none) := by
  refine ⟨?_, ?_, ?_, ?_, ?_, ?_⟩ <;> (try unfold State.calm) <;> (try unfold recordsNow) <;> decide +kernel

theorem witness_PartnersAreWatched_2 :
    -- rollcallDue
    (partnersAre11.calm ∧ partnersAre11.bus.rollFrom = some 0#56 ∧ partnersAre11.pnat 1801 ≠ 0 ∧ partnersAre11.pwr.pd1 = true ∧
      partnersAre11.bus.phase = BusPhase.ready ∧ reached (partnersAre11.entered 90#8).now (0#56 + BitVec.ofNat 56 (8388608 * partnersAre11.pnat
      1801)) = true ∧ partnersAre11.bus.roll.isSome = true ∧ rollOver partnersAre11 = false) ∧
    (partnersAre12.calm ∧ rollOver partnersAre12 = true ∧ partnersAre12.bus.rollTags = [6] ∧ partnersAre12.bus.rollAgain = false ∧ List.find? (fun d
      => d.tag == 6) partnersAre12.running = some cmd1' ∧ cmd1'.opcode = 65 ∧ partnersAre12.atTurn cmd1' ∧ writesNow partnersAre12 392) ∧
    -- rollcallEnd
    (partnersAre18.calm ∧ rollOver partnersAre18 = true ∧ partnersAre18.bus.rollTags = [cmd1'.tag] ∧ partnersAre18.bus.rollAgain = false ∧
      partnersAre18.bench.outstanding = [cmd1', xd] ∧ cmd1'.opcode = 65 ∧ xd.opcode = 64 ∧ xd.tag ≠ cmd1'.tag ∧ partnersAre18.bench.turn = [xr] ∧
      xr.tag = xd.tag ∧ xr.opcode = 64 ∧ xr.kind = 2 ∧ xr.mark = RecMark.plain ∧ partnersAre18.casc.role ≠ Role.member ∧ partnersAre18.bench.held =
      [] ∧ partnersAre18.reportFits (416 + xr.size) = true) ∧
    -- envReadDue
    (partnersAre13.calm ∧ partnersAre13.bus.envT.getD (if false = true then 1 else 0) none = some 5#56 ∧ partnersAre13.pwr.pd1 = true ∧ reached
      (partnersAre13.entered 90#8).now 5#56 = true) ∧
    -- vbrCurrentLimit
    (partnersAre14.calm ∧ partnersAre14.bus.vbr = 1 ∧ partnersAre14.pwr.pd1 = false) ∧
    -- vbrCurrentLimit
    (rdy.calm ∧ rdy.bus.vbr = 1 ∧ rdy.pwr.pd1 = true ∧ recordsNow rdy ∧ rdy.bus.job = none ∧ rdy.bus.xfers = [] ∧ rdy.bus.envDue = [] ∧
      rdy.bus.rollTags = [] ∧ rdy.bus.rollTagsNext = []) := by
  refine ⟨?_, ?_, ?_, ?_, ?_, ?_⟩ <;> (try unfold State.calm) <;> (try unfold State.atTurn) <;> (try unfold writesNow) <;> (try unfold recordsNow) <;> (try unfold replyFits) <;> decide +kernel

theorem witness_PartnersAreWatched_3 :
    -- vbrReclose
    (partnersAre17.calm ∧ partnersAre17.bus.vbr = 3 ∧ partnersAre17.pwr.pd1 = true ∧ reached (partnersAre17.entered 90#8).now (partnersAre17.bus.vbrT
      + 8388608#56) = true) ∧
    -- vbrClosingClear
    (partnersAre14.calm ∧ partnersAre14.bus.vbr = 1 ∧ 0 < partnersAre14.bus.closings ∧ reached (partnersAre14.entered 90#8).now
      (partnersAre14.bus.vbrT + 8388608#56) = true) := by
  refine ⟨?_, ?_⟩ <;> (try unfold State.calm) <;> decide +kernel

end Bus

/-! ## Witnesses: Tally -/

namespace Ta

def par (l : List (Nat × List Byte)) (s : State) : State := { s with params := l ++ s.params }
def ty (f : Tally → Tally) (s : State := up) : State := { s with tally := f s.tally }
def tallyKeeps1 : State := ty (fun y => { y with unavailable := true })
def tallyKeeps2 : State := ty (fun y => { y with started := true, kept := [r0], seq := 5, openT := some t0 })
def tallyKeeps5 : State := ty (fun y => { y with started := true, kept := [r0], seq := 0xFFFFFFFF, openT := some t0, lastMarkT := some 0 })
def tallyKeeps7 : State := ty (fun y => { y with openT := some 0 })
def tallyKeeps8 : State := par [(0x900,[1])] (ty (fun y => { y with lastMarkT := some 0, started := true, seq := 9 }))
def tallyKeeps10 : State := ty (fun y => { y with started := true, kept := [r0], seq := 5, logReady := true })
def tallyKeeps11 : State := { ty (fun y => { y with started := true, kept := [r0], seq := 5, logReady := true }) with mem := { up.mem with flash := { up.mem.flash with log := [⟨0xC4, 0, 4, [some r0]⟩] } } }
def sect1' : TallySector := { sector := 196, epoch := 0, firstSeq := 4, places := [some r0] }

theorem witness_TallyKeepsItsRecords_1 :
    (tallyKeeps1.tally.unavailable = true) ∧
    (tallyKeeps2.tally.unavailable = false ∧ tallyRepeats (16 * 0 + tallyKeeps2.tileNo % 16) 258 7 tallyKeeps2 = true) ∧
    (up.tally.unavailable = false ∧ tallyRepeats (16 * 0 + up.tileNo % 16) 0 0 up = false ∧ (up.tally.started = false ∨ up.tally.seq ≠ 4294967295)) ∧
    (tallyKeeps5.tally.unavailable = false ∧ tallyRepeats (16 * 0 + tallyKeeps5.tileNo % 16) 0 0 tallyKeeps5 = false ∧ tallyKeeps5.tally.started =
      true ∧ tallyKeeps5.tally.seq = 4294967295 ∧ tallyKeeps5.tally.kept.length + 2 ≤ 64) ∧
    -- tallyRecordClose
    (tallyKeeps7.calm ∧ tallyKeeps7.tally.openT = some 0#56 ∧ reached (tallyKeeps7.entered 0#8).now (0#56 + BitVec.ofNat 56 (8388608 *
      tallyKeeps7.pnat 2305)) = true) ∧
    -- tallyTimeMark
    (tallyKeeps8.calm ∧ tallyKeeps8.tally.lastMarkT = some 0#56 ∧ tallyKeeps8.pnat 2304 ≠ 0 ∧ tallyKeeps8.tally.unavailable = false ∧
      tallyKeeps8.tally.started = true ∧ tallyKeeps8.tally.seq + 2 ≤ 4294967295 ∧ tallyKeeps8.tally.kept.length + 2 ≤ 64 ∧ reached
      (tallyKeeps8.entered 0#8).now (beatEnd (0#56 + BitVec.ofNat 56 (60 * 8388608 * tallyKeeps8.pnat 2304))) = true) := by
  refine ⟨?_, ?_, ?_, ?_, ?_, ?_⟩ <;> (try unfold State.calm) <;> decide +kernel

theorem witness_TallyKeepsItsRecords_2 :
    -- tallyDrain
    (tallyKeeps11.calm ∧ canDrain tallyKeeps11 = true ∧ closedRecords tallyKeeps11 = [r0] ∧ tallyKeeps11.tally.lostRun = none ∧ portServes
      (tallyKeeps11.entered 0#8) PortWork.tallyWrite = true ∧ tallyKeeps11.mem.flash.log.getLast? = some ([sect1'].getLast (by decide)) ∧ sectorTakes
      tallyKeeps11 ([sect1'].getLast (by decide)) r0 = true) ∧
    -- tallyDrain
    (tallyKeeps10.calm ∧ canDrain tallyKeeps10 = true ∧ closedRecords tallyKeeps10 = [r0] ∧ tallyKeeps10.tally.lostRun = none ∧ portServes
      (tallyKeeps10.entered 0#8) PortWork.tallyWrite = true ∧ tallyKeeps10.mem.flash.log = [] ∧ logSectors tallyKeeps10 = 196 :: List.map (fun x =>
      197 + x) (List.range 827)) ∧
    -- retentionCheck
    (up.calm ∧ up.tally.checkedT = none ∧ up.tally.unavailable = false) := by
  refine ⟨?_, ?_, ?_⟩ <;> (try unfold State.calm) <;> decide +kernel

end Ta

/-! ## Witnesses: Flash and telemetry -/

namespace Tb

def par (l : List (Nat × List Byte)) (s : State) : State := { s with params := l ++ s.params }
def at0 (s : State) : State := { s with time := { s.time with t := 1000000000000000 } }
def fl (slots : List (List Byte)) : State := { up with mem := { up.mem with flash := { up.mem.flash with slots := slots } } }
def flashAnd1 : State := par [(0xA02,[1,0])] (at0 (fl [[],[]]))
def flashAnd2 : State := par [(0xA02,[1,0])] (at0 (fl [[1,2,3],[]]))
def flashAnd3 : State := { up with mem := { up.mem with snapDue := 2, snapPlace := 4, flash := { up.mem.flash with ledger := List.replicate 12 (some .blank) } } }

theorem witness_FlashAndTelemetryGoOn :
    -- reverifyDue
    (flashAnd1.calm ∧ flashAnd1.pnat 2562 ≠ 0 ∧ portServes (flashAnd1.entered 0#8) PortWork.reverify = true ∧ trustIdle flashAnd1 = true ∧
      flashAnd1.pwr.pd1 = true ∧ flashAnd1.mem.size ≠ 0 ∧ flashAnd1.mem.session = Session.closed ∧ flashAnd1.casc.role ≠ Role.member ∧
      flashAnd1.mem.spoiled = [] ∧ (∀ (m : Nat), m < 4 → (flashAnd1.mem.led.place.getD m (0, 0, false, 0, [])).snd.snd.fst = false) ∧ reached
      (flashAnd1.entered 0#8).now (flashAnd1.mem.verifyT + BitVec.ofNat 56 (8388608 * 3600 * flashAnd1.pnat 2562)) = true ∧ (∀ (n : Nat), n < 2 →
      flashAnd1.slotBytes n = [] ∨ verdictOf false flashAnd1.part flashAnd1.trust (flashAnd1.slotBytes n) = 0)) ∧
    -- reverifyDue
    (flashAnd2.calm ∧ flashAnd2.pnat 2562 ≠ 0 ∧ portServes (flashAnd2.entered 0#8) PortWork.reverify = true ∧ trustIdle flashAnd2 = true ∧
      flashAnd2.pwr.pd1 = true ∧ flashAnd2.mem.size ≠ 0 ∧ flashAnd2.mem.session = Session.closed ∧ flashAnd2.casc.role ≠ Role.member ∧
      flashAnd2.mem.spoiled = [] ∧ (∀ (m : Nat), m < 4 → (flashAnd2.mem.led.place.getD m (0, 0, false, 0, [])).snd.snd.fst = false) ∧ reached
      (flashAnd2.entered 0#8).now (flashAnd2.mem.verifyT + BitVec.ofNat 56 (8388608 * 3600 * flashAnd2.pnat 2562)) = true ∧ 1 ≠ 0 ∧
      flashAnd2.slotBytes 1 = [] ∧ flashAnd2.slotBytes 0 ≠ [] ∧ 1 = verdictOf false flashAnd2.part flashAnd2.trust (flashAnd2.slotBytes 0) ∧
      recordsNow flashAnd2) ∧
    -- ledgerSnapshot
    (flashAnd3.calm ∧ snapWaits flashAnd3 = true ∧ flashAnd3.mem.flash.torn = [] ∧ portServes (flashAnd3.entered 0#8) PortWork.snapshot = true ∧
      flashAnd3.pwr.pd1 = true ∧ 0 < flashAnd3.mem.size ∧ flashAnd3.mem.led.retired = [] ∧ flashAnd3.mem.snapPlace < 12 ∧
      flashAnd3.mem.flash.ledger.length = 12) ∧
    -- referenceRead
    (flashAnd1.calm ∧ 0 < 4 ∧ flashAnd1.pwr.pd1 = true ∧ flashAnd1.mem.size ≠ 0 ∧ recordsNow flashAnd1) ∧
    -- availabilityDayEnd
    (flashAnd1.calm ∧ flashAnd1.pwr.pd4 = true ∧ reached (flashAnd1.entered 0#8).now (flashAnd1.tel.dayFrom + BitVec.ofNat 56 (256 * 2831155200)) =
      true) ∧
    -- telemetryPeriod
    (flashAnd1.calm ∧ flashAnd1.pwr.pd4 = true ∧ flashAnd1.pnat 2819 ≠ 0 ∧ reached (flashAnd1.entered 0#8).now (flashAnd1.tel.periodFrom +
      BitVec.ofNat 56 (256 * 32768 * 60 * flashAnd1.pnat 2819)) = true) := by
  refine ⟨?_, ?_, ?_, ?_, ?_, ?_⟩ <;> (try unfold State.calm) <;> (try unfold recordsNow) <;> decide +kernel

end Tb

/-! ## Witnesses: Fuses and the test port -/

namespace Tc

def tr (f : Trust → Trust) (s : State := up) : State := { s with trust := f s.trust }
def fusesAnd1 : State := tr (fun y => { y with work := [.revoke 1] })
def fusesAnd2 : State := tr (fun y => { y with work := [.revoke 1, .rollback 2], retry := true, stepT := some 0 })
def fusesAnd3 : State := tr (fun y => { y with work := [.provision 2 [1,2], .revoke 1] })
def fusesAnd4 : State := tr (fun y => { y with work := [.rollback 0, .rollback 1] })
def fusesAnd5 : State := tr (fun y => { y with work := [.rollback 0] })
def fusesAnd7 : State := { up with scan := { up.scan with phase := .frames, stage := .decoded } }
def fusesAnd9 : State := tr (fun y => { y with challenge := some ([1], 0) })

theorem witness_FusesAndTestPort_1 :
    -- fuseStepWhileStopped
    (fusesAnd1.calm ∧ fusesAnd1.pwr.st = 3 ∧ fusesAnd1.pwr.pd1 = true ∧ fusesAnd1.scan.phase = ScanPhase.stopped ∧ fusesAnd1.trust.work =
      [FuseStep.revoke 1] ∧ fusesAnd1.trust.stepT = none ∧ fusesAnd1.trust.advanceFrom = none) ∧
    -- fuseStepWhileStopped
    (fusesAnd3.calm ∧ fusesAnd3.pwr.st = 3 ∧ fusesAnd3.pwr.pd1 = true ∧ fusesAnd3.scan.phase = ScanPhase.stopped ∧ fusesAnd3.trust.work =
      [FuseStep.provision 2 [1, 2], FuseStep.revoke 1] ∧ fusesAnd3.trust.stepT = none ∧ fusesAnd3.trust.advanceFrom = none) ∧
    -- fuseStepWhileStopped
    (fusesAnd4.calm ∧ fusesAnd4.pwr.st = 3 ∧ fusesAnd4.pwr.pd1 = true ∧ fusesAnd4.scan.phase = ScanPhase.stopped ∧ fusesAnd4.trust.work =
      [FuseStep.rollback 0, FuseStep.rollback 1] ∧ fusesAnd4.trust.stepT = none ∧ [FuseStep.rollback 1] ≠ []) ∧
    -- fuseStepWhileStopped
    (fusesAnd5.calm ∧ fusesAnd5.pwr.st = 3 ∧ fusesAnd5.pwr.pd1 = true ∧ fusesAnd5.scan.phase = ScanPhase.stopped ∧ fusesAnd5.trust.work =
      [FuseStep.rollback 0] ∧ fusesAnd5.trust.stepT = none ∧ fusesAnd5.trust.rollback[0]? = some 0 ∧ fusesAnd5.trust.advanceFrom.getD 0 ≤
      fusesAnd5.trust.steps) ∧
    -- fuseStepWhileStopped
    (fusesAnd1.calm ∧ fusesAnd1.pwr.st = 3 ∧ fusesAnd1.pwr.pd1 = true ∧ fusesAnd1.scan.phase = ScanPhase.stopped ∧ fusesAnd1.trust.work =
      [FuseStep.revoke 1] ∧ fusesAnd1.trust.stepT = none ∧ fusesAnd1.trust.retry = false) ∧
    -- fuseStepWhileStopped
    (fusesAnd2.calm ∧ fusesAnd2.pwr.st = 3 ∧ fusesAnd2.pwr.pd1 = true ∧ fusesAnd2.scan.phase = ScanPhase.stopped ∧ fusesAnd2.trust.work =
      [FuseStep.revoke 1, FuseStep.rollback 2] ∧ fusesAnd2.trust.stepT = some 0 ∧ reached (fusesAnd2.entered 0).now (0 + 16384#56) = true ∧
      fusesAnd2.trust.retry = true ∧ fusesAnd2.trust.advanceFrom = none) := by
  refine ⟨?_, ?_, ?_, ?_, ?_, ?_⟩ <;> (try unfold State.calm) <;> decide +kernel

theorem witness_FusesAndTestPort_2 :
    -- tapPublicInstruction
    (fusesAnd1.calm ∧ (1#8 = 1 ∨ 1#8 = 2 ∨ 1#8 = 255)) ∧
    -- tapBoundaryTestMode
    (fusesAnd1.calm ∧ (0#8 = 0 ∨ 0#8 = 3 ∨ 0#8 = 4) ∧ fusesAnd1.pwr.pd1 = true ∧ fusesAnd1.scan.phase = ScanPhase.stopped) ∧
    -- tapBoundaryTestMode
    (fusesAnd7.calm ∧ (0#8 = 0 ∨ 0#8 = 3 ∨ 0#8 = 4) ∧ fusesAnd7.pwr.pd1 = true ∧ fusesAnd7.scan.phase = ScanPhase.frames ∧ (fusesAnd7.scan.stage =
      FrameStage.decoded ∨ fusesAnd7.scan.stage = FrameStage.combined ∨ fusesAnd7.scan.stage = FrameStage.tracked)) ∧
    -- tapPrivateInstruction
    (fusesAnd1.calm ∧ 5 ≤ (5#8).toNat ∧ (5#8).toNat ≤ 254 ∧ fusesAnd1.trust.unlocked = false) ∧
    -- challengeExpiry
    (fusesAnd9.calm ∧ fusesAnd9.trust.challenge = some ([1], 0#56) ∧ reached (fusesAnd9.entered 0#8).now (0#56 + BitVec.ofNat 56 (1048576 * 256)) =
      true) := by
  refine ⟨?_, ?_, ?_, ?_, ?_⟩ <;> (try unfold State.calm) <;> decide +kernel

end Tc

/-! ## Witnesses: The cascade -/

namespace Casc

def par (l : List (Nat × List Byte)) (s : State) : State := { s with params := l ++ s.params }
def ca (f : Cascade → Cascade) (s : State := up) : State := { s with casc := f s.casc }
def rp : Port := ⟨.run, 0, false, false, none, 0⟩
def mst : State := ca (fun c => { c with role := .master, ports := List.replicate 4 rp })
def mem' : State := ca (fun c => { c with role := .member, tile := some 5, ports := List.replicate 4 rp, planValid := true, cols := 2, rows := 2, driveCounts := [192,192], senseCounts := [120,120] })
def bp (n : Nat) : Port := ⟨.bringup, 3, true, false, some 0, n⟩
def dp : Port := ⟨.down, 3, true, false, some 0, 2⟩
def prt (p : Port) (s : State) : State := ca (fun c => { c with ports := [rp, p, p, rp] }) s
def db : DirectBody := ⟨[1,2], 1, 3, some 4, [], [], [], none, [1], [(0x815, [1,0,0,0])], 33⟩
def hd (p : Fin 4) (dst src pt : Nat) : MsgHdr := ⟨p, dst, src, 7, pt⟩
def jm : List Member := (List.range 16).map fun i => if i == 5 then { Member.none with joined := true, placed := true, missed := 9, reason := 0 } else Member.none
def tenonPorts1 : State := prt (bp 0) mst
def tenonPorts4 : State := prt dp mem'
def tenonPorts10 : State := ca (fun c => { c with ports := [bp 0, rp, rp, bp 2], planValid := true }) mst
def cap : TileCap := ⟨20, 16, 192, 120⟩
def tilesEnumerate1 : State := ca (fun c => { c with tile := none, relink := true }) mem'
def tilesEnumerate3 : State := ca (fun c => { c with enumT := some 0, planValid := false }) mst
def tilesEnumerate4 : State := ca (fun c => { c with planValid := true, cols := 2, rows := 2, driveCounts := [192,192], senseCounts := [120,120] }) mst
def tilesEnumerate5 : State := par [(0x504,[1])] (ca (fun c => { c with planValid := true, cols := 2, rows := 2, driveCounts := [192,192], senseCounts := [120,121] }) mst)
def tilesEnumerate6 : State := ca (fun c => { c with planValid := true, cols := 2, rows := 2, driveCounts := [192,192], senseCounts := [120,121] }) mst
def tilesEnumerate8 : State := ca (fun c => { c with members := jm, closedT := some 0 }) mst
def tilesEnumerate9 : State := { (ca (fun c => { c with members := jm }) mst) with time := { up.time with crystalRunning := false }, boot := { up.boot with releaseT := some 0 } }
def pb : PlanBody := ⟨9, 2, 2, 8, [192,192], [120,120], 1, 2, [(0x815, [1,0,0,0])], 33⟩
def pb0 : PlanBody := { pb with firstFrame := 0 }
def nopP : List Byte := [0,1,0,0,0xF0,0xB3,0,0]
def msg (t d q : Nat) : TenonMsg := ⟨t, d, 5, q, [1], .bytes [1]⟩
def rb : ReportBody := ⟨[1], 1, 2, true, [3], 4, [], [], [], false, true, true, false⟩
def rec16 (a b : Byte) : List Byte := [a, b] ++ List.replicate 14 0
def tilesTake10 : State := ca (fun c => { c with members := (List.range 16).map fun i => if i == 5 then { Member.none with joined := true, placed := true, planDue := true } else Member.none, ackWait := [⟨{ msg 3 5 7 with dest := 5 }, 0, 0⟩] }) mst
def tilesTake1 : State := { mem' with scan := { mem'.scan with phase := .frames, stage := .started } }
def tilesTake2 : State := { mem' with scan := { mem'.scan with phase := .waitFrame } }
def tilesTake3 : State := { mem' with boot := { mem'.boot with phase := .waitImage } }
def tilesTake5 : State := ca (fun c => { c with members := jm, imageIn := [(5, [1]), (2, [9])] }) mst
def tilesTake6 : State := { (ca (fun c => { c with members := jm }) mst) with bench := { up.bench with outstanding := [⟨3, 0x4A, 2, [5,0,0,0,0,1], 0⟩] } }
def tilesStay1 : State := ca (fun c => { c with ackWait := [⟨msg 3 0 7, 0, 0⟩, ⟨msg 3 0 6, 0, 2⟩] }) mem'
def tilesStay2 : State := ca (fun c => { c with ackWait := [⟨msg 3 0 7, 0, 3⟩, ⟨msg 3 0 6, 0, 2⟩] }) mem'
def tilesStay3 : State := ca (fun c => { c with members := jm, cols := 2, rows := 2, planValid := true }) mst
def tilesStay5 : State := { (ca (fun c => { c with syncLocked := true, syncFrameT := some t0, syncBad := 2 }) mem') with time := { mem'.time with cascadeLocked := true } }
def lk (s : State) : State := { s with time := { s.time with cascadeLocked := true } }
def tilesStay8 : State := { mst with scan := { mst.scan with phase := .frames, slotT := t0 - 999936, frameTicks := 1000000 } }
def tilesStay9 : State := { mst with pwr := { mst.pwr with syncLow := some (t0 + 5) } }
def tilesStay10 : State := { mst with pwr := { mst.pwr with syncLow := some (t0 - 2) } }
def tilesStay11 : State := { mst with pwr := { mst.pwr with syncLow := some (t0 - 9) } }
def tilesStay12 : State := lk { (ca (fun c => { c with syncLocked := true, syncFrameT := some (t0 - 999964), syncBad := 1 }) mem') with scan := { mem'.scan with phase := .frames, stage := .started, frameT := t0 - 50, frameTicks := 1000000, passesStarted := 1 } }
def tilesStay14 : State := lk mem'
def msg1' : TenonMsg := { type := 4, dest := 0, src := 5, seq := 7, ports := [], payload := TenonBody.bytes [] }
def pk1' : Packet := { opcode := byteAt nopP 0, tag := byteAt nopP 1, par := slice nopP 4 (fieldAt nopP 2 2) }
def cmd1' : Deferred := { tag := 3, opcode := 74, seq := 2, par := [5, 0, 0, 0, 0, 1], t := 0 }
def node1' : StripNode := { delta := 5, flags := 0, inc := none }
def node2' : StripNode := { delta := 6, flags := 1, inc := some 2 }
def wait1' : AckWait := { msg := msg 3 0 6, sentT := 0, resends := 2 }
def wait2' : AckWait := { msg := msg 3 0 7, sentT := 0, resends := 3 }

theorem witness_TenonPortsComeUp_1 :
    -- tenonPolarityTrial
    (tenonPorts1.calm ∧ tenonPorts1.casc.ports.length = 4 ∧ (tenonPorts1.port 1).upFrom = some 0#56 ∧ (tenonPorts1.port 1).phase = PortPhase.bringup
      ∧ tenonPorts1.pwr.pd1 = true ∧ reached (tenonPorts1.entered 0#8).now (0#56 + BitVec.ofNat 56 (2048 * ((tenonPorts1.port 1).tried + 1))) = true)
      ∧
    -- tenonRun
    (tenonPorts1.calm ∧ tenonPorts1.casc.ports.length = 4 ∧ (tenonPorts1.port 1).phase = PortPhase.bringup ∧ tenonPorts1.pwr.pd1 = true ∧ (recordsNow
      tenonPorts1 ∨ tenonPorts1.casc.role = Role.member)) ∧
    -- tenonRun
    (tenonPorts10.calm ∧ tenonPorts10.casc.ports.length = 4 ∧ (tenonPorts10.port 0).phase = PortPhase.bringup ∧ tenonPorts10.pwr.pd1 = true ∧
      recordsNow tenonPorts10 ∧ tenonPorts10.casc.rerouted = false ∧ tenonPorts10.joinedTiles = [] ∧ tenonPorts10.casc.enumT = none ∧
      tenonPorts10.casc.closedT = none ∧ tenonPorts10.casc.planValid = true ∧ (0 = 0 ∨ 0 = 3)) ∧
    -- tenonPortDown
    (tenonPorts1.calm ∧ tenonPorts1.casc.ports.length = 4 ∧ tenonPorts1.portRun 0 = true ∧ (recordsNow tenonPorts1 ∨ tenonPorts1.casc.role =
      Role.member)) ∧
    -- tenonBringupRestart
    (tenonPorts4.calm ∧ tenonPorts4.casc.ports.length = 4 ∧ (tenonPorts4.port 1).upFrom = some 0#56 ∧ (tenonPorts4.port 1).phase = PortPhase.down ∧
      tenonPorts4.pwr.pd1 = true ∧ reached (tenonPorts4.entered 0#8).now 0#56 = true) ∧
    -- tenonMessageCrcFail
    (tenonPorts1.calm ∧ tenonPorts1.casc.ports.length = 4 ∧ tenonPorts1.portRun 0 = true ∧ wireOk [1] = false) := by
  refine ⟨?_, ?_, ?_, ?_, ?_, ?_⟩ <;> (try unfold State.calm) <;> (try unfold recordsNow) <;> decide +kernel

theorem witness_TenonPortsComeUp_2 :
    -- tenonMessageCrcFail
    (tenonPorts1.calm ∧ tenonPorts1.casc.ports.length = 4 ∧ tenonPorts1.portRun 0 = true ∧ wireOk (wireBytes msg1' 3 [3, 7]) = true) ∧
    -- direct
    (tenonPorts1.calm ∧ tenonPorts1.casc.ports.length = 4 ∧ (hd 0 5 0 3).inPort = 0 ∧ tenonPorts1.portRun 0 = true ∧ tenonPorts1.casc.role ≠
      Role.standalone ∧ (hd 0 5 0 3).port ≠ (0 + 2) % 4 ∧ recordsNow tenonPorts1 ∧ tenonPorts1.casc.rerouted = false ∧ tenonPorts1.joinedTiles = [])
      := by
  refine ⟨?_, ?_⟩ <;> (try unfold State.calm) <;> (try unfold recordsNow) <;> decide +kernel

theorem witness_TilesEnumerateAndJoin_1 :
    -- enum
    (tilesEnumerate1.calm ∧ tilesEnumerate1.portRun ↑(hd 3 5 0 1).inPort = true ∧ (hd 3 5 0 1).port = (↑(hd 3 5 0 1).inPort + 2) % 4 ∧ (↑(hd 3 5 0
      1).inPort = 0 ∨ ↑(hd 3 5 0 1).inPort = 3) ∧ (if ↑(hd 3 5 0 1).inPort = 3 then 0 + 1 else 0) ≤ 3 ∧ (if ↑(hd 3 5 0 1).inPort = 3 then 0 else 0 +
      1) ≤ 3 ∧ tilesEnumerate1.casc.role = Role.member ∧ tilesEnumerate1.casc.tile = none) ∧
    -- enum
    (mem'.calm ∧ mem'.portRun ↑(hd 3 5 0 1).inPort = true ∧ (hd 3 5 0 1).port = (↑(hd 3 5 0 1).inPort + 2) % 4 ∧ (↑(hd 3 5 0 1).inPort = 0 ∨ ↑(hd 3 5
      0 1).inPort = 3) ∧ (if ↑(hd 3 5 0 1).inPort = 3 then 0 + 1 else 0) ≤ 3 ∧ (if ↑(hd 3 5 0 1).inPort = 3 then 1 else 1 + 1) ≤ 3 ∧ mem'.casc.role =
      Role.member ∧ mem'.casc.tile = some ((4 * if ↑(hd 3 5 0 1).inPort = 3 then 1 else 1 + 1) + if ↑(hd 3 5 0 1).inPort = 3 then 0 + 1 else 0) ∧
      mem'.casc.relink = false) ∧
    -- enum
    (mst.calm ∧ mst.portRun ↑(hd 3 5 0 1).inPort = true ∧ (hd 3 5 0 1).port = (↑(hd 3 5 0 1).inPort + 2) % 4 ∧ (↑(hd 3 5 0 1).inPort = 0 ∨ ↑(hd 3 5 0
      1).inPort = 3) ∧ (if ↑(hd 3 5 0 1).inPort = 3 then 0 + 1 else 0) ≤ 3 ∧ (if ↑(hd 3 5 0 1).inPort = 3 then 0 else 0 + 1) ≤ 3 ∧ mst.casc.role =
      Role.master ∧ mst.scan.phase = ScanPhase.stopped) ∧
    -- enumReply
    (tilesEnumerate3.calm ∧ tilesEnumerate3.portRun ↑(hd 3 0 1 1).inPort = true ∧ (hd 3 0 1 1).port = (↑(hd 3 0 1 1).inPort + 2) % 4 ∧ arrives
      tilesEnumerate3 (hd 3 0 1 1) ∧ tilesEnumerate3.casc.role = Role.master ∧ tilesEnumerate3.casc.members.length = 16 ∧ tilesEnumerate3.casc.enumT
      = some 0#56 ∧ 0 ≤ 3) ∧
    -- enumReply
    (mst.calm ∧ mst.portRun ↑(hd 3 0 1 1).inPort = true ∧ (hd 3 0 1 1).port = (↑(hd 3 0 1 1).inPort + 2) % 4 ∧ arrives mst (hd 3 0 1 1) ∧
      mst.casc.role = Role.master ∧ mst.casc.members.length = 16 ∧ (3 < 0 ∨ 3 < 4) ∧ recordsNow mst) ∧
    -- join
    (tilesEnumerate5.calm ∧ tilesEnumerate5.portRun ↑(hd 3 0 1 1).inPort = true ∧ (hd 3 0 1 1).port = (↑(hd 3 0 1 1).inPort + 2) % 4 ∧ arrives
      tilesEnumerate5 (hd 3 0 1 1) ∧ tilesEnumerate5.casc.role = Role.master ∧ tilesEnumerate5.casc.members.length = 16 ∧
      tilesEnumerate5.casc.planValid = true ∧ tilesEnumerate5.casc.enumT = none ∧ 0 < (hd 3 0 1 1).src ∧ (hd 3 0 1 1).src ≤ 15 ∧
      (tilesEnumerate5.member (hd 3 0 1 1).src).joined = false ∧ tilesEnumerate5.pnat 1284 = 1) := by
  refine ⟨?_, ?_, ?_, ?_, ?_, ?_⟩ <;> (try unfold State.calm) <;> (try unfold recordsNow) <;> (try unfold arrives) <;> decide +kernel

theorem witness_TilesEnumerateAndJoin_2 :
    -- join
    (tilesEnumerate4.calm ∧ tilesEnumerate4.portRun ↑(hd 3 0 1 1).inPort = true ∧ (hd 3 0 1 1).port = (↑(hd 3 0 1 1).inPort + 2) % 4 ∧ arrives
      tilesEnumerate4 (hd 3 0 1 1) ∧ tilesEnumerate4.casc.role = Role.master ∧ tilesEnumerate4.casc.members.length = 16 ∧
      tilesEnumerate4.casc.planValid = true ∧ tilesEnumerate4.casc.enumT = none ∧ 0 < (hd 3 0 1 1).src ∧ (hd 3 0 1 1).src ≤ 15 ∧
      (tilesEnumerate4.member (hd 3 0 1 1).src).joined = false ∧ tilesEnumerate4.pnat 1284 ≠ 1 ∧ recordsNow tilesEnumerate4 ∧ (cap.driveCount =
      tilesEnumerate4.casc.driveCounts.getD ((hd 3 0 1 1).src / 4) 0 ∧ cap.senseCount = tilesEnumerate4.casc.senseCounts.getD ((hd 3 0 1 1).src % 4)
      0 ∧ ((tilesEnumerate4.member (hd 3 0 1 1).src).placed = true → (tilesEnumerate4.member (hd 3 0 1 1).src).cap.partCode = cap.partCode) ∧ (hd 3 0
      1 1).src % 4 < tilesEnumerate4.casc.cols ∧ (hd 3 0 1 1).src / 4 < tilesEnumerate4.casc.rows) ∧ tilesEnumerate4.joinedTiles.length + 1 <
      tileLimit (tilesEnumerate4.modMember (hd 3 0 1 1).src fun m =>
      { m with cap := if (tilesEnumerate4.member (hd 3 0 1 1).src).placed = true then (tilesEnumerate4.member (hd 3 0 1 1).src).cap else cap, placed := true }))
      ∧
    -- join
    (tilesEnumerate6.calm ∧ tilesEnumerate6.portRun ↑(hd 3 0 1 1).inPort = true ∧ (hd 3 0 1 1).port = (↑(hd 3 0 1 1).inPort + 2) % 4 ∧ arrives
      tilesEnumerate6 (hd 3 0 1 1) ∧ tilesEnumerate6.casc.role = Role.master ∧ tilesEnumerate6.casc.members.length = 16 ∧
      tilesEnumerate6.casc.planValid = true ∧ tilesEnumerate6.casc.enumT = none ∧ 0 < (hd 3 0 1 1).src ∧ (hd 3 0 1 1).src ≤ 15 ∧
      (tilesEnumerate6.member (hd 3 0 1 1).src).joined = false ∧ tilesEnumerate6.pnat 1284 ≠ 1 ∧ recordsNow tilesEnumerate6 ∧ (¬(cap.driveCount =
      tilesEnumerate6.casc.driveCounts.getD ((hd 3 0 1 1).src / 4) 0 ∧ cap.senseCount = tilesEnumerate6.casc.senseCounts.getD ((hd 3 0 1 1).src % 4)
      0 ∧ ((tilesEnumerate6.member (hd 3 0 1 1).src).placed = true → (tilesEnumerate6.member (hd 3 0 1 1).src).cap.partCode = cap.partCode) ∧ (hd 3 0
      1 1).src % 4 < tilesEnumerate6.casc.cols ∧ (hd 3 0 1 1).src / 4 < tilesEnumerate6.casc.rows) ∧ 4 = 4 ∨ (cap.driveCount =
      tilesEnumerate6.casc.driveCounts.getD ((hd 3 0 1 1).src / 4) 0 ∧ cap.senseCount = tilesEnumerate6.casc.senseCounts.getD ((hd 3 0 1 1).src % 4)
      0 ∧ ((tilesEnumerate6.member (hd 3 0 1 1).src).placed = true → (tilesEnumerate6.member (hd 3 0 1 1).src).cap.partCode = cap.partCode) ∧ (hd 3 0
      1 1).src % 4 < tilesEnumerate6.casc.cols ∧ (hd 3 0 1 1).src / 4 < tilesEnumerate6.casc.rows) ∧ ¬tilesEnumerate6.joinedTiles.length + 1 <
      tileLimit (tilesEnumerate6.modMember (hd 3 0 1 1).src fun m =>
      { m with cap := if (tilesEnumerate6.member (hd 3 0 1 1).src).placed = true then (tilesEnumerate6.member (hd 3 0 1 1).src).cap else cap, placed := true })
      ∧ 4 = 5)) ∧
    -- enumWindowClose
    (tilesEnumerate3.calm ∧ tilesEnumerate3.casc.role = Role.master ∧ tilesEnumerate3.casc.enumT = some 0#56 ∧ reached (tilesEnumerate3.entered
      0#8).now (0#56 + BitVec.ofNat 56 (256 * tilesEnumerate3.pnat 1286)) = true ∧ tilesEnumerate3.casc.resume = none ∧ tilesEnumerate3.casc.replan =
      false) ∧
    -- memberReadyTimeout
    (tilesEnumerate8.calm ∧ tilesEnumerate8.casc.role = Role.master ∧ tilesEnumerate8.casc.closedT = some 0#56 ∧ tilesEnumerate8.casc.members.length
      = 16 ∧ tilesEnumerate8.casc.resume = none ∧ reached (tilesEnumerate8.entered 0#8).now (0#56 + 8388608#56) = true) ∧
    -- memberReadyTimeout
    (tilesEnumerate9.calm ∧ tilesEnumerate9.casc.role = Role.master ∧ tilesEnumerate9.casc.closedT = none ∧ tilesEnumerate9.boot.releaseT = some 0#56
      ∧ tilesEnumerate9.ownSource = false ∧ tilesEnumerate9.casc.planValid = false ∧ tilesEnumerate9.casc.enumT = none ∧ tilesEnumerate9.casc.alone =
      false ∧ tilesEnumerate9.boot.phase = BootPhase.done ∧ reached (tilesEnumerate9.entered 0#8).now (0#56 + 8388608#56) = true) := by
  refine ⟨?_, ?_, ?_, ?_, ?_⟩ <;> (try unfold State.calm) <;> (try unfold recordsNow) <;> (try unfold arrives) <;> decide +kernel

theorem witness_TilesTakeTheirMessages_1 :
    -- plan
    (tilesTake1.calm ∧ arrives tilesTake1 (hd 3 5 0 1) ∧ tilesTake1.casc.role = Role.member ∧ (tilesTake1.scan.phase = ScanPhase.frames ∨
      tilesTake1.scan.phase = ScanPhase.waitFrame ∧ 0 < pb.firstFrame ∧ tilesTake1.bench.owed = none)) ∧
    -- plan
    (tilesTake2.calm ∧ arrives tilesTake2 (hd 3 5 0 1) ∧ tilesTake2.casc.role = Role.member ∧ tilesTake2.scan.phase = ScanPhase.waitFrame ∧
      pb0.firstFrame = 0 ∧ tilesTake2.bench.owed = none) ∧
    -- direct
    (tilesTake1.calm ∧ arrives tilesTake1 (hd 3 5 0 1) ∧ tilesTake1.casc.role = Role.member ∧ db.absorb = [] ∧ db.envTemp = [] ∧ db.envHumid = [] ∧
      tilesTake1.scan.phase ≠ ScanPhase.stopped ∧ tilesTake1.trust.boundary = false ∧ (db.power = none ∨ ∃ p, db.power = some p ∧ 2 ≤ p)) ∧
    -- imageChunk
    (mem'.calm ∧ arrives mem' (hd 3 5 0 1) ∧ mem'.casc.role = Role.member ∧ (mem'.boot.phase = BootPhase.waitImage ∨ mem'.boot.phase =
      BootPhase.done)) ∧
    -- forward
    (tilesTake3.calm ∧ arrives tilesTake3 (hd 3 5 0 1) ∧ tilesTake3.casc.role = Role.member ∧ (tilesTake3.bench.resetArmed.isSome = true ∨
      tilesTake3.boot.phase ≠ BootPhase.done ∨ tilesTake3.pwr.pd1 = false)) ∧
    -- forward
    (mem'.calm ∧ arrives mem' (hd 3 5 0 1) ∧ mem'.casc.role = Role.member ∧ mem'.bench.resetArmed = none ∧ mem'.boot.phase = BootPhase.done ∧
      mem'.pwr.pd1 = true ∧ 2 ≤ mem'.pwr.st.toNat ∧ takePacket nopP = Taken.packet pk1' 8 ∧ pk1'.opcode = 0 ∧ pk1'.par = []) := by
  refine ⟨?_, ?_, ?_, ?_, ?_, ?_⟩ <;> (try unfold State.calm) <;> (try unfold arrives) <;> decide +kernel

theorem witness_TilesTakeTheirMessages_2 :
    -- report
    (tilesTake5.calm ∧ arrives tilesTake5 (hd 3 0 5 1) ∧ tilesTake5.casc.role = Role.master ∧ tilesTake5.casc.members.length = 16 ∧
      (tilesTake5.member (hd 3 0 5 1).src).joined = true ∧ (hd 3 0 5 1).src < 16 ∧ rb.imageBad = false ∧ tilesTake5.casc.closedT = none) ∧
    -- event
    (tilesTake5.calm ∧ arrives tilesTake5 (hd 3 0 5 1) ∧ tilesTake5.casc.role = Role.master ∧ tilesTake5.casc.members.length = 16 ∧ recordsNow
      tilesTake5 ∧ (rec16 8 3).length = 16 ∧ byteAt (rec16 8 3) 0 = 8 ∧ byteAt (rec16 8 3) 1 ≠ 10) ∧
    -- event
    (tilesTake5.calm ∧ arrives tilesTake5 (hd 3 0 5 1) ∧ tilesTake5.casc.role = Role.master ∧ tilesTake5.casc.members.length = 16 ∧ recordsNow
      tilesTake5 ∧ (rec16 7 1).length = 16 ∧ byteAt (rec16 7 1) 0 = 7) ∧
    -- event
    (tilesTake5.calm ∧ arrives tilesTake5 (hd 3 0 5 1) ∧ tilesTake5.casc.role = Role.master ∧ tilesTake5.casc.members.length = 16 ∧ recordsNow
      tilesTake5 ∧ (rec16 9 5).length = 16 ∧ byteAt (rec16 9 5) 0 = 9) ∧
    (tilesTake6.calm ∧ arrives tilesTake6 (hd 3 0 5 1) ∧ tilesTake6.casc.role = Role.master ∧ tilesTake6.casc.members.length = 16 ∧ forwardOf
      tilesTake6 (hd 3 0 5 1).src (rec16 7 1) = some cmd1' ∧ tilesTake6.atTurn cmd1' ∧ writesNow tilesTake6 (rec16 7 1).length) ∧
    -- imageData
    (tilesTake5.calm ∧ arrives tilesTake5 (hd 3 0 5 1) ∧ tilesTake5.casc.role = Role.master ∧ tilesTake5.casc.members.length = 16 ∧
      (tilesTake5.member (hd 3 0 5 1).src).joined = true ∧ List.find? (fun e => e.fst == (hd 3 0 5 1).src) tilesTake5.casc.imageIn = some (5, [1]))
      := by
  refine ⟨?_, ?_, ?_, ?_, ?_, ?_⟩ <;> (try unfold State.calm) <;> (try unfold State.atTurn) <;> (try unfold writesNow) <;> (try unfold recordsNow) <;> (try unfold arrives) <;> (try unfold replyFits) <;> decide +kernel

theorem witness_TilesTakeTheirMessages_3 :
    -- ack
    (mem'.calm ∧ arrives mem' (hd 3 5 0 1) ∧ ((mem'.member (hd 3 5 0 1).src).planDue = false ∨ ((List.filter (fun w => !(w.msg.type == (3#8).toNat &&
      w.msg.seq == (3#8).toNat && w.msg.dest == (hd 3 5 0 1).src)) mem'.casc.ackWait).any fun w => w.msg.type == 3 && w.msg.dest == (hd 3 5 0 1).src)
      = true)) ∧
    -- ack
    (tilesTake10.calm ∧ arrives tilesTake10 (hd 3 0 5 1) ∧ (tilesTake10.member (hd 3 0 5 1).src).planDue = true ∧ ((List.filter (fun w =>
      !(w.msg.type == (3#8).toNat && w.msg.seq == (7#8).toNat && w.msg.dest == (hd 3 0 5 1).src)) tilesTake10.casc.ackWait).any fun w => w.msg.type
      == 3 && w.msg.dest == (hd 3 0 5 1).src) = false ∧ (hd 3 0 5 1).src ≠ 255 ∧ routeTo tilesTake10 (hd 3 0 5 1).src = some (1, false)) ∧
    (tilesTake1.calm ∧ arrives tilesTake1 (hd 3 5 0 1) ∧ (tilesTake1.scan.stage = FrameStage.started ∨ tilesTake1.scan.stage = FrameStage.decoded ∨
      tilesTake1.scan.stage = FrameStage.combined) ∧ Instr.scarfStrip (3#8) (hd 3 5 0 1) [node1', node2'] ∈ [Instr.scarfStrip (3#8) (hd 3 5 0 1)
      [node1', node2'], Instr.scarfCorner (3#8) (hd 3 5 0 1) [node1', node2']]) ∧
    -- scarfCross
    (tilesTake1.calm ∧ arrives tilesTake1 (hd 3 5 0 1) ∧ (tilesTake1.scan.stage = FrameStage.started ∨ tilesTake1.scan.stage = FrameStage.decoded) ∧
      tilesTake1.casc.merged = false) := by
  refine ⟨?_, ?_, ?_, ?_⟩ <;> (try unfold State.calm) <;> (try unfold arrives) <;> decide +kernel

theorem witness_TilesStayInStep_1 :
    -- ackTimeout
    (tilesStay1.calm ∧ List.find? (fun w => w.msg.dest == 0 && w.msg.type == 3 && w.msg.seq == 6) tilesStay1.casc.ackWait = some wait1' ∧ reached
      (tilesStay1.entered 0#8).now (wait1'.sentT + 65536#56) = true ∧ wait1'.resends < 3) ∧
    -- ackTimeout
    (tilesStay2.calm ∧ List.find? (fun w => w.msg.dest == 0 && w.msg.type == 3 && w.msg.seq == 7) tilesStay2.casc.ackWait = some wait2' ∧ reached
      (tilesStay2.entered 0#8).now (wait2'.sentT + 65536#56) = true ∧ 3 ≤ wait2'.resends ∧ tilesStay2.casc.role = Role.member) ∧
    -- memberLost
    (tilesStay3.calm ∧ tilesStay3.casc.role = Role.master ∧ 5 < 16 ∧ tilesStay3.casc.members.length = 16 ∧ (tilesStay3.member 5).joined = true ∧ ((1
      = 1 ∨ 1 = 3) ∧ tilesStay3.pnat 1283 ≤ (tilesStay3.member 5).missed ∨ 1 = 2 ∧ routeTo tilesStay3 5 = none) ∧ tilesStay3.trk.contacts = [] ∧
      tilesStay3.casc.closedT = none ∧ recordsNow tilesStay3 ∧ tilesStay3.joinedTiles = [5] ∧ tilesStay3.casc.rerouted = false ∧ tilesStay3.running =
      []) ∧
    -- syncPulse
    (tilesStay14.calm ∧ tilesStay14.casc.role = Role.member ∧ tilesStay14.dormant = false ∧ tilesStay14.casc.planValid = true ∧
      tilesStay14.time.cascadeLocked = true ∧ tilesStay14.casc.syncLost = false ∧ 16 ≤ 16 ∧ 16 ≤ 40 ∧ tilesStay14.casc.syncLocked = false) ∧
    -- syncPulse
    (tilesStay12.calm ∧ tilesStay12.casc.role = Role.member ∧ tilesStay12.dormant = false ∧ tilesStay12.casc.planValid = true ∧
      tilesStay12.time.cascadeLocked = true ∧ tilesStay12.casc.syncLost = false ∧ 16 ≤ 28 ∧ 28 ≤ 40 ∧ tilesStay12.casc.syncLocked = true ∧
      tilesStay12.casc.syncFrameT = some (t0 - 999964) ∧ 1 ≤ 1 ∧ 2 * 0 < tilesStay12.scan.frameTicks ∧ (1 + 1) * tilesStay12.scan.frameTicks < 2 ^ 56
      ∧ ((tilesStay12.entered 0#8).now - 28#56 + 64 = t0 - 999964 + BitVec.ofNat 56 (1 * tilesStay12.scan.frameTicks) + 0#56 ∨ (tilesStay12.entered
      0#8).now - 28#56 + 64 + 0#56 = t0 - 999964 + BitVec.ofNat 56 (1 * tilesStay12.scan.frameTicks))) ∧
    -- syncPulse
    (tilesStay14.calm ∧ tilesStay14.casc.role = Role.member ∧ tilesStay14.dormant = false ∧ tilesStay14.casc.planValid = true ∧
      tilesStay14.time.cascadeLocked = true ∧ tilesStay14.casc.syncLost = false ∧ 4 ≤ 4 ∧ 4 ≤ 15) := by
  refine ⟨?_, ?_, ?_, ?_, ?_, ?_⟩ <;> (try unfold State.calm) <;> (try unfold recordsNow) <;> decide +kernel

theorem witness_TilesStayInStep_2 :
    -- syncPulse
    (tilesStay14.calm ∧ tilesStay14.casc.role = Role.member ∧ tilesStay14.dormant = false ∧ tilesStay14.casc.planValid = true ∧
      tilesStay14.time.cascadeLocked = true ∧ tilesStay14.casc.syncLost = false ∧ 41 ≤ 41) ∧
    -- syncLost
    (tilesStay5.calm ∧ tilesStay5.casc.role = Role.member ∧ tilesStay5.dormant = false ∧ tilesStay5.casc.planValid = true ∧
      tilesStay5.time.cascadeLocked = true ∧ tilesStay5.casc.syncLost = false ∧ tilesStay5.casc.syncLocked = true ∧ 2 ≤ tilesStay5.casc.syncBad) ∧
    -- syncAnnounce
    (tilesStay8.calm ∧ tilesStay8.casc.role = Role.master ∧ scheduled true ((tilesStay8.entered 0#8).now + 64) (tilesStay8.entered 0#8) = true) ∧
    -- syncAnnounce
    (tilesStay3.calm ∧ tilesStay3.casc.role = Role.master ∧ scheduled false ((tilesStay3.entered 0#8).now + 64) (tilesStay3.entered 0#8) = false) ∧
    (tilesStay9.calm ∧ tilesStay9.pwr.syncLow = some (t0 + 5) ∧ tilesStay9.casc.role = Role.master ∧ reached tilesStay9.now (t0 + 5) = false) ∧
    (tilesStay10.calm ∧ tilesStay10.pwr.syncLow = some (t0 - 2) ∧ tilesStay10.casc.role = Role.master ∧ reached tilesStay10.now (t0 - 2) = true ∧
      reached tilesStay10.now (t0 - 2 + 4) = false) := by
  refine ⟨?_, ?_, ?_, ?_, ?_, ?_⟩ <;> (try unfold State.calm) <;> decide +kernel

theorem witness_TilesStayInStep_3 :
    tilesStay11.calm ∧ tilesStay11.pwr.syncLow = some (t0 - 9) ∧ tilesStay11.casc.role = Role.master ∧ reached tilesStay11.now (t0 - 9) = true ∧
      reached tilesStay11.now (t0 - 9 + 4) = true := by
  unfold State.calm; decide +kernel

end Casc

/-! ## Witnesses: Packets and commands that read -/

namespace Cmds

def dormant (s : State) : State := { s with pwr := { s.pwr with st := 0 } }
def stSs1_1 : State := cm 0 []
def stSs1_2 : State := p12 (cm 0x30 (padTo 20 []))
def stSs1_4 : State := cm 0x30 [1]
def stSs1_6 : State := dormant (cm 0x03 [])
def stSs2_1 : State := cm 0x99 []
def stSs2_3 : State := raw [0,1,0,0]
def casc (s : State) : State := { s with casc := { s.casc with role := .master, tile := some 0 } }
def stSs3_1 : State := cm 1 []
def stSs3_2 : State := cm 3 []
def stSs3_3 : State := cm 0x15 []
def stSs3_4 : State := cm 0x55 []
def stSs3_5 : State := cm 0x5B []
def stSs3_6 : State := cm 0x68 []
def stSs3_7 : State := casc (cm 0x48 [])
def stSs4_1 : State := cm 0x21 [0,0,2,0]
def stSs4_3 : State := cm 0x21 [0,0,0,0]
def stSs4_6 : State := cm 0x50 [0,1]
def stSs4_7 : State := cm 0x50 [0,1,0xFF,0xF0]
def stSs4_9 : State := cm 0x50 ((List.range 40).flatMap fun _ => [0x21,1])
def stSs4_10 : State := cm 0x41 [1]
def stSs4_11 : State := cm 0x36 [5,3]
def stSs5_1 : State := cm 0x16 (padTo 124 [1])
def stSs5_2 : State := cm 0x1A [2]
def stSs5_3 : State := cm 0x22 (dflt (idRange 0x310 0x31A))
def stSs5_4 : State := cm 0x23 (padTo 106 (dflt (idRange 0x400 0x406) ++ [0] ++ dflt (idRange 0x410 0x417)))
def stSs5_5 : State := cm 0x24 (padTo 16 (dflt (idRange 0x300 0x309)))
def stSs5_6 : State := cm 0x61 [0,0,0,0]
def form1' : Form := { run := Instr.levelConfig, op := 48, len := 20, set := StateSet.normal, level := true, cascade := false }
def form2' : Form := { run := Instr.getStatus, op := 3, len := 0, set := StateSet.all, level := false, cascade := false }
def pk1' : Packet := { opcode := byteAt (pkt 0 1 []) 0, tag := byteAt (pkt 0 1 []) 1, par := slice (pkt 0 1 []) 4 (fieldAt (pkt 0 1 []) 2 2) }
def rep1' : Reply := { tag := 3, opcode := 4, status := 0, kind := 2, seq := 70000, data := [1, 2, 3], mark := RecMark.plain }

theorem witness_FormsAreCheckedInOrder :
    (form1' ∈ forms ∧ Serves stSs1_2 form1'.op (packetOf stSs1_2) 8 ∧ stSs1_2.calm ∧ replyFits (stSs1_2.taken (0#8) 8) 0 ∧ ¬form1'.present
      stSs1_2.part) ∧
    (form1' ∈ forms ∧ Serves stSs1_4 form1'.op (packetOf stSs1_4) 8 ∧ stSs1_4.calm ∧ replyFits (stSs1_4.taken (0#8) 8) 0 ∧ form1'.present
      stSs1_4.part ∧ (packetOf stSs1_4).par.length ≠ form1'.len) ∧
    (form2' ∈ forms ∧ Serves stSs1_6 form2'.op (packetOf stSs1_6) 8 ∧ stSs1_6.calm ∧ replyFits (stSs1_6.taken (0#8) 8) 0 ∧ form2'.present
      stSs1_6.part ∧ (packetOf stSs1_6).par.length = form2'.len ∧ inSet form2'.set stSs1_6 = false) := by
  exact ⟨⟨by simp [forms, form1'], by unfold State.calm Serves replyFits; unfold Form.present; decide +kernel⟩, ⟨by simp [forms, form1'], by unfold State.calm Serves replyFits; unfold Form.present; decide +kernel⟩, ⟨by simp [forms, form2'], by unfold State.calm Serves replyFits; unfold Form.present; decide +kernel⟩⟩

theorem witness_BadPacketsAreRefused :
    (benchOpen stSs2_1 = true ∧ stSs2_1.calm ∧ takePacket (benchFront stSs2_1) = Taken.packet (packetOf stSs2_1) 8 ∧ ¬(packetOf stSs2_1).opcode ∈
      knownOpcodes ∧ replyFits (stSs2_1.taken (0#8) 8) 0) ∧
    -- malformedPush
    (benchOpen stSs2_3 = true ∧ stSs2_3.calm ∧ (takePacket (benchFront stSs2_3) = Taken.badLength 1 0 ∧ 3 = 3 ∨ takePacket (benchFront stSs2_3) =
      Taken.crcError 1 0 ∧ 3 = 8) ∧ replyFits (countPacket (dropPush (stSs2_3.entered 0#8))) 0) := by
  refine ⟨?_, ?_⟩ <;> (try unfold State.calm) <;> (try unfold replyFits) <;> decide +kernel

theorem witness_PacketsAreRead :
    (takePacket (pkt 0 1 []) = Taken.packet pk1' 8) ∧
    (8 ≤ (pkt 0 1 []).length ∧ 4 * ((fieldAt (pkt 0 1 []) 2 2 + 9) / 4) ≤ (pkt 0 1 []).length) := by
  refine ⟨?_, ?_⟩ <;> decide +kernel

theorem witness_ReadCommandsAnswer_1 :
    (stSs1_1.calm ∧ (packetOf stSs1_1).par = [] ∧ Serves stSs1_1 0 (packetOf stSs1_1) 8 ∧ inSet StateSet.all stSs1_1 = true ∧ replyFits
      (stSs1_1.taken (0#8) 8) ([] : List Byte).length) ∧
    (stSs3_1.calm ∧ (packetOf stSs3_1).par = [] ∧ Serves stSs3_1 1 (packetOf stSs3_1) 8 ∧ inSet StateSet.all stSs3_1 = true ∧ replyFits
      (stSs3_1.taken (0#8) 8) (identifyData (stSs3_1.taken (0#8) 8)).length) ∧
    (stSs3_2.calm ∧ (packetOf stSs3_2).par = [] ∧ Serves stSs3_2 3 (packetOf stSs3_2) 8 ∧ inSet StateSet.all stSs3_2 = true ∧ replyFits
      (stSs3_2.taken (0#8) 8) (statusData (stSs3_2.taken (0#8) 8)).length) ∧
    (stSs3_3.calm ∧ (packetOf stSs3_3).par = [] ∧ Serves stSs3_3 21 (packetOf stSs3_3) 8 ∧ inSet StateSet.normal stSs3_3 = true ∧ replyFits
      (stSs3_3.taken (0#8) 8) (healthMap (stSs3_3.taken (0#8) 8)).length) ∧
    (stSs3_4.calm ∧ (packetOf stSs3_4).par = [] ∧ Serves stSs3_4 85 (packetOf stSs3_4) 8 ∧ inSet StateSet.all stSs3_4 = true ∧ replyFits
      (stSs3_4.taken (0#8) 8) (memoryInfo (stSs3_4.taken (0#8) 8)).length) ∧
    (stSs3_5.calm ∧ (packetOf stSs3_5).par = [] ∧ Serves stSs3_5 91 (packetOf stSs3_5) 8 ∧ inSet StateSet.all stSs3_5 = true ∧ replyFits
      (stSs3_5.taken (0#8) 8) (timeSnapshot (stSs3_5.taken (0#8) 8)).length) := by
  refine ⟨?_, ?_, ?_, ?_, ?_, ?_⟩ <;> (try unfold State.calm) <;> (try unfold Serves) <;> (try unfold replyFits) <;> decide +kernel

theorem witness_ReadCommandsAnswer_2 :
    (stSs3_6.calm ∧ (packetOf stSs3_6).par = [] ∧ Serves stSs3_6 104 (packetOf stSs3_6) 8 ∧ inSet StateSet.all stSs3_6 = true ∧ replyFits
      (stSs3_6.taken (0#8) 8) (telemetryBlock (stSs3_6.taken (0#8) 8)).length) ∧
    (stSs3_7.calm ∧ (packetOf stSs3_7).par = [] ∧ stSs3_7.part.hasCascade = true ∧ stSs3_7.inCascade = true ∧ Serves stSs3_7 72 (packetOf stSs3_7) 8
      ∧ inSet StateSet.normal stSs3_7 = true ∧ replyFits (stSs3_7.taken (0#8) 8) (cascadeMapData (stSs3_7.taken (0#8) 8)).length) := by
  refine ⟨?_, ?_⟩ <;> (try unfold State.calm) <;> (try unfold Serves) <;> (try unfold replyFits) <;> decide +kernel

set_option maxRecDepth 1000000 in
theorem witness_ReadsWithParametersAnswer_1 :
    (stSs4_1.calm ∧ inSet StateSet.normal stSs4_1 = true ∧ Serves stSs4_1 33 (packetOf stSs4_1) 12 ∧ (packetOf stSs4_1).par.length = 4 ∧ 1 ≤ fieldAt
      (packetOf stSs4_1).par 2 2 ∧ fieldAt (packetOf stSs4_1).par 2 2 ≤ 255 ∧ fieldAt (packetOf stSs4_1).par 0 2 + fieldAt (packetOf stSs4_1).par 2 2
      ≤ 256 ∧ replyFits (stSs4_1.taken (0#8) 12) (List.flatMap (fun i => keyReadRec (stSs4_1.taken (0#8) 12) (fieldAt (packetOf stSs4_1).par 0 2 +
      i)) (List.range (fieldAt (packetOf stSs4_1).par 2 2))).length) ∧
    (stSs4_3.calm ∧ inSet StateSet.normal stSs4_3 = true ∧ Serves stSs4_3 33 (packetOf stSs4_3) 12 ∧ (packetOf stSs4_3).par.length = 4 ∧ (fieldAt
      (packetOf stSs4_3).par 2 2 = 0 ∨ 255 < fieldAt (packetOf stSs4_3).par 2 2 ∨ 256 < fieldAt (packetOf stSs4_3).par 0 2 + fieldAt (packetOf
      stSs4_3).par 2 2) ∧ replyFits (stSs4_3.taken (0#8) 12) 0) ∧
    (stSs4_6.calm ∧ inSet StateSet.normal stSs4_6 = true ∧ Serves stSs4_6 80 (packetOf stSs4_6) 8 ∧ (packetOf stSs4_6).par ≠ [] ∧ (packetOf
      stSs4_6).par.length % 2 = 0 ∧ getBad stSs4_6.part 0 (getIds (packetOf stSs4_6).par) = none ∧ replyFits (stSs4_6.taken (0#8) 8) (List.flatMap
      (fun id => recordBytes id (getValue (stSs4_6.taken (0#8) 8) id)) (getIds (packetOf stSs4_6).par)).length) ∧
    (stSs4_9.calm ∧ inSet StateSet.normal stSs4_9 = true ∧ Serves stSs4_9 80 (packetOf stSs4_9) 88 ∧ (packetOf stSs4_9).par ≠ [] ∧ (packetOf
      stSs4_9).par.length % 2 = 0 ∧ getBad stSs4_9.part 0 (getIds (packetOf stSs4_9).par) = none ∧ 4082 < (List.flatMap (fun id => recordBytes id
      (getValue (stSs4_9.taken (0#8) 88) id)) (getIds (packetOf stSs4_9).par)).length ∧ replyFits (stSs4_9.taken (0#8) 88) 0) ∧
    (stSs4_7.calm ∧ inSet StateSet.normal stSs4_7 = true ∧ Serves stSs4_7 80 (packetOf stSs4_7) 12 ∧ (packetOf stSs4_7).par ≠ [] ∧ (packetOf
      stSs4_7).par.length % 2 = 0 ∧ getBad stSs4_7.part 0 (getIds (packetOf stSs4_7).par) = some (4, 1, 61695) ∧ replyFits (stSs4_7.taken (0#8) 12)
      4) ∧
    (stSs4_10.calm ∧ inSet StateSet.normal stSs4_10 = true ∧ Serves stSs4_10 65 (packetOf stSs4_10) 8 ∧ (packetOf stSs4_10).par = [1] ∧ replyFits
      (stSs4_10.taken (0#8) 8) (partnerTable (stSs4_10.taken (0#8) 8)).length) := by
  refine ⟨?_, ?_, ?_, ?_, ?_, ?_⟩ <;> (try unfold State.calm) <;> (try unfold Serves) <;> (try unfold replyFits) <;> decide +kernel

theorem witness_ReadsWithParametersAnswer_2 :
    -- detectorRead
    stSs4_11.calm ∧ inSet StateSet.normal stSs4_11 = true ∧ Serves stSs4_11 54 (packetOf stSs4_11) 8 ∧ stSs4_11.part.hasLevel = true ∧ (packetOf
      stSs4_11).par.length = 2 ∧ byteAt (packetOf stSs4_11).par 0 ≠ 0 ∧ byteAt (packetOf stSs4_11).par 1 < 4 ∧ replyFits (detTurn (stSs4_11.taken
      (0#8) 8)) (List.flatMap (detBytes
      { part := (detTurn (stSs4_11.taken (0#8) 8)).part, dieRevision := (detTurn (stSs4_11.taken (0#8) 8)).dieRevision, time := (detTurn (stSs4_11.taken (0#8) 8)).time, front := (detTurn (stSs4_11.taken (0#8) 8)).front, scan := (detTurn (stSs4_11.taken (0#8) 8)).scan, plane := have __src := (detTurn (stSs4_11.taken (0#8) 8)).plane; { y := __src.y, warm := __src.warm, since := __src.since, reseedAll := __src.reseedAll, combined := __src.combined, img := __src.img, dets := (detTurn (stSs4_11.taken (0#8) 8)).plane.detAt, detCfg := __src.detCfg, detAt := __src.detAt, detIn := __src.detIn, detNew := __src.detNew, detT := __src.detT }, base := (detTurn (stSs4_11.taken (0#8) 8)).base, trk := (detTurn (stSs4_11.taken (0#8) 8)).trk, pwr := (detTurn (stSs4_11.taken (0#8) 8)).pwr, casc := (detTurn (stSs4_11.taken (0#8) 8)).casc, lvl := (detTurn (stSs4_11.taken (0#8) 8)).lvl, link := (detTurn (stSs4_11.taken (0#8) 8)).link, attn := (detTurn (stSs4_11.taken (0#8) 8)).attn, cmd := (detTurn (stSs4_11.taken (0#8) 8)).cmd, report := (detTurn (stSs4_11.taken (0#8) 8)).report, image := (detTurn (stSs4_11.taken (0#8) 8)).image, record := (detTurn (stSs4_11.taken (0#8) 8)).record, bench := (detTurn (stSs4_11.taken (0#8) 8)).bench, params := (detTurn (stSs4_11.taken (0#8) 8)).params, bus := (detTurn (stSs4_11.taken (0#8) 8)).bus, mem := (detTurn (stSs4_11.taken (0#8) 8)).mem, trust := (detTurn (stSs4_11.taken (0#8) 8)).trust, tally := (detTurn (stSs4_11.taken (0#8) 8)).tally, tel := (detTurn (stSs4_11.taken (0#8) 8)).tel, boot := (detTurn (stSs4_11.taken (0#8) 8)).boot, pending := (detTurn (stSs4_11.taken (0#8) 8)).pending, freeIdx := (detTurn (stSs4_11.taken (0#8) 8)).freeIdx })
      (bitsOf 8 (byteAt (packetOf stSs4_11).par 0))).length := by
  unfold State.calm Serves replyFits; decide +kernel

theorem witness_RepliesHaveTheirForm :
    (up.part = Part.klt3720) ∧
    (rep1'.data.length ≤ 4082 ∧ 14 + rep1'.data.length ≤ 20) := by
  refine ⟨?_, ?_⟩ <;> decide +kernel

set_option maxRecDepth 1000000 in
theorem witness_PlainWritersStore :
    -- legacyPhase
    (stSs5_1.calm ∧ inSet StateSet.normal stSs5_1 = true ∧ Serves stSs5_1 22 (packetOf stSs5_1) 132 ∧ (packetOf stSs5_1).par.length = 124 ∧ judge
      (stSs5_1.taken (0#8) 132) [(288, slice (packetOf stSs5_1).par 0 1), (289, slice (packetOf stSs5_1).par 4 120)] = 0 ∧ replyFits (stSs5_1.taken
      (0#8) 132) 0) ∧
    -- referenceSelect
    (stSs5_2.calm ∧ inSet StateSet.normal stSs5_2 = true ∧ Serves stSs5_2 26 (packetOf stSs5_2) 8 ∧ (packetOf stSs5_2).par.length = 1 ∧ judge
      (stSs5_2.taken (0#8) 8) [(518, (packetOf stSs5_2).par)] = 0 ∧ replyFits (stSs5_2.taken (0#8) 8) 0) ∧
    -- gestureSet
    (stSs5_3.calm ∧ inSet StateSet.normal stSs5_3 = true ∧ Serves stSs5_3 34 (packetOf stSs5_3) 28 ∧ (packetOf stSs5_3).par.length = 22 ∧ judge
      (stSs5_3.taken (0#8) 28) (formRecords stSs5_3.part (idRange 784 794) (packetOf stSs5_3).par) = 0 ∧ replyFits (stSs5_3.taken (0#8) 28) 0) ∧
    -- sillSet
    (stSs5_4.calm ∧ inSet StateSet.normal stSs5_4 = true ∧ Serves stSs5_4 35 (packetOf stSs5_4) 112 ∧ (packetOf stSs5_4).par.length = 10 + 12 *
      stSs5_4.part.sillGroups ∧ judge (stSs5_4.taken (0#8) 112) (sillRecords stSs5_4.part (packetOf stSs5_4).par) = 0 ∧ replyFits (stSs5_4.taken
      (0#8) 112) 0) ∧
    -- contactFilter
    (stSs5_5.calm ∧ inSet StateSet.normal stSs5_5 = true ∧ Serves stSs5_5 36 (packetOf stSs5_5) 24 ∧ (packetOf stSs5_5).par.length = 16 ∧ judge
      (stSs5_5.taken (0#8) 24) (formRecords stSs5_5.part (idRange 768 777) (packetOf stSs5_5).par) = 0 ∧ replyFits (stSs5_5.taken (0#8) 24) 0) ∧
    -- attnRoute
    (stSs5_6.calm ∧ inSet StateSet.normal stSs5_6 = true ∧ Serves stSs5_6 97 (packetOf stSs5_6) 12 ∧ (packetOf stSs5_6).par.length = 4 ∧ judge
      (stSs5_6.taken (0#8) 12) [(2069, (packetOf stSs5_6).par)] = 0 ∧ replyFits (stSs5_6.taken (0#8) 12) 0) := by
  refine ⟨?_, ?_, ?_, ?_, ?_, ?_⟩ <;> (try unfold State.calm) <;> (try unfold Serves) <;> (try unfold replyFits) <;> decide +kernel

end Cmds

/-! ## Witnesses: Commands that write -/

namespace Cmds2

def wr (l : List (Nat × List Byte)) : List Byte := l.flatMap fun e => recordBytes e.1 e.2
def fq (a : Nat) (l : List Byte) : List Byte := dflt (idRange 0x100 0x110) ++ leBytes 1 a ++ [0] ++ l
def lm : List Byte := padTo 48 (dflt [0xC00, 0xC01, 0xC02, 0xC03, 0xC04, 0xC05, 0xC07, 0xC08])
def stSs6_1 : State := cm 0x13 (fq 1 [0xFF,0xFF,0xFF,0xFF])
def stSs6_5 : State := cm 0x14 lm
def stSs6_6 : State := cm 0x20 [0,0,0,0,0xFF,0xFF]
def stSs6_8 : State := cm 0x28 [1,0] (fr .started)
def stSs6_9 : State := cm 0x30 ([1,0,0,0] ++ dflt [0x601])
def stSs6_10 : State := cm 0x32 [1,0,200,0]
def stSs6_12 : State := cm 0x33 [1]
def stSs6_13 : State := cm 0x34 [1,0,3,0]
def stSs6_14 : State := cm 0x35 ([2,0,0,0] ++ dflt [0x622])
def stSs6_15 : State := cm 0x37 ([2,0,0,0] ++ dflt [0x642])
def stSs6_16 : State := cm 0x43 (wr [(0x700, dflt [0x700])])
def stSs6_17 : State := cm 0x51 (wr [(0x300, dflt [0x300]), (0x408, [1])])
def stSs6_18 : State := cm 0x60 (padTo 48 (dflt (idRange 0x810 0x815 ++ idRange 0x818 0x81F)))

theorem witness_WritersStore_1 :
    -- freqSet
    (inSet StateSet.normal stSs6_1 = true ∧ Serves stSs6_1 19 (packetOf stSs6_1) 32 ∧ (packetOf stSs6_1).par.length = 24 ∧ judge (stSs6_1.taken (0#8)
      32) (freqRecords (packetOf stSs6_1).par) = 0 ∧ (byteAt (packetOf stSs6_1).par 18 = 1 ∨ (freqSet (packetOf stSs6_1).par (stSs6_1.taken (0#8)
      32)).isSome = true)) ∧
    -- lineMap
    (inSet StateSet.normal stSs6_5 = true ∧ Serves stSs6_5 20 (packetOf stSs6_5) 56 ∧ (packetOf stSs6_5).par.length = 48 ∧ lineMapStatus
      (lineMapRecords stSs6_5.part (packetOf stSs6_5).par) (stSs6_5.taken (0#8) 56) = 0) ∧
    -- keyDefine
    (inSet StateSet.normal stSs6_6 = true ∧ Serves stSs6_6 32 (packetOf stSs6_6) 12 ∧ 6 ≤ (packetOf stSs6_6).par.length ∧ (packetOf
      stSs6_6).par.length = 6 + 16 * fieldAt (packetOf stSs6_6).par 2 2 ∧ defineOk (packetOf stSs6_6).par (stSs6_6.taken (0#8) 12) = true) ∧
    -- imageStream
    (inSet StateSet.normal stSs6_8 = true ∧ Serves stSs6_8 40 (packetOf stSs6_8) 8 ∧ (packetOf stSs6_8).par.length = 2 ∧ inSet StateSet.frames
      stSs6_8 = true ∧ valueStatus (stSs6_8.taken (0#8) 8) [(396 + 16 * nextProf (stSs6_8.taken (0#8) 8), slice (packetOf stSs6_8).par 0 1), (397 +
      16 * nextProf (stSs6_8.taken (0#8) 8), slice (packetOf stSs6_8).par 1 1)] = 0 ∧ streamFits (byteAt (packetOf stSs6_8).par 0) (byteAt (packetOf
      stSs6_8).par 1) (nextTicks (!(stSs6_8.taken (0#8) 8).inFrames) (stSs6_8.taken (0#8) 8)) (stSs6_8.taken (0#8) 8) = true) ∧
    -- levelConfig
    (inSet StateSet.normal stSs6_9 = true ∧ Serves stSs6_9 48 (packetOf stSs6_9) 28 ∧ stSs6_9.part.hasLevel = true ∧ (packetOf stSs6_9).par.length =
      20 ∧ byteAt (packetOf stSs6_9).par 0 ≤ 15 ∧ judge (stSs6_9.taken (0#8) 28) [(1536 + byteAt (packetOf stSs6_9).par 0, slice (packetOf
      stSs6_9).par 4 16)] = 0) ∧
    -- levelExcite
    (inSet StateSet.normal stSs6_10 = true ∧ Serves stSs6_10 50 (packetOf stSs6_10) 12 ∧ stSs6_10.part.hasLevel = true ∧ (packetOf
      stSs6_10).par.length = 4 ∧ judge (stSs6_10.taken (0#8) 12) [(1553, slice (packetOf stSs6_10).par 0 1), (1554, slice (packetOf stSs6_10).par 2
      2)] = 0) := by
  refine ⟨?_, ?_, ?_, ?_, ?_, ?_⟩ <;> (try unfold Serves) <;> decide +kernel

theorem witness_WritersStore_2 :
    -- levelRefbuf
    (inSet StateSet.normal stSs6_12 = true ∧ Serves stSs6_12 51 (packetOf stSs6_12) 8 ∧ stSs6_12.part.hasLevel = true ∧ (packetOf
      stSs6_12).par.length = 1 ∧ judge (stSs6_12.taken (0#8) 8) [(1552, (packetOf stSs6_12).par)] = 0) ∧
    -- levelOpenwire
    (inSet StateSet.normal stSs6_13 = true ∧ Serves stSs6_13 52 (packetOf stSs6_13) 12 ∧ stSs6_13.part.hasLevel = true ∧ (packetOf
      stSs6_13).par.length = 4 ∧ judge (stSs6_13.taken (0#8) 12) (openwireRecords (packetOf stSs6_13).par (stSs6_13.taken (0#8) 12)) = 0) ∧
    -- levelTrigger
    (inSet StateSet.normal stSs6_14 = true ∧ Serves stSs6_14 53 (packetOf stSs6_14) 20 ∧ stSs6_14.part.hasLevel = true ∧ (packetOf
      stSs6_14).par.length = 12 ∧ byteAt (packetOf stSs6_14).par 0 ≤ 15 ∧ judge (stSs6_14.taken (0#8) 20) [(1568 + byteAt (packetOf stSs6_14).par 0,
      slice (packetOf stSs6_14).par 4 8)] = 0) ∧
    -- linearSet
    (inSet StateSet.normal stSs6_15 = true ∧ Serves stSs6_15 55 (packetOf stSs6_15) 60 ∧ stSs6_15.part.hasLevel = true ∧ (packetOf
      stSs6_15).par.length = 52 ∧ byteAt (packetOf stSs6_15).par 0 ≤ 15 ∧ judge (stSs6_15.taken (0#8) 60) [(1600 + byteAt (packetOf stSs6_15).par 0,
      slice (packetOf stSs6_15).par 4 48)] = 0) ∧
    -- busConfig
    (inSet StateSet.normal stSs6_16 = true ∧ Serves stSs6_16 67 (packetOf stSs6_16) 12 ∧ packetRecords (packetOf stSs6_16).par = some [(1792, dflt
      [1792])] ∧ firstBad (busConfigTest (stSs6_16.taken (0#8) 12) [(1792, dflt [1792])]) 0 [(1792, dflt [1792])] = none ∧ judge (stSs6_16.taken
      (0#8) 12) [(1792, dflt [1792])] = 0) ∧
    -- paramSet
    (inSet StateSet.normal stSs6_17 = true ∧ Serves stSs6_17 81 (packetOf stSs6_17) 20 ∧ packetRecords (packetOf stSs6_17).par = some [(768, dflt
      [768]), (1032, [1])] ∧ judge (stSs6_17.taken (0#8) 20) [(768, dflt [768]), (1032, [1])] = 0) := by
  refine ⟨?_, ?_, ?_, ?_, ?_, ?_⟩ <;> (try unfold Serves) <;> decide +kernel

theorem witness_WritersStore_3 :
    -- attnConfig
    inSet StateSet.normal stSs6_18 = true ∧ Serves stSs6_18 96 (packetOf stSs6_18) 56 ∧ (packetOf stSs6_18).par.length = 48 ∧ judge (stSs6_18.taken
      (0#8) 56) (formRecords stSs6_18.part (idRange 2064 2069 ++ idRange 2072 2079) (packetOf stSs6_18).par) = 0 := by
  unfold Serves; decide +kernel

theorem witness_ParameterTableLaws :
    ((List.Pairwise (fun a b => a.fst < b.fst) ([] : PTab) ∧ ∀ e ∈ ([] : PTab), e.snd ≠ paramDefault Part.klt3720 e.fst) ∧ (1032, [0]) ∈ pSet
      Part.klt3720 [] 1032 [0]) ∧
    ((List.Pairwise (fun a b => a.fst < b.fst) ([] : PTab) ∧ ∀ e ∈ ([] : PTab), e.snd ≠ paramDefault Part.klt3720 e.fst) ∧ 1032 ≠ 256) := by
  refine ⟨?_, ?_⟩ <;> decide +kernel

end Cmds2

/-! ## Witnesses: The host link -/

namespace Link

def at' (f : Attn → Attn) (s : State := up) : State := { s with attn := f s.attn }
def a1 : State := at' (fun a => { a with enable := 0x1FFFFFF, global := true, pending := 0x6, base := 0x100, inService := 0x8 })
def a2 : State := at' (fun a => { a with enable := 0x1FFFFFF, global := true, pending := 0x15556, groups := a.groups.set 2 ⟨5,1,3,none,0⟩ |>.set 3 ⟨5,1,3,none,0⟩ |>.set 1 ⟨2,3,255,none,0⟩ })
def busy (s : State) : State := { s with link := { s.link with busy := true } }
def items : List Item := [⟨List.replicate 16 1, .plain⟩, ⟨List.replicate 32 2, .plain⟩, ⟨List.replicate 16 3, .plain⟩]
def rings (s : State := up) : State := { s with report := ⟨items, 64, 0⟩, record := ⟨items, 100, 36⟩, image := ⟨items, 3, 100⟩ }
def stStt_1 : State := busy a1
def wd : List Word := [0x1FFFFFF, 1, 0x200]
def goodCrc (a : BitVec 16) (ws : List Word) : BitVec 16 := crc16 ([0x20] ++ leBytes 2 a.toNat ++ leBytes 1 ws.length ++ ws.flatMap fun w => leBytes 4 w.toNat)
def theLink1 : State := { up with pwr := { up.pwr with pd1 := false } }
def holdOffs1 : State := at' (fun a => {a with groups := (a.groups.set 3 ⟨5,1,3,some t0,0⟩).set 4 ⟨5,1,3,some (t0+1),0⟩})
def holdOffs2 : State := at' (fun a => {a with wakeDue := some (2, 3)})
def holdOffs4 : State := at' (fun a => {a with wake := .high t0})
def holdOffs5 : State := { holdOffs2 with casc := { up.casc with role := .member, tile := some 3 } }
def item1' : Item := { bytes := List.replicate 16 1, mark := RecMark.plain }

theorem witness_TheChosenSource :
    (stStt_1.link.busy = true) ∧
    (up.link.busy = false) ∧
    (chosen a1 = some 1) ∧
    (chosen a2 = some 6 ∧ 1 < 25 ∧ deliverable a2 1 = true ∧ 1 ≠ 6) ∧
    (0 < 25) := by
  refine ⟨?_, ?_, ?_, ?_, ?_⟩ <;> decide +kernel

theorem witness_ReadRegReturnsItsWords :
    -- readReg
    up.linkServes ∧ up.pwr.wakeCheck = false ∧ up.calm ∧ 1 ≤ 1 ∧ 1 ≤ 32 := by
  unfold State.calm State.linkServes; decide +kernel

theorem witness_WriteRegIsWhole :
    -- writeReg
    (up.linkServes ∧ up.pwr.wakeCheck = false ∧ up.calm ∧ LevelsFollow up ∧ 1 ≤ 3 ∧ 3 ≤ 32 ∧ wd.length = 3 ∧ goodCrc 16 wd = crc16 ([32] ++ leBytes 2
      (16#16).toNat ++ leBytes 1 3 ++ List.flatMap (fun w => leBytes 4 (BitVec.toNat w)) wd)) ∧
    -- writeReg
    (up.linkServes ∧ up.pwr.wakeCheck = false ∧ up.calm ∧ LevelsFollow up ∧ 1 ≤ 1 ∧ 1 ≤ 32 ∧ (Extent.short ≠ Extent.full ∨ ([] : List Word).length ≠
      1 ∨ ¬16#16 = crc16 ([32] ++ leBytes 2 (16#16).toNat ++ leBytes 1 1 ++ List.flatMap (fun w => leBytes 4 (BitVec.toNat w)) ([] : List Word)))) ∧
    -- writeReg
    (up.linkServes ∧ up.pwr.wakeCheck = false ∧ up.calm ∧ LevelsFollow up ∧ ¬(1 ≤ 0 ∧ 0 ≤ 32) ∧ extHeader Extent.header = true) := by
  refine ⟨?_, ?_, ?_⟩ <;> (try unfold State.calm) <;> (try unfold State.linkServes) <;> (try unfold LevelsFollow) <;> decide +kernel

theorem witness_PushCmdAppendsOneUnit :
    -- pushCmd
    (up.linkServes ∧ up.pwr.wakeCheck = false ∧ up.calm ∧ extHeader Extent.full = true ∧ 8 ≤ 8 ∧ 8 ≤ up.cmdSize ∧ 8 % 4 = 0 ∧ 8 ≤ up.cmd.free
      up.cmdSize ∧ 8 ≤ (List.replicate 8 1).length) ∧
    -- pushCmd
    (up.linkServes ∧ up.pwr.wakeCheck = false ∧ up.calm ∧ extHeader Extent.header = true ∧ 8 ≤ 8 ∧ 8 ≤ up.cmdSize ∧ 8 % 4 = 0 ∧ 8 ≤ up.cmd.free
      up.cmdSize ∧ (Extent.header ≠ Extent.full ∨ ([] : List Byte).length < 8)) ∧
    -- pushCmd
    (up.linkServes ∧ up.pwr.wakeCheck = false ∧ up.calm ∧ extHeader Extent.full = true ∧ ¬(8 ≤ 0 ∧ 0 ≤ up.cmdSize ∧ 0 % 4 = 0 ∧ 0 ≤ up.cmd.free
      up.cmdSize)) := by
  refine ⟨?_, ?_, ?_⟩ <;> (try unfold State.calm) <;> (try unfold State.linkServes) <;> decide +kernel

theorem witness_PopsCommitWhole :
    -- popReport
    (up.linkServes ∧ up.pwr.wakeCheck = false ∧ up.calm ∧ up.report.items = [] ++ [] ∧ takeUnits 0 up.report.items = [] ∧ (∀ (i : Item), i ∈ [] →
      (match i.mark with | RecMark.resetReply kind => true | x => false) = false)) ∧
    -- popRecord
    (up.linkServes ∧ up.pwr.wakeCheck = false ∧ up.calm ∧ up.record.items = [] ++ [] ∧ takeUnits 0 up.record.items = []) ∧
    -- popImage
    (rings.linkServes ∧ rings.pwr.wakeCheck = false ∧ rings.calm ∧ rings.image.items = item1' :: List.drop 1 items) ∧
    -- popImage
    (up.linkServes ∧ up.pwr.wakeCheck = false ∧ up.calm ∧ up.image.items = []) ∧
    (up.linkServes ∧ up.pwr.wakeCheck = false ∧ up.calm ∧ Extent.short ≠ Extent.full ∧ Instr.popReport (0#8) 0 Extent.short ∈ [Instr.popReport (0#8)
      0 Extent.short, Instr.popImage (0#8) 0 Extent.short, Instr.popRecord (0#8) 0 Extent.short]) := by
  refine ⟨?_, ?_, ?_, ?_, ?_⟩ <;> (try unfold State.calm) <;> (try unfold State.linkServes) <;> decide +kernel

theorem witness_DoneLeavesService :
    -- done
    (a1.linkServes ∧ a1.pwr.wakeCheck = false ∧ a1.calm ∧ LevelsFollow a1 ∧ 252#8 = 3#8 ^^^ 255 ∧ a1.attn.inService.getLsbD (3#8).toNat = true) ∧
    -- done
    (up.linkServes ∧ up.pwr.wakeCheck = false ∧ up.calm ∧ LevelsFollow up ∧ ¬(0#8 = 0#8 ^^^ 255 ∧ up.attn.inService.getLsbD (0#8).toNat = true)) :=
      by
  refine ⟨?_, ?_⟩ <;> (try unfold State.calm) <;> (try unfold State.linkServes) <;> (try unfold LevelsFollow) <;> decide +kernel

theorem witness_TheLinkAnswersOrStaysSilent :
    -- undefinedLinkOperation
    (up.linkOn = true ∧ up.pwr.wakeCheck = false ∧ up.calm ∧ ¬(0#8).toNat ∈ linkOps) ∧
    (stStt_1.linkOn = true ∧ stStt_1.link.busy = true ∧ stStt_1.calm ∧ Instr.pushCmd (0#8) 0 [] Extent.full ∈ [Instr.pushCmd (0#8) 0 [] Extent.full,
      Instr.popReport (0#8) 0 Extent.full, Instr.popImage (0#8) 0 Extent.full, Instr.popRecord (0#8) 0 Extent.full, Instr.done (0#8) (0#8) (0#8)
      Extent.full] ++ if 1 ≤ ([] : List Byte).length ∧ ([] : List Byte).length ≤ 32 then [Instr.writeReg 0#8 16#16 ([] : List Word).length [] (16#16)
      Extent.full] else []) ∧
    (linkOperation (Instr.readId 0 Extent.full) ∧ theLink1.linkOn = false ∧ theLink1.calm) := by
  refine ⟨?_, ?_, ?_⟩ <;> (try unfold State.calm) <;> (try simp only [linkOperation]) <;> decide +kernel

theorem witness_ATransactionClaims :
    -- readId
    (a1.linkServes ∧ a1.calm ∧ LevelsFollow a1 ∧ chosen (a1.entered 0#8) = some 1 ∧ extClaim Extent.vector = true) ∧
    -- readId
    (a1.linkServes ∧ a1.calm ∧ LevelsFollow a1 ∧ chosen (a1.entered 0#8) = some 1 ∧ extClaim Extent.short = false) := by
  refine ⟨?_, ?_⟩ <;> (try unfold State.calm) <;> (try unfold State.linkServes) <;> (try unfold LevelsFollow) <;> decide +kernel

theorem witness_RegisterWindowWrites :
    -- attnPendingWrite
    (up.linkOn = true ∧ up.calm ∧ LevelsFollow up ∧ up.link.busy = false) ∧
    (stStt_1.linkOn = true ∧ stStt_1.calm ∧ LevelsFollow stStt_1 ∧ stStt_1.link.busy = true ∧ Instr.attnPendingWrite 0#8 0#32 ∈
      [Instr.attnPendingWrite 0#8 0#32, Instr.clearedBeforeServiceWrite 0#8 0#32, Instr.vectorBaseWrite 0#8 0#32, Instr.vectorStrideWrite 0#8 0#32,
      Instr.holdoffWrite 0#8 0 0#32, Instr.registerWrite 0#8 16#16 0#32]) := by
  refine ⟨?_, ?_⟩ <;> (try unfold State.calm) <;> (try unfold LevelsFollow) <;> decide +kernel

theorem witness_LowHalvesLatch :
    -- timebaseLoRead
    up.linkOn = true ∧ up.calm := by
  unfold State.calm; decide +kernel

theorem witness_HoldOffsAndWakePulses :
    -- holdoffEnd
    (holdOffs1.calm ∧ (holdOffs1.attn.groups.getD (3) Group.initial).holdEnd = some t0 ∧ reached (holdOffs1.entered 0#8).now t0 = true) ∧
    -- wakePulseStart
    (holdOffs2.calm ∧ holdOffs2.casc.role ≠ Role.member ∧ holdOffs2.attn.wakeDue = some (2, 3) ∧ (2 = 2 ∨ holdOffs2.attn.global = true) ∧
      holdOffs2.attn.wake = WakeSt.low) ∧
    -- wakePulseStart
    (holdOffs5.calm ∧ holdOffs5.casc.role = Role.member) ∧
    -- wakePulseEnd
    (holdOffs4.calm ∧ holdOffs4.attn.wake = WakeSt.high t0 ∧ reached (holdOffs4.entered 0#8).now t0 = true) := by
  refine ⟨?_, ?_, ?_, ?_⟩ <;> (try unfold State.calm) <;> decide +kernel

end Link

/-! ## Witnesses: Deferred and immediate commands -/

namespace Defer

def stDd_1 : State := cm 0x02 (List.replicate 32 1)
def stDd_3 : State := cm 0x18 [1] (fr .started)
def stDd_5 : State := cm 0x19 [3] (fr .started)
def stDd_6 : State := cm 0x29 [3] (fr .started)
def stDd_7 : State := cm 0x58 (padTo 12 [0,0,0,0,0,0,0,0,255])
def stDd_9 : State := cm 0x71 (List.replicate 132 3)
def stDd_10 : State := cm 0x72 [63,0]
def stDd_11 : State := cm 0x52 [132,0,0,0]
def stDe_1 : State := cm 0x53 [0,0,0,0,7] (upd (fun m => {m with session := .opened 1 12 0 false}) up)
def stDe_3 : State := cm 0x54 [] (upd (fun m => {m with session := .opened 1 12 12 false}) up)
def casc (s : State) : State := { s with casc := { s.casc with role := .master, tile := some 0, members := (s.casc.members.set 3 { Member.none with joined := true }) } }
def stDt_1 : State := cm 0x10 [0]
def stDt_4 : State := cm 0x11 [0] (fr .started)
def stDt_6 : State := cm 0x05 [0,0] (fr .started)
def stDt_8 : State := cm 0x40 [0x20,1,0,0,4,0] { up with bus := { up.bus with phase := .ready } }
def stDt_9 : State := cm 0x41 [0] { up with bus := { up.bus with phase := .starting } }
def stDt_10 : State := cm 0x42 [2] { up with bus := { up.bus with job := some (.xfer 1 0x20 0 [] 4) } }
def stDt_11 : State := casc (cm 0x49 [0])
def stDt_12 : State := casc (cm 0x4A ([3,0,0,0] ++ pkt 0 1 []))
def lvr : State := { up with lvl := { up.lvl with running := some ⟨⟨1, t0-5, false, 0, 1, none, false, true⟩, dflt [0x601], false, t0 - 512, t0 - 512, t0 - 480, 2, 0, 0, 0, false, [⟨false,false,false⟩], [⟨false,false,false⟩], false, false, false, none, t0 - 512, none, false, false, [0,0,0], [0,0,0], [0,0], [0,0], none, [], none, none⟩ } }
def stRi_1 : State := cm 0x59 [1,2,3,4,5,6]
def stRi_2 : State := cm 0x5A [1,2,3,4,5,6]
def stRi_3 : State := cm 0x69 []
def stRi_4 : State := cm 0x70 []
def stRi_5 : State := { cm 0x70 [] with trust := { up.trust with failures := 3 } }
def stRi_7 : State := cm 0x06 []
def stRi_8 : State := cm 0x31 [1,0,0,1] (params [(0x601, dflt [0x601] |>.set 0 0x20)] lvr)
def stRi_9 : State := cm 0x31 [15,0,0,0] (params [(0x60F, dflt [0x601] |>.set 0 0x20), (0x62F, [1, 0, 2, 0, 5, 0, 7, 0])] up)
def stTc_3 : State := cm 0x11 [0]
def stTc_5 : State := cm 0x05 [3,0] (fr .started)
def stTc_6 : State := cm 0x05 [2,0] (dz (fr .started))
def stTc_7 : State := params [(0x408, [0])] (cm 0x05 [2,0] (fr .started))
def stTc_8 : State := cm 0x05 [3,0] (dz (fr .started))
def stTc_10 : State := cm 0x04 [0]
def stTc_12 : State := cm 0x42 [1] { up with bus := { up.bus with job := some (.xfer 1 0x20 0 [] 4) } }
def stTc_14 : State := cm 0x12 [8] (fr .started)
def stTc_15 : State := cm 0x04 [1] (fr .started)
def stTc_17 : State := cm 0x04 [3]
def stTc_18 : State := params [(0x104, [0,0])] (cm 0x12 [0] (fr .started))
def rp : Reply := ⟨3,0x10,0,0,7,[1,2],.plain⟩
def full (s : State) : State := { s with report := { s.report with head := 16380 } }
def recordsWait1 : State := bh (fun b => {b with held := [rp]})
def recordsWait2 : State := full (bh (fun b => {b with held := [rp, rp]}))
def recordsWait4 : State := full (bh (fun b => {b with faultQueue := [List.replicate 16 7]}))

set_option maxRecDepth 1000000 in
theorem witness_DeferredCommandsAreAccepted_1 :
    (stDd_1.calm ∧ hasRoom stDd_1 (packetOf stDd_1) ∧ replyFits (stDd_1.taken (0#8) 40) 0 ∧ Serves stDd_1 2 (packetOf stDd_1) 40 ∧ inSet StateSet.all
      stDd_1 = true ∧ (packetOf stDd_1).par.length = 32 ∧ ((packetOf stDd_1).par.any fun x => x != 0) = true) ∧
    (stDd_3.calm ∧ hasRoom stDd_3 (packetOf stDd_3) ∧ replyFits (stDd_3.taken (0#8) 8) 0 ∧ Serves stDd_3 24 (packetOf stDd_3) 8 ∧ inSet
      StateSet.frames stDd_3 = true ∧ (packetOf stDd_3).par.length = 1 ∧ byteAt (packetOf stDd_3).par 0 ≤ 1 ∧ (stDd_3.taken (0#8) 8).acquires =
      false) ∧
    (stDd_5.calm ∧ hasRoom stDd_5 (packetOf stDd_5) ∧ replyFits (stDd_5.taken (0#8) 8) 0 ∧ Serves stDd_5 25 (packetOf stDd_5) 8 ∧ inSet
      StateSet.frames stDd_5 = true ∧ (packetOf stDd_5).par.length = 1 ∧ byteAt (packetOf stDd_5).par 0 ≤ 3 ∧ saveAllowed (stDd_5.taken (0#8) 8) =
      true) ∧
    (stDd_6.calm ∧ hasRoom stDd_6 (packetOf stDd_6) ∧ replyFits (stDd_6.taken (0#8) 8) 0 ∧ Serves stDd_6 41 (packetOf stDd_6) 8 ∧ inSet
      StateSet.frames stDd_6 = true ∧ (packetOf stDd_6).par.length = 1 ∧ 1 ≤ byteAt (packetOf stDd_6).par 0 ∧ byteAt (packetOf stDd_6).par 0 ≤ 3) ∧
    (stDd_7.calm ∧ hasRoom stDd_7 (packetOf stDd_7) ∧ replyFits (stDd_7.taken (0#8) 20) 0 ∧ Serves stDd_7 88 (packetOf stDd_7) 20 ∧ inSet
      StateSet.all stDd_7 = true ∧ (packetOf stDd_7).par.length = 12 ∧ 1 ≤ fieldAt (packetOf stDd_7).par 8 2 ∧ fieldAt (packetOf stDd_7).par 8 2 ≤
      255) ∧
    (stDd_9.calm ∧ hasRoom stDd_9 (packetOf stDd_9) ∧ replyFits (stDd_9.taken (0#8) 140) 0 ∧ Serves stDd_9 113 (packetOf stDd_9) 140 ∧ inSet
      StateSet.all stDd_9 = true ∧ (packetOf stDd_9).par.length = 132) := by
  refine ⟨?_, ?_, ?_, ?_, ?_, ?_⟩ <;> (try unfold State.calm) <;> (try unfold Serves) <;> (try unfold replyFits) <;> (try unfold hasRoom) <;> decide +kernel

theorem witness_DeferredCommandsAreAccepted_2 :
    (stDd_10.calm ∧ hasRoom stDd_10 (packetOf stDd_10) ∧ replyFits (stDd_10.taken (0#8) 8) 0 ∧ Serves stDd_10 114 (packetOf stDd_10) 8 ∧ inSet
      StateSet.stopped stDd_10 = true ∧ (packetOf stDd_10).par.length = 2 ∧ fieldAt (packetOf stDd_10).par 0 2 < 64) ∧
    (stDd_11.calm ∧ hasRoom stDd_11 (packetOf stDd_11) ∧ replyFits (stDd_11.taken (0#8) 12) 0 ∧ Serves stDd_11 82 (packetOf stDd_11) 12 ∧ inSet
      StateSet.update stDd_11 = true ∧ (packetOf stDd_11).par.length = 4 ∧ 132 ≤ fieldAt (packetOf stDd_11).par 0 4 ∧ fieldAt (packetOf stDd_11).par
      0 4 ≤ 262144 ∧ (stDd_11.taken (0#8) 12).committing = false ∧ (stDd_11.taken (0#8) 12).recovering = false) ∧
    (stDe_1.calm ∧ hasRoom stDe_1 (packetOf stDe_1) ∧ replyFits (stDe_1.taken (0#8) 12) 0 ∧ Serves stDe_1 83 (packetOf stDe_1) 12 ∧ inSet
      StateSet.update stDe_1 = true ∧ 5 ≤ (packetOf stDe_1).par.length ∧ (packetOf stDe_1).par.length ≤ 2052 ∧ (stDe_1.taken (0#8) 12).mem.session =
      Session.opened 1 12 0 false ∧ fieldAt (packetOf stDe_1).par 0 4 = 0 ∧ 0 + ((packetOf stDe_1).par.length - 4) ≤ 12) ∧
    (stDe_3.calm ∧ hasRoom stDe_3 (packetOf stDe_3) ∧ replyFits (stDe_3.taken (0#8) 8) 0 ∧ Serves stDe_3 84 (packetOf stDe_3) 8 ∧ inSet
      StateSet.update stDe_3 = true ∧ (packetOf stDe_3).par = [] ∧ (stDe_3.taken (0#8) 8).mem.session = Session.opened 1 12 12 false) := by
  refine ⟨?_, ?_, ?_, ?_⟩ <;> (try unfold State.calm) <;> (try unfold Serves) <;> (try unfold replyFits) <;> (try unfold hasRoom) <;> decide +kernel

theorem witness_DeferredTransitionsAreAccepted_1 :
    (stDt_1.calm ∧ hasRoom stDt_1 (packetOf stDt_1) ∧ replyFits (stDt_1.taken (0#8) 8) 0 ∧ Serves stDt_1 16 (packetOf stDt_1) 8 ∧ inSet
      StateSet.stopped stDt_1 = true ∧ stDt_1.trust.boundary = false ∧ (packetOf stDt_1).par.length = 1 ∧ stDt_1.casc.role = Role.standalone ∧
      stDt_1.front.lineChecked = false ∧ (if byteAt (packetOf stDt_1).par 0 = 255 then stDt_1.pnat 273 else byteAt (packetOf stDt_1).par 0) ≤ 7 ∧
      (stDt_1.taken (0#8) 8).profileFits (if byteAt (packetOf stDt_1).par 0 = 255 then stDt_1.pnat 273 else byteAt (packetOf stDt_1).par 0) = true) ∧
    (stDt_4.calm ∧ hasRoom stDt_4 (packetOf stDt_4) ∧ replyFits (stDt_4.taken (0#8) 8) 0 ∧ Serves stDt_4 17 (packetOf stDt_4) 8 ∧ inSet
      StateSet.active stDt_4 = true ∧ (packetOf stDt_4).par = [0] ∧ stDt_4.scan.phase = ScanPhase.frames ∧ stDt_4.scan.stage ≠ FrameStage.none ∧
      stDt_4.scan.stage ≠ FrameStage.written ∧ stDt_4.trust.boundary = false) ∧
    (stDt_6.calm ∧ hasRoom stDt_6 (packetOf stDt_6) ∧ replyFits (stDt_6.taken (0#8) 8) 0 ∧ Serves stDt_6 5 (packetOf stDt_6) 8 ∧ inSet
      StateSet.normal stDt_6 = true ∧ 0 ≤ 1 ∧ stDt_6.pwr.st.toNat ≠ 0 ∧ (packetOf stDt_6).par.length = 2 ∧ byteAt (packetOf stDt_6).par 0 = 0 ∧ (0 =
      1 → stDt_6.anySill = true) ∧ stDt_6.scan.phase = ScanPhase.frames ∧ stDt_6.scan.stage ≠ FrameStage.none ∧ stDt_6.scan.stage ≠
      FrameStage.written ∧ stDt_6.trust.boundary = false) ∧
    (stDt_8.calm ∧ hasRoom stDt_8 (packetOf stDt_8) ∧ replyFits (stDt_8.taken (0#8) 12) 0 ∧ Serves stDt_8 64 (packetOf stDt_8) 12 ∧ inSet
      StateSet.normal stDt_8 = true ∧ (packetOf stDt_8).par.length = 6 + fieldAt (packetOf stDt_8).par 2 2 ∧ (stDt_8.bus.phase = BusPhase.ready ∨
      stDt_8.bus.phase = BusPhase.starting) ∧ xferOk (byteAt (packetOf stDt_8).par 0) (byteAt (packetOf stDt_8).par 1) (fieldAt (packetOf stDt_8).par
      2 2) (fieldAt (packetOf stDt_8).par 4 2) = true) ∧
    (stDt_9.calm ∧ hasRoom stDt_9 (packetOf stDt_9) ∧ replyFits (stDt_9.taken (0#8) 8) 0 ∧ Serves stDt_9 65 (packetOf stDt_9) 8 ∧ inSet
      StateSet.normal stDt_9 = true ∧ (packetOf stDt_9).par = [0] ∧ stDt_9.bus.phase = BusPhase.starting ∧ stDt_9.bus.roll = none) ∧
    (stDt_10.calm ∧ hasRoom stDt_10 (packetOf stDt_10) ∧ replyFits (stDt_10.taken (0#8) 8) 0 ∧ Serves stDt_10 66 (packetOf stDt_10) 8 ∧ inSet
      StateSet.normal stDt_10 = true ∧ (packetOf stDt_10).par = [2] ∧ stDt_10.bus.job.isSome = true) := by
  refine ⟨?_, ?_, ?_, ?_, ?_, ?_⟩ <;> (try unfold State.calm) <;> (try unfold Serves) <;> (try unfold replyFits) <;> (try unfold hasRoom) <;> decide +kernel

theorem witness_DeferredTransitionsAreAccepted_2 :
    (stDt_11.calm ∧ hasRoom stDt_11 (packetOf stDt_11) ∧ replyFits (stDt_11.taken (0#8) 8) 0 ∧ Serves stDt_11 73 (packetOf stDt_11) 8 ∧ inSet
      StateSet.normal stDt_11 = true ∧ stDt_11.part.hasCascade = true ∧ stDt_11.inCascade = true ∧ (packetOf stDt_11).par = [0] ∧ stDt_11.scan.phase
      = ScanPhase.stopped) ∧
    (stDt_12.calm ∧ hasRoom stDt_12 (packetOf stDt_12) ∧ replyFits (stDt_12.taken (0#8) 20) 0 ∧ Serves stDt_12 74 (packetOf stDt_12) 20 ∧ inSet
      StateSet.normal stDt_12 = true ∧ stDt_12.part.hasCascade = true ∧ stDt_12.inCascade = true ∧ 4 ≤ (packetOf stDt_12).par.length ∧ (packetOf
      stDt_12).par.length - 4 = packetSize (fieldAt (List.drop 4 (packetOf stDt_12).par) 2 2) ∧ (stDt_12.member (byteAt (packetOf stDt_12).par
      0)).joined = true ∧ notForwarded (byteAt (List.drop 4 (packetOf stDt_12).par) 0) = false) := by
  refine ⟨?_, ?_⟩ <;> (try unfold State.calm) <;> (try unfold Serves) <;> (try unfold replyFits) <;> (try unfold hasRoom) <;> decide +kernel

theorem witness_ImmediateCommandsAct_1 :
    -- tallyMark
    (stRi_1.calm ∧ Serves stRi_1 89 (packetOf stRi_1) 12 ∧ inSet StateSet.normal stRi_1 = true ∧ (packetOf stRi_1).par.length = 6 ∧
      stRi_1.tally.unavailable = false ∧ replyFits (stRi_1.taken (0#8) 12) 6) ∧
    -- calendarSet
    (stRi_2.calm ∧ Serves stRi_2 90 (packetOf stRi_2) 12 ∧ inSet StateSet.normal stRi_2 = true ∧ (packetOf stRi_2).par.length = 6) ∧
    -- telemetryClear
    (stRi_3.calm ∧ Serves stRi_3 105 (packetOf stRi_3) 8 ∧ inSet StateSet.normal stRi_3 = true ∧ (packetOf stRi_3).par = [] ∧ replyFits (stRi_3.taken
      (0#8) 8) 0) ∧
    -- testChallenge
    (stRi_4.calm ∧ Serves stRi_4 112 (packetOf stRi_4) 8 ∧ inSet StateSet.all stRi_4 = true ∧ (packetOf stRi_4).par = [] ∧ stRi_4.trust.failures < 3
      ∧ replyFits (stRi_4.taken (0#8) 8) 48) ∧
    (stRi_5.calm ∧ Serves stRi_5 112 (packetOf stRi_4) 8 ∧ inSet StateSet.all stRi_5 = true ∧ (packetOf stRi_4).par = [] ∧ 3 ≤ stRi_5.trust.failures
      ∧ replyFits (stRi_5.taken (0#8) 8) 0) ∧
    -- hostSleep
    (stRi_7.calm ∧ Serves stRi_7 6 (packetOf stRi_7) 8 ∧ inSet StateSet.normal stRi_7 = true ∧ (packetOf stRi_7).par = [] ∧ stRi_7.pnat 1036 = 0 ∧
      stRi_7.pwr.wakeCheck = false ∧ replyFits (stRi_7.taken (0#8) 8) 0) := by
  refine ⟨?_, ?_, ?_, ?_, ?_, ?_⟩ <;> (try unfold State.calm) <;> (try unfold Serves) <;> (try unfold replyFits) <;> decide +kernel

theorem witness_ImmediateCommandsAct_2 :
    -- levelConvert
    (stRi_8.calm ∧ Serves stRi_8 49 (packetOf stRi_8) 12 ∧ inSet StateSet.normal stRi_8 = true ∧ stRi_8.part.hasLevel = true ∧ (packetOf
      stRi_8).par.length = 4 ∧ byteAt (packetOf stRi_8).par 3 = 1 ∧ byteAt (packetOf stRi_8).par 0 ≤ 15 ∧ byteAt (stRi_8.lvlEntry (byteAt (packetOf
      stRi_8).par 0)) 0 ≠ 255) ∧
    -- levelConvert
    (stRi_9.calm ∧ Serves stRi_9 49 (packetOf stRi_9) 12 ∧ inSet StateSet.normal stRi_9 = true ∧ stRi_9.part.hasLevel = true ∧ (packetOf
      stRi_9).par.length = 4 ∧ byteAt (packetOf stRi_9).par 3 = 0 ∧ byteAt (packetOf stRi_9).par 2 ≤ 1 ∧ byteAt (packetOf stRi_9).par 0 ≤ 15 ∧ byteAt
      (stRi_9.lvlEntry (byteAt (packetOf stRi_9).par 0)) 0 ≠ 255) := by
  refine ⟨?_, ?_⟩ <;> (try unfold State.calm) <;> (try unfold Serves) <;> decide +kernel

theorem witness_TransitionCommandsAct_1 :
    -- scanProfile
    (stTc_18.calm ∧ Serves stTc_18 18 (packetOf stTc_18) 8 ∧ inSet StateSet.scanning stTc_18 = true ∧ (packetOf stTc_18).par.length = 1 ∧
      stTc_18.casc.role = Role.standalone ∧ byteAt (packetOf stTc_18).par 0 ≤ 7 ∧ (stTc_18.taken (0#8) 8).profileFits (byteAt (packetOf stTc_18).par
      0) = true ∧ replyFits (stTc_18.taken (0#8) 8) 8) ∧
    (stTc_14.calm ∧ Serves stTc_14 18 (packetOf stTc_14) 8 ∧ inSet StateSet.scanning stTc_14 = true ∧ (packetOf stTc_14).par.length = 1 ∧ replyFits
      (stTc_14.taken (0#8) 8) 0 ∧ (7 < byteAt (packetOf stTc_14).par 0 ∨ (stTc_14.taken (0#8) 8).profileFits (byteAt (packetOf stTc_14).par 0) =
      false)) ∧
    (stTc_3.calm ∧ Serves stTc_3 17 (packetOf stTc_3) 8 ∧ inSet StateSet.active stTc_3 = true ∧ (packetOf stTc_3).par.length = 1 ∧ byteAt (packetOf
      stTc_3).par 0 ≤ 1 ∧ stTc_3.scan.phase = ScanPhase.stopped ∧ replyFits (stTc_3.taken (0#8) 8) 0) ∧
    (stTc_5.calm ∧ Serves stTc_5 5 (packetOf stTc_5) 8 ∧ inSet StateSet.normal stTc_5 = true ∧ (packetOf stTc_5).par.length = 2 ∧
      stTc_5.trust.boundary = false ∧ stTc_5.scan.phase = ScanPhase.frames ∧ stTc_5.casc.role = Role.standalone ∧ replyFits (stTc_5.taken (0#8) 8) 0
      ∧ byteAt (packetOf stTc_5).par 0 = stTc_5.pwr.st.toNat ∧ (byteAt (packetOf stTc_5).par 0 = 2 → stTc_5.dozeOk = true) ∧ (byteAt (packetOf
      stTc_5).par 0 = 3 ∨ byteAt (packetOf stTc_5).par 0 = 2)) ∧
    -- setPower
    (stTc_7.calm ∧ Serves stTc_7 5 (packetOf stTc_6) 8 ∧ inSet StateSet.normal stTc_7 = true ∧ (packetOf stTc_6).par.length = 2 ∧
      stTc_7.trust.boundary = false ∧ stTc_7.scan.phase = ScanPhase.frames ∧ stTc_7.casc.role = Role.standalone ∧ replyFits (stTc_7.taken (0#8) 8) 0
      ∧ stTc_7.pwr.st = 3 ∧ byteAt (packetOf stTc_6).par 0 = 2 ∧ stTc_7.dozeOk = true) ∧
    -- setPower
    (stTc_8.calm ∧ Serves stTc_8 5 (packetOf stTc_5) 8 ∧ inSet StateSet.normal stTc_8 = true ∧ (packetOf stTc_5).par.length = 2 ∧
      stTc_8.trust.boundary = false ∧ stTc_8.scan.phase = ScanPhase.frames ∧ stTc_8.casc.role = Role.standalone ∧ replyFits (stTc_8.taken (0#8) 8) 0
      ∧ stTc_8.pwr.st = 2 ∧ byteAt (packetOf stTc_5).par 0 = 3 ∧ byteAt (packetOf stTc_5).par 1 ≤ 1) := by
  refine ⟨?_, ?_, ?_, ?_, ?_, ?_⟩ <;> (try unfold State.calm) <;> (try unfold Serves) <;> (try unfold replyFits) <;> decide +kernel

theorem witness_TransitionCommandsAct_2 :
    -- reset
    (stTc_10.calm ∧ Serves stTc_10 4 (packetOf stTc_10) 8 ∧ inSet StateSet.all stTc_10 = true ∧ (packetOf stTc_10).par.length = 1 ∧ byteAt (packetOf
      stTc_10).par 0 ≤ 2 ∧ stTc_10.scan.phase = ScanPhase.stopped ∧ replyFits (stTc_10.taken (0#8) 8) 0) ∧
    -- reset
    (stTc_15.calm ∧ Serves stTc_15 4 (packetOf stTc_15) 8 ∧ inSet StateSet.all stTc_15 = true ∧ (packetOf stTc_15).par.length = 1 ∧ byteAt (packetOf
      stTc_15).par 0 ≤ 2 ∧ stTc_15.scan.phase = ScanPhase.frames ∧ stTc_15.scan.stage ≠ FrameStage.none ∧ stTc_15.scan.stage ≠ FrameStage.written) ∧
    (stTc_17.calm ∧ Serves stTc_17 4 (packetOf stTc_17) 8 ∧ inSet StateSet.all stTc_17 = true ∧ (packetOf stTc_17).par.length = 1 ∧ 2 < byteAt
      (packetOf stTc_17).par 0 ∧ replyFits (stTc_17.taken (0#8) 8) 0) ∧
    -- busBranch
    (stTc_12.calm ∧ Serves stTc_12 66 (packetOf stTc_12) 8 ∧ inSet StateSet.normal stTc_12 = true ∧ (packetOf stTc_12).par.length = 1 ∧ byteAt
      (packetOf stTc_12).par 0 ≤ 1 ∧ stTc_12.bus.job.isSome = true ∧ replyFits (stTc_12.taken (0#8) 8) 0) := by
  refine ⟨?_, ?_, ?_, ?_⟩ <;> (try unfold State.calm) <;> (try unfold Serves) <;> (try unfold replyFits) <;> decide +kernel

theorem witness_RecordsWaitForRoom :
    -- heldReplyWrite
    (recordsWait1.calm ∧ recordsWait1.pwr.pd1 = true ∧ recordsWait1.bench.held = [rp] ∧ rp.kind ≠ 2 ∧ rp.opcode ≠ 6 ∧ rp.mark = RecMark.plain ∧
      recordsWait1.reportFits rp.size = true) ∧
    -- heldReplyWrite
    (recordsWait2.calm ∧ recordsWait2.pwr.pd1 = true ∧ recordsWait2.bench.held = [rp, rp] ∧ recordsWait2.reportFits rp.size = false) ∧
    -- queuedRecordWrite
    (recordsWait3.calm ∧ recordsWait3.pwr.pd1 = true ∧ recordsWait3.bench.faultQueue = [List.replicate 16 7, [1]] ∧ recordsWait3.reportFits
      (List.replicate 16 7).length = true) ∧
    -- queuedRecordWrite
    (recordsWait4.calm ∧ recordsWait4.pwr.pd1 = true ∧ recordsWait4.bench.faultQueue = [List.replicate 16 7] ∧ recordsWait4.reportFits
      (List.replicate 16 7).length = false) := by
  refine ⟨?_, ?_, ?_, ?_⟩ <;> (try unfold State.calm) <;> decide +kernel

end Defer

/-! ## Witnesses: Held replies and records -/

namespace Wait

def rp : Reply := ⟨3,0x10,0,0,7,[1,2],.plain⟩
def full (s : State) : State := { s with report := { s.report with head := 16380 } }
def recordsWait1 : State := bh (fun b => {b with held := [rp]})
def recordsWait2 : State := full (bh (fun b => {b with held := [rp, rp]}))
def recordsWait4 : State := full (bh (fun b => {b with faultQueue := [List.replicate 16 7]}))

theorem witness_RecordsWaitForRoom_2 :
    -- heldReplyWrite
    (recordsWait1.calm ∧ recordsWait1.pwr.pd1 = true ∧ recordsWait1.bench.held = [rp] ∧ rp.kind ≠ 2 ∧ rp.opcode ≠ 6 ∧ rp.mark = RecMark.plain ∧
      recordsWait1.reportFits rp.size = true) ∧
    -- heldReplyWrite
    (recordsWait2.calm ∧ recordsWait2.pwr.pd1 = true ∧ recordsWait2.bench.held = [rp, rp] ∧ recordsWait2.reportFits rp.size = false) ∧
    -- queuedRecordWrite
    (recordsWait3.calm ∧ recordsWait3.pwr.pd1 = true ∧ recordsWait3.bench.faultQueue = [List.replicate 16 7, [1]] ∧ recordsWait3.reportFits
      (List.replicate 16 7).length = true) ∧
    -- queuedRecordWrite
    (recordsWait4.calm ∧ recordsWait4.pwr.pd1 = true ∧ recordsWait4.bench.faultQueue = [List.replicate 16 7] ∧ recordsWait4.reportFits
      (List.replicate 16 7).length = false) := by
  refine ⟨?_, ?_, ?_, ?_⟩ <;> (try unfold State.calm) <;> decide +kernel

end Wait

/-! ## Witnesses: Completions -/

namespace Compl

def ou (op : Nat) (par : List Byte) (s : State := up) (tag : Nat := 3) : State := { s with bench := { s.bench with outstanding := [⟨tag, op, 7, par, 0⟩] } }
def att : State := m' (fun m => {m with headerDigest := List.replicate 32 9}) (ou 0x02 (List.replicate 32 1))
def tal : State := { ou 0x58 (padTo 12 [2,1, 0,0,0,0,0,0,255,0]) with tally := { up.tally with started := true, kept := [r0], seq := 5 } }
def sn : Snap := ⟨1, 5, 0, 0, 1, 0, 1, 0⟩
def ul (c : Option (List Byte)) : State := { ou 0x71 (List.replicate 132 0) with trust := { up.trust with answered := [c] } }
def own : State → State := fun s => { s with casc := { s.casc with role := .master } }
def slots0 (s : State) : State := m' (fun m => {m with flash := {m.flash with slots := [image0, []]}}) s
def stSs_1 : State := keyed (slots0 (m' (fun m => {m with session := .committing 0 196 false}) (ou 0x54 [])))
def stSs_2 : State := unlockable { ou 0x71 unlockPar with trust := { up.trust with answered := [some [0]] } }
def stSs_3 : State := ou 0x52 [132,0,0,0] (m' (fun m => {m with session := .opened 1 132 0 false}))
def stSs_4 : State := ou 0x53 [4,0,0,0,1,2,3] (m' (fun m => {m with session := .opened 1 132 7 false, flash := {m.flash with slots := [[],[1,2,3,4]]}}))
def stSs_5 : State := ou 0x19 [2] (m' (fun m => {m with saving := [(2, List.replicate 100 1)]}))
def stSs_6 : State := ou 0x72 [61,0]
def stSs_7 : State := ul (some [1])
def stSs_9 : State := { ou 0x29 [1] with bench := { (ou 0x29 [1]).bench with snaps := [sn] } }
def stSs_10 : State := ou 0x49 [0] (own up)
def stSs_11 : State := ou 0x4A [3,0,0,0] (own up)
def stSs_12 : State := { ou 0x42 [2] with bus := { up.bus with branchDone := some 9 } }
def stSs_13 : State := { up with scan := { up.scan with phase := .stopped, stage := .none }, bench := { up.bench with parkDue := some 0, owed := some ⟨3,0x11,0,0,7,[],.plain⟩ } }
def cmd1' : Deferred := { tag := 3, opcode := 2, seq := 7, par := List.replicate 32 1, t := 0 }
def cmd2' : Deferred := { tag := 3, opcode := 82, seq := 7, par := [132, 0, 0, 0], t := 0 }
def cmd3' : Deferred := { tag := 3, opcode := 83, seq := 7, par := [4, 0, 0, 0, 1, 2, 3], t := 0 }
def cmd4' : Deferred := { tag := 3, opcode := 84, seq := 7, par := [], t := 0 }
def cmd5' : Deferred := { tag := 3, opcode := 25, seq := 7, par := [2], t := 0 }
def cmd6' : Deferred := { tag := 3, opcode := 88, seq := 7, par := padTo 12 [2, 1, 0, 0, 0, 0, 0, 0, 255, 0], t := 0 }
def cmd7' : Deferred := { tag := 3, opcode := 114, seq := 7, par := [61, 0], t := 0 }
def cmd8' : Deferred := { tag := 3, opcode := 113, seq := 7, par := unlockPar, t := 0 }
def cmd9' : Deferred := { tag := 3, opcode := 113, seq := 7, par := List.replicate 132 0, t := 0 }
def cmd10' : Deferred := { tag := 3, opcode := 41, seq := 7, par := [1], t := 0 }
def cmd11' : Deferred := { tag := 3, opcode := 73, seq := 7, par := [0], t := 0 }
def cmd12' : Deferred := { tag := 3, opcode := 74, seq := 7, par := [3, 0, 0, 0], t := 0 }
def cmd13' : Deferred := { tag := 3, opcode := 66, seq := 7, par := [2], t := 0 }
def rep1' : Reply := { tag := 3, opcode := 17, status := 0, kind := 0, seq := 7, data := [], mark := RecMark.plain }

theorem witness_CompletionsReplyAndParkingEnds_1 :
    (att.calm ∧ att.outstanding 2 = some cmd1' ∧ cmd1'.opcode = 2 ∧ writesNow att 224 ∧ att.atTurn cmd1' ∧ att.verifying = false ∧
      att.mem.headerDigest.length = 32) ∧
    (stSs_3.calm ∧ stSs_3.outstanding 82 = some cmd2' ∧ cmd2'.opcode = 82 ∧ writesNow stSs_3 1 ∧ stSs_3.atTurn cmd2' ∧ portServes (stSs_3.entered
      0#8) PortWork.update = true ∧ stSs_3.mem.session = Session.opened 1 132 0 false) ∧
    (stSs_4.calm ∧ stSs_4.outstanding 83 = some cmd3' ∧ cmd3'.opcode = 83 ∧ writesNow stSs_4 4 ∧ stSs_4.atTurn cmd3' ∧ portServes (stSs_4.entered
      0#8) PortWork.update = true ∧ stSs_4.mem.session = Session.opened 1 132 7 false) ∧
    ((stSs_1.calm ∧ stSs_1.outstanding 84 = some cmd4' ∧ cmd4'.opcode = 84 ∧ writesNow stSs_1 8 ∧ stSs_1.atTurn cmd4' ∧ portServes (stSs_1.entered
      0#8) PortWork.update = true ∧ stSs_1.verifying = false ∧ stSs_1.mem.session = Session.committing 0 196 false) ∧ imgVerdict stSs_1.part
      stSs_1.trust (stSs_1.slotBytes 0) = 0) ∧
    (stSs_5.calm ∧ stSs_5.outstanding 25 = some cmd5' ∧ cmd5'.opcode = 25 ∧ writesNow stSs_5 8 ∧ stSs_5.atTurn cmd5' ∧ portServes (stSs_5.entered
      0#8) PortWork.referenceSave = true ∧ stSs_5.mem.saving = [(2, List.replicate 100 1)] ∧ ceilDiv (List.replicate 100 1).length 4096 ≤
      (sectorsFrom (refSectors stSs_5 2) (nextStart stSs_5 2) (ceilDiv (List.replicate 100 1).length 4096)).length ∧ nextSnapPlace stSs_5 ≠ none) ∧
    (tal.calm ∧ [] = searchRecords tal [] (fieldAt cmd6'.par 0 2) (fieldAt cmd6'.par 4 4) (fieldAt cmd6'.par 8 2) ∧ tal.outstanding 88 = some cmd6' ∧
      cmd6'.opcode = 88 ∧ writesNow tal (2 + 16 * ([] : List TallyRec).length) ∧ tal.atTurn cmd6' ∧ tal.tally.unavailable = false) := by
  exact ⟨by (try unfold State.calm) <;> (try unfold State.atTurn) <;> (try unfold writesNow) <;> (try unfold replyFits) <;> decide +kernel,
    by (try unfold State.calm) <;> (try unfold State.atTurn) <;> (try unfold writesNow) <;> (try unfold replyFits) <;> decide +kernel,
    by (try unfold State.calm) <;> (try unfold State.atTurn) <;> (try unfold writesNow) <;> (try unfold replyFits) <;> decide +kernel, ⟨by (try unfold State.calm) <;> (try unfold State.atTurn) <;> (try unfold writesNow) <;> (try unfold replyFits) <;> decide +kernel, image0_verdict⟩,
    by (try unfold State.calm) <;> (try unfold State.atTurn) <;> (try unfold writesNow) <;> (try unfold replyFits) <;> decide +kernel,
    by (try unfold State.calm) <;> (try unfold State.atTurn) <;> (try unfold writesNow) <;> (try unfold replyFits) <;> decide +kernel⟩

theorem witness_CompletionsReplyAndParkingEnds_2 :
    (stSs_6.calm ∧ stSs_6.outstanding 114 = some cmd7' ∧ cmd7'.opcode = 114 ∧ writesNow stSs_6 4 ∧ stSs_6.atTurn cmd7' ∧ stSs_6.part.hasLevel = true
      ∧ fieldAt cmd7'.par 0 2 / 2 % 2 = 0) ∧
    (stSs_2.calm ∧ stSs_2.outstanding 113 = some cmd8' ∧ cmd8'.opcode = 113 ∧ writesNow stSs_2 0 ∧ stSs_2.atTurn cmd8' ∧ stSs_2.verifying = false ∧
      stSs_2.trust.answered = [some [0]] ∧ unlockReason (stSs_2.entered 0#8) (some [0]) cmd8'.par = 0) ∧
    (stSs_7.calm ∧ stSs_7.outstanding 113 = some cmd9' ∧ cmd9'.opcode = 113 ∧ writesNow stSs_7 0 ∧ stSs_7.atTurn cmd9' ∧ stSs_7.verifying = false ∧
      stSs_7.trust.answered = [some [1]] ∧ unlockReason (stSs_7.entered 0#8) (some [1]) cmd9'.par ≠ 0) ∧
    (stSs_9.calm ∧ stSs_9.outstanding 41 = some cmd10' ∧ cmd10'.opcode = 41 ∧ writesNow stSs_9 6 ∧ stSs_9.atTurn cmd10' ∧ stSs_9.bench.snaps = [sn] ∧
      ¬(bitAt sn.left stSs_9.ownTile = true ∧ stSs_9.scan.stage = FrameStage.tracked)) ∧
    (stSs_10.calm ∧ stSs_10.outstanding 73 = some cmd11' ∧ cmd11'.opcode = 73 ∧ writesNow stSs_10 2 ∧ stSs_10.atTurn cmd11' ∧ stSs_10.casc.nextPlan =
      none ∧ stSs_10.casc.redo = false ∧ stSs_10.casc.enumT = none ∧ stSs_10.casc.closedT = none) ∧
    (stSs_11.calm ∧ writesNow stSs_11 0 ∧ stSs_11.atTurn cmd12' ∧ List.find? (fun d => d.opcode == 74 && d.tag == (3#8).toNat) stSs_11.running = some
      cmd12' ∧ cmd12'.opcode = 74 ∧ reached (stSs_11.entered 0#8).now (cmd12'.t + 8388608#56) = true) := by
  refine ⟨?_, ?_, ?_, ?_, ?_, ?_⟩ <;> (try unfold State.calm) <;> (try unfold State.atTurn) <;> (try unfold writesNow) <;> (try unfold replyFits) <;> decide +kernel

theorem witness_CompletionsReplyAndParkingEnds_3 :
    (stSs_12.calm ∧ writesNow stSs_12 0 ∧ stSs_12.atTurn cmd13' ∧ stSs_12.bus.branchDone = some 9 ∧ List.filter (fun d => d.opcode == 66)
      stSs_12.running = [cmd13'] ∧ cmd13'.opcode = 66) ∧
    -- scanStopPark
    (stSs_13.calm ∧ writesNow stSs_13 0 ∧ stSs_13.bench.parkDue = some 0#56 ∧ reached (stSs_13.entered 0#8).now 0#56 = true ∧ stSs_13.bench.owed =
      some rep1' ∧ rep1'.opcode = 17 ∧ rep1'.kind = 0 ∧ rep1'.mark = RecMark.plain ∧ rep1'.data = [] ∧ (stSs_13.bench.outstanding.all fun d =>
      d.opcode != 17) = true) := by
  refine ⟨?_, ?_⟩ <;> (try unfold State.calm) <;> (try unfold State.atTurn) <;> (try unfold writesNow) <;> (try unfold replyFits) <;> decide +kernel

end Compl

/-! ## Witnesses: A signed image -/

namespace Imgb

def slots0 (s : State) : State := m' (fun m => {m with flash := {m.flash with slots := [image0, []], ptr0 := [ptrEntry 3 0 (imgHeaderDigest image0)]}}) s
def b1 : State := keyed (slots0 { bt .verifying with boot := { (bt .verifying).boot with verifySlot := some (0, false) } })

theorem witness_TheBootGoesOn_3 :
    -- imageVerificationComplete
    (b1.calm ∧ 0 ≤ 1 ∧ b1.pwr.pd1 = true ∧ b1.boot.verifySlot = some (0, false) ∧ b1.boot.phase = BootPhase.verifying ∧ pointerSlot b1 = (0, true) ∧
      b1.boot.recoveryDue = none ∧ b1.casc.role ≠ Role.member) ∧ imgVerdict b1.part b1.trust (b1.slotBytes 0) = 0 := by
  exact ⟨by (try unfold State.calm) <;> decide +kernel, image0_verdict⟩

end Imgb

end Sys2Proof.Tests
end

section
/-! Proofs of family 00_scope: writes of the register window (O13). -/

namespace Sys2Proof.Machine

/-! ## Writes that the attention controller alone takes -/

/-- The state `w` is `u` after a write to the attention registers alone that leaves ATTN_ACTIVE and acknowledges no
source that is not active: what every write of the register window comes to (11 R339, R347). -/
structure AttnWrite (u w : State) : Prop where
  attn_only : w = { u with attn := w.attn }
  active : w.attn.active = u.attn.active
  acked : ∀ i, w.attn.acked.getLsbD i = true → u.attn.acked.getLsbD i = true ∨ u.attn.active.getLsbD i = true

theorem attnWrite_refl (u : State) : AttnWrite u u := ⟨rfl, rfl, fun _ => .inl⟩

theorem AttnWrite.keepsBut {u w : State} (h : AttnWrite u w) : KeepsBut [.attn] u w := by
  intro c hc
  rw [h.attn_only]
  cases c
  case attn => simp at hc
  all_goals rfl

theorem AttnWrite.attnOn {u w : State} (h : AttnWrite u w) : w.attnOn = u.attnOn := by rw [h.attn_only]; rfl

/-- Level sources that follow their conditions go on doing so. -/
theorem AttnWrite.follows {u w : State} (h : AttnWrite u w) (hl : LevelsFollow u) : LevelsFollow w := by
  intro ho src hs
  obtain ⟨hact, hack⟩ := hl (h.attnOn ▸ ho) src hs
  have hcond : levelCond w src = levelCond u src := by rw [h.attn_only]; simp
  rw [h.active, hcond]
  exact ⟨hact, fun ha => (h.acked src ha).elim hack id⟩

/-- A command whose effect is such a write completes with the registers as written, but for ATTN_N and WAKE, which
settle, and with nothing else changed. -/
theorem runs_attnWrite (tk : Tick) {s : State} {f : State → State} {q : State → Prop} (hc : s.calm) (ho : s.attnOn = true)
    (hl : LevelsFollow s) (hf : AttnWrite (s.entered tk) (f (s.entered tk)))
    (hq : ∀ t n w d, t.attn = { (f (s.entered tk)).attn with attnN := n, wakeSet := w, wakeDue := d } →
      KeepsBut [.attn] (s.entered tk) t → q t) :
    ∃ t, runAt tk s f = .next t ∧ q t := by
  refine runs_settled (u := s.entered tk) (by simp) (by simpa using hc) hf.keepsBut (by simp) (by simp) fun wc hk => ?_
  obtain ⟨n, w, d, ht⟩ := settle_follow_attn (sealed s (f (s.entered tk))) (by simpa using wc)
    (by simpa [hf.attnOn] using ho) (by simpa using hf.follows (by simpa using hl))
  exact hq _ n w d ht hk

/-! ## The writes of the register window -/

theorem writePending_attnWrite (v : Word) (u : State) : AttnWrite u (writePending v u) where
  attn_only := rfl
  active := rfl
  acked i h := by
    simp only [writePending, BitVec.getLsbD_or, BitVec.getLsbD_and, Bool.or_eq_true, Bool.and_eq_true] at h
    exact h.imp id And.right

theorem writeCbs_attnWrite (v : Word) (u : State) : AttnWrite u (writeCbs v u) := ⟨rfl, rfl, fun _ => .inl⟩

theorem writeBase_attnWrite (v : Word) (u : State) : AttnWrite u (writeBase v u) := by
  unfold writeBase
  dsimp only
  split
  · exact ⟨rfl, rfl, fun _ => .inl⟩
  · exact attnWrite_refl u

theorem writeStride_attnWrite (v : Word) (u : State) : AttnWrite u (writeStride v u) := by
  unfold writeStride
  dsimp only
  split
  · exact ⟨rfl, rfl, fun _ => .inl⟩
  · exact attnWrite_refl u

theorem writeHoldoff_attnWrite (g : Nat) (v : Word) (u : State) : AttnWrite u (writeHoldoff g v u) :=
  ⟨rfl, rfl, fun _ => .inl⟩

theorem writePlain_attnWrite (addr : Nat) (v : Word) (u : State) : AttnWrite u (writePlain addr v u) := by
  unfold writePlain
  split
  case h_4 => exact attnWrite_refl u
  all_goals exact ⟨rfl, rfl, fun _ => .inl⟩

/-- Bits 13:8 of the word clear CLEARED_BEFORE_SERVICE, but for bits set at the same instant (11 R348; 00 R9). -/
theorem writeCbs_getLsbD (v : Word) (u : State) {i : Nat} (hi : i < 6) :
    (writeCbs v u).attn.cbs.getLsbD i = (u.attn.cbs.getLsbD i && (!v.getLsbD (8 + i) || u.justCbs.getLsbD i)) := by
  simp [writeCbs, hi]

/-- VECTOR_BASE takes bits 31:5 of a word (11 Table 11.4). -/
theorem toNat_and_baseMask (v : Word) : (v &&& 0xFFFFFFE0#32).toNat = v.toNat / 32 * 32 := by
  have h : v &&& 0xFFFFFFE0#32 = v >>> 5 <<< 5 := by
    have mask : ∀ i < 32, (0xFFFFFFE0#32).getLsbD i = !decide (i < 5) := by decide
    apply BitVec.eq_of_getLsbD_eq
    intro i hi
    rw [BitVec.getLsbD_and, mask i hi, BitVec.getLsbD_shiftLeft, BitVec.getLsbD_ushiftRight]
    by_cases h5 : i < 5
    · simp [h5]
    · simp [h5, hi, Nat.add_sub_cancel' (Nat.le_of_not_lt h5)]
  have hv := v.isLt
  rw [h, BitVec.toNat_shiftLeft, BitVec.toNat_ushiftRight, Nat.shiftRight_eq_div_pow, Nat.shiftLeft_eq]
  omega

theorem vectorsOk_iff (base : Nat) (stride : BitVec 2) :
    vectorsOk base stride = true ↔ 0 < base ∧ base + 24 * (4 * 2 ^ stride.toNat) ≤ 0xFFFFFFFF :=
  Bool.and_eq_true_iff.trans (and_congr decide_eq_true_iff decide_eq_true_iff)

/-- VECTOR_BASE after a write (11 R341). -/
theorem writeBase_base (v : Word) (u : State) :
    (writeBase v u).attn.base.toNat =
      if 0 < v.toNat / 32 * 32 ∧ v.toNat / 32 * 32 + 24 * (4 * 2 ^ u.attn.stride.toNat) ≤ 0xFFFFFFFF
      then v.toNat / 32 * 32 else u.attn.base.toNat := by
  simp only [writeBase, vectorsOk_iff, toNat_and_baseMask]
  split
  · exact toNat_and_baseMask v
  · rfl

/-- VECTOR_STRIDE after a write (11 R341). -/
theorem writeStride_stride (v : Word) (u : State) :
    (writeStride v u).attn.stride.toNat =
      if 0 < u.attn.base.toNat ∧ u.attn.base.toNat + 24 * (4 * 2 ^ (v.toNat % 4)) ≤ 0xFFFFFFFF
      then v.toNat % 4 else u.attn.stride.toNat := by
  have hd : (v.truncate 2).toNat = v.toNat % 4 := BitVec.toNat_setWidth 2 v
  simp only [writeStride, vectorsOk_iff, hd]
  split
  · exact hd
  · rfl

/-- The registers without a behaviour of their own after a write to an address (11 R339). -/
theorem writePlain_attn (addr : Nat) (v : Word) (u : State) :
    (writePlain addr v u).attn = { u.attn with
      enable := if addr = 0x10 then v.truncate 25 else u.attn.enable
      global := if addr = 0x14 then v.getLsbD 0 else u.attn.global
      wakeGroups := if addr = 0x88 then v.truncate 8 else u.attn.wakeGroups } := by
  unfold writePlain
  split
  case h_4 h10 h14 h88 => rw [if_neg h10, if_neg h14, if_neg h88]
  all_goals rfl

/-! ## BUSY (11 R338) -/

@[simp] theorem State.entered_linkWrites (s : State) (tk : Tick) : (s.entered tk).linkWrites = s.linkWrites := by
  simp [State.linkWrites, State.linkOn]

theorem attnOn_of_linkOn {s : State} (h : s.linkOn = true) : s.attnOn = true := (Bool.and_eq_true_iff.mp h).1

theorem linkWrites_of_free {s : State} (h : s.linkOn = true) (hb : s.link.busy = false) : s.linkWrites = true := by
  simp [State.linkWrites, h, hb]

theorem linkWrites_of_busy {s : State} (hb : s.link.busy = true) : s.linkWrites = false := by
  simp [State.linkWrites, hb]

/-- A write of the register window while registers may be written. -/
theorem runs_windowWrite (tk : Tick) {s : State} {g : State → State} {q : State → Prop} (hon : s.linkOn = true)
    (hb : s.link.busy = false) (hc : s.calm) (hl : LevelsFollow s) (hg : AttnWrite (s.entered tk) (g (s.entered tk)))
    (hq : ∀ t n w d, t.attn = { (g (s.entered tk)).attn with attnN := n, wakeSet := w, wakeDue := d } →
      KeepsBut [.attn] (s.entered tk) t → q t) :
    ∃ t, (runAt tk s fun u => if u.linkWrites then g u else u) = .next t ∧ q t := by
  have hw : (s.entered tk).linkWrites = true := by simpa using linkWrites_of_free hon hb
  apply runs_attnWrite tk hc (attnOn_of_linkOn hon) hl
  · rwa [if_pos hw]
  · rwa [if_pos hw]

/-- A write of the register window while BUSY leaves every register but ATTN_N and WAKE, which settle. -/
theorem runs_windowWrite_busy (tk : Tick) {s : State} {g : State → State} {q : State → Prop} (hon : s.linkOn = true)
    (hb : s.link.busy = true) (hc : s.calm) (hl : LevelsFollow s)
    (hq : ∀ t n w d, t.attn = { s.attn with attnN := n, wakeSet := w, wakeDue := d } →
      KeepsBut [.attn] (s.entered tk) t → q t) :
    ∃ t, (runAt tk s fun u => if u.linkWrites then g u else u) = .next t ∧ q t := by
  have hw : ¬ (s.entered tk).linkWrites = true := by simp [linkWrites_of_busy hb]
  apply runs_attnWrite tk hc (attnOn_of_linkOn hon) hl
  · rw [if_neg hw]; exact attnWrite_refl _
  · rwa [if_neg hw, State.entered_attn]

/-- Settles O13: each write is one of the attention registers alone, which settling leaves as written but for ATTN_N and
WAKE. -/
theorem registerWindowWrites : Obligations.RegisterWindowWrites := by
  unfold Obligations.RegisterWindowWrites
  intro s tk v hon hc hl
  refine ⟨fun hb => ⟨?_, ?_, ?_, ?_, fun g => ?_, fun addr => ?_⟩, fun hb g addr i hi => ?_⟩
  · refine runs_windowWrite tk hon hb hc hl (writePending_attnWrite v _) fun t n w d ht hk => ⟨?_, ?_, hk⟩ <;>
      simp [ht, writePending]
  · refine runs_windowWrite tk hon hb hc hl (writeCbs_attnWrite v _) fun t n w d ht hk => ⟨fun i hi => ?_, hk⟩
    simpa [ht] using writeCbs_getLsbD v (s.entered tk) hi
  · refine runs_windowWrite tk hon hb hc hl (writeBase_attnWrite v _) fun t n w d ht hk => ⟨?_, hk⟩
    simpa [ht] using writeBase_base v (s.entered tk)
  · refine runs_windowWrite tk hon hb hc hl (writeStride_attnWrite v _) fun t n w d ht hk => ⟨?_, hk⟩
    simpa [ht] using writeStride_stride v (s.entered tk)
  · refine runs_windowWrite tk hon hb hc hl (writeHoldoff_attnWrite g v _) fun t n w d ht hk => ⟨?_, hk⟩
    simp [ht, writeHoldoff, Group.load]
  · refine runs_windowWrite tk hon hb hc hl (writePlain_attnWrite _ v _) fun t n w d ht hk => ?_
    simp [ht, writePlain_attn, hk]
  · obtain ⟨f, hf⟩ : ∃ f : State → State, exec i s = runAt tk s fun u => if u.linkWrites then f u else u := by
      simp only [List.mem_cons, List.not_mem_nil, or_false] at hi
      rcases hi with rfl | rfl | rfl | rfl | rfl | rfl <;> exact ⟨_, rfl⟩
    rw [Runs, hf]
    exact runs_windowWrite_busy tk hon hb hc hl fun t n w d ht hk => by simp [ht, hk]

end Sys2Proof.Machine
end

section
/-! Proofs of family 01_architecture: the leader while BUSY (O11), hold-offs and WAKE pulses (O15). -/

namespace Sys2Proof.Machine

/-! ## The leader (11 R337, R338) -/

/-- A transaction that goes on past its leader shifts the whole leader out. -/
theorem leader_full_bytes (refused : Bool) (u : State) : (leader refused .full u).1 = leadOf u refused := rfl

/-- While BUSY the vector is 0 (11 R338). -/
theorem leadOf_busy {u : State} (refused : Bool) (hb : u.link.busy = true) :
    leadOf u refused = leBytes 4 0 ++ leBytes 1 (statusByte u refused) := by
  simp [leadOf, chosen, hb]

/-- While BUSY a DONE is refused, with the status byte as it is once the transaction has ended a wake check (08 R242). -/
theorem doneOp_busy_out (source check : Nat) {u : State} (hb : u.link.busy = true) :
    (doneOp source check .full u).link.out = leBytes 4 0 ++ leBytes 1 (statusByte (wakeCheckPass u) true) := by
  have hb' : (wakeCheckPass u).link.busy = true := by simpa using hb
  simp [doneOp, linkActivity, shifted, hb, leader_full_bytes, leadOf_busy true hb']

/-- What a command hands to the link is there once the command has settled. -/
theorem runAt_link {tk : Tick} {s t : State} {f : State → State} (h : runAt tk s f = .next t) :
    t.link = (f (s.entered tk)).link := by
  rw [← Host.Outcome.next.inj h, settle_link, sealed_link]

/-- BUSY is set while a wake check holds source 2, which is enabled with ATTN_GLOBAL.ENABLE 0: the end of the check makes
the source pending and not deliverable, and so sets bit 0 of the status byte (11 Table 11.2). -/
def busyInWakeCheck : State :=
  { State.reset with
    boot := { State.reset.boot with phase := .starting }
    pwr := { State.reset.pwr with pd1 := true, wakeCheck := true }
    attn := { State.reset.attn with enable := oneBit 25 2 }
    trk := { State.reset.trk with heldSources := oneBit 25 2 } }

/-- The status byte before and after the end of that wake check. -/
theorem busyInWakeCheck_statusByte :
    statusByte (busyInWakeCheck.entered 0) true = 0xA0 ∧
      statusByte (wakeCheckPass (busyInWakeCheck.entered 0)) true = 0xA1 := by
  decide

/-- Refutes O11: while BUSY the leader's status byte is not that of the state before the transaction where the
transaction ends a wake check, as every one but READ_ID does (08 R242), and a held source becomes pending by it. The
statement asks for no wake check only where it says that nothing changes. -/
theorem not_theLinkAnswersOrStaysSilent : ¬ Obligations.TheLinkAnswersOrStaysSilent := by
  unfold Obligations.TheLinkAnswersOrStaysSilent
  rintro ⟨-, hbusy, -⟩
  obtain ⟨t, ht, hout, -⟩ := hbusy busyInWakeCheck 0 0 0 0 [] [] 0 0 0 (by decide) rfl (by unfold State.calm; decide)
    (.done 0 0 0 .full) (by simp)
  rw [exec_done, execDone] at ht
  have hon : (busyInWakeCheck.entered 0).linkOn = true := by decide
  have hlink := runAt_link ht
  rw [onLink, if_pos hon] at hlink
  rw [hlink, doneOp_busy_out _ _ rfl, busyInWakeCheck_statusByte.1, busyInWakeCheck_statusByte.2] at hout
  exact absurd hout (by decide)

/-! ## Commands of which only the attention registers and a Tally record come -/

theorem keepsBut_attn (u : State) (a : Attn) : KeepsBut [.attn] u { u with attn := a } := by
  intro c hc
  cases c
  case attn => simp at hc
  all_goals rfl

/-- A Tally record's frame (16 R470, 11 R345). -/
theorem tally_keepsBut (code data : Nat) (u : State) : KeepsBut tallyComps u (tally code data u) := by
  intro c hc
  cases c
  case attn | tally | record | trk => simp [tallyComps] at hc
  all_goals simp [Comp.same]

/-- A Tally record starts and ends no pulse. -/
@[simp] theorem tally_wake (code data : Nat) (u : State) : (tally code data u).attn.wake = u.attn.wake := by
  rw [show (tally code data u).attn = _ from tallyBy_attn 0 code data u]

/-- A command of effect `w` completes, with no transition waiting, with the hold-offs, the WAKE pin and the Tally of `w`
and with its frame. -/
theorem runs_wakeAndHoldOffs (tk : Tick) {s w : State} {f : State → State} {cs : List Comp} {q : State → Prop} (hc : s.calm)
    (hf : f (s.entered tk) = w) (hk : KeepsBut cs (s.entered tk) w) (hs : .scan ∉ cs ∧ .pwr ∉ cs ∧ .casc ∉ cs)
    (ha : .attn ∈ cs)
    (hq : ∀ t, t.attn.groups = w.attn.groups → t.attn.wake = w.attn.wake → t.tally = w.tally →
      KeepsBut cs (s.entered tk) t → q t) :
    ∃ t, runAt tk s f = .next t ∧ q t := by
  subst hf
  refine runs_settled (u := s.entered tk) (by simp) (by simpa using hc) hk hs ha fun wc hk => ?_
  have wc' : (sealed s (f (s.entered tk))).calm := by simpa using wc
  obtain ⟨-, -, -, -, -, hgroups, -, -, hwake⟩ := settle_calm_attn _ wc'
  exact hq _ hgroups hwake (by rw [settle_calm _ wc']; rfl) hk

/-- So does a command whose effect is on the attention registers alone. -/
theorem runs_toAttn (tk : Tick) {s : State} {f : State → State} (a : Attn) {q : State → Prop} (hc : s.calm)
    (hf : f (s.entered tk) = { s.entered tk with attn := a })
    (hq : ∀ t, t.attn.groups = a.groups → t.attn.wake = a.wake → KeepsBut [.attn] (s.entered tk) t → q t) :
    ∃ t, runAt tk s f = .next t ∧ q t :=
  runs_wakeAndHoldOffs tk hc hf (keepsBut_attn _ a) (by decide) (by decide) fun t hg hw _ => hq t hg hw

/-! ## WAKE (11 R349, R350) -/

theorem startPulse_started {c g : Nat} {u : State} (h : c = 2 ∨ u.attn.global = true) :
    startPulse c g u = tally 0x803 (d48 [(8, c), (8, g)])
      { u with attn := { u.attn with wakeDue := none, wake := .high (tAdd u.now 1024) } } :=
  if_pos h

theorem startPulse_keepsBut (c g : Nat) (u : State) : KeepsBut tallyComps u (startPulse c g u) := by
  have hattn : ∀ a, KeepsBut tallyComps u { u with attn := a } := fun a =>
    keepsBut_mono (keepsBut_attn u a) (by decide)
  unfold startPulse
  dsimp only
  split
  · exact keepsBut_trans (hattn _) (tally_keepsBut _ _ _)
  · exact hattn _

/-- WAKE_PULSE_START when a pulse is due, and the pin is low or the last pulse ended 1,024 ticks ago (11 R350). -/
theorem runs_startPulse (tk : Tick) {s : State} {c g : Nat} {q : State → Prop} (hc : s.calm) (hm : s.casc.role ≠ .member)
    (hd : s.attn.wakeDue = some (c, g))
    (hpin : s.attn.wake = .low ∨ ∃ e, s.attn.wake = .gap e ∧ reached (s.entered tk).now (tAdd e 1024) = true)
    (hq : ∀ t, t.attn.wake = (startPulse c g (s.entered tk)).attn.wake →
      t.tally = (startPulse c g (s.entered tk)).tally → KeepsBut tallyComps (s.entered tk) t → q t) :
    Runs (.wakePulseStart tk) s q := by
  rw [Runs, exec_wakePulseStart, execWakePulseStart]
  refine runs_wakeAndHoldOffs tk hc ?_ (startPulse_keepsBut c g _) (by decide) (by decide) fun t _ hw ht hk => hq t hw ht hk
  obtain hlow | ⟨e, hgap, hr⟩ := hpin
  · simp [hm, hd, hlow]
  · simp [hm, hd, hgap, hr]

/-- Settles O15: each command's effect is the one stated, and settling leaves the hold-offs, the WAKE pin and Tally. -/
theorem holdOffsAndWakePulses : Obligations.HoldOffsAndWakePulses := by
  unfold Obligations.HoldOffsAndWakePulses
  intro s tk hc
  refine ⟨fun g e hg hr => ?_, fun c g hm hd hcall hpin => ?_, fun hm => ?_, fun e hw hr => ?_⟩
  · rw [Runs, exec_holdoffEnd, execHoldoffEnd]
    exact runs_toAttn tk { s.attn with groups := modAt s.attn.groups g fun h => { h with holdEnd := none } } hc
      (by simp only [State.entered_attn, hg, if_pos hr]) fun t ht _ hk => ⟨ht, hk⟩
  · have hstart := startPulse_started (g := g) (u := s.entered tk) (by simpa using hcall)
    refine runs_startPulse tk hc hm hd hpin fun t hwake htally hk => ⟨?_, ?_, hk⟩
    · rw [hwake, hstart, tally_wake]; rfl
    · rw [htally, hstart]; exact tally_same _ _ ⟨rfl, rfl, rfl, rfl, rfl, rfl, rfl⟩
  · rw [Runs, exec_wakePulseStart, execWakePulseStart]
    exact runs_toAttn tk (s.entered tk).attn hc (if_pos (by simpa using hm)) fun t _ ht hk => ⟨by simpa using ht, hk⟩
  · rw [Runs, exec_wakePulseEnd, execWakePulseEnd]
    exact runs_toAttn tk { s.attn with wake := .gap e } hc (by simp only [State.entered_attn, hw, if_pos hr])
      fun t _ ht hk => ⟨ht, hk⟩

end Sys2Proof.Machine
end

section
/-! Proofs of family 02_time_base: the latches of the low halves (O14), the time sources (O32). -/

namespace Sys2Proof.Machine

/-! ## Frames -/

theorem keepsBut_time (u : State) (y : TimeBase) : KeepsBut [.time, .attn] u { u with time := y } := by
  intro c hc
  cases c
  case time | attn => simp at hc
  all_goals rfl

theorem keepsBut_link (u : State) (l : Link) : KeepsBut [.link, .attn] u { u with link := l } := by
  intro c hc
  cases c
  case link | attn => simp at hc
  all_goals rfl

/-- A command of effect `w` completes with its frame, with no transition waiting. -/
theorem runs_framed (tk : Tick) {s w : State} {f : State → State} {cs : List Comp} {q : State → Prop} (hc : s.calm)
    (hf : f (s.entered tk) = w) (hk : KeepsBut cs (s.entered tk) w) (hs : .scan ∉ cs ∧ .pwr ∉ cs ∧ .casc ∉ cs)
    (ha : .attn ∈ cs)
    (hq : ∀ t, t.time = w.time → t.link = w.link → t.tally = w.tally → t.lvl = w.lvl →
      KeepsBut cs (s.entered tk) t → q t) :
    ∃ t, runAt tk s f = .next t ∧ q t := by
  subst hf
  refine runs_settled (u := s.entered tk) (by simp) (by simpa using hc) hk hs ha fun wc hk => ?_
  exact hq _ (by simp) (by simp) (by simp) (settle_calm_lvl _ (by simpa using wc)) hk

/-- A command whose effect is on the time base alone. -/
theorem runs_toTime (tk : Tick) {s : State} {f : State → State} (y : TimeBase) (hc : s.calm)
    (hf : f (s.entered tk) = { s.entered tk with time := y }) :
    ∃ t, runAt tk s f = .next t ∧ t.time = y ∧ KeepsBut [.time, .attn] (s.entered tk) t :=
  runs_framed tk hc hf (keepsBut_time _ y) (by decide) (by decide) fun _ ht _ _ _ hk => ⟨ht, hk⟩

/-! ## The latches of the low halves (02 R38; 11 R340) -/

/-- Settles O14: each read is one latch, which settling leaves. -/
theorem lowHalvesLatch : Obligations.LowHalvesLatch := by
  unfold Obligations.LowHalvesLatch
  intro s tk hon hc
  have hon' : (s.entered tk).linkOn = true := by simpa [State.linkOn] using hon
  constructor
  · rw [Runs, exec_timebaseLoRead, execTimebaseLoRead]
    exact runs_toTime tk _ hc (if_pos hon')
  · rw [Runs, exec_tallySeqLoRead, execTallySeqLoRead]
    exact runs_framed tk hc (if_pos hon') (keepsBut_link _ _) (by decide) (by decide) fun _ _ hl _ _ hk => ⟨hl, hk⟩

/-! ## A lost source (02 R26, R27, R61; 10 R317) -/

@[simp] theorem State.entered_time_clk32 (s : State) (tk : Tick) : (s.entered tk).time.clk32 = s.time.clk32 := by
  unfold State.entered State.atTick; split <;> rfl

@[simp] theorem State.entered_ownSource (s : State) (tk : Tick) : (s.entered tk).ownSource = s.ownSource := by
  simp [State.ownSource]

/-- The time base once its source is lost. -/
def TimeBase.lost (y : TimeBase) (cause : BitVec 3) : TimeBase :=
  { y with
    declared := false, takeoverDue := y.crystalRunning, crystalRunning := false, cascadeLocked := false
    sourceFault := true, sourceCause := cause }

/-- The Level converter once its running conversion is abandoned. -/
def Level.abandoned (l : Level) (r : LvlRun) : Level :=
  { l with running := none, tooFast := false, queue := { r.req with ready := true, urgent := true } :: l.queue }

theorem sourceLost_idle (cause : BitVec 3) {u : State} (h : u.lvl.running = none) :
    sourceLost cause u = { u with time := u.time.lost cause } := by
  simp [sourceLost, abandonConversion, h, TimeBase.lost]

theorem sourceLost_running (cause : BitVec 3) {u : State} {r : LvlRun} (h : u.lvl.running = some r) :
    sourceLost cause u =
      tally 0x608 (d48 [(8, r.req.slot)]) { u with time := u.time.lost cause, lvl := u.lvl.abandoned r } := by
  simp [sourceLost, abandonConversion, h, TimeBase.lost, Level.abandoned]

theorem sourceLost_running_keepsBut (cause : BitVec 3) {u : State} {r : LvlRun} (h : u.lvl.running = some r) :
    KeepsBut [.time, .attn, .lvl, .tally, .record, .trk] u (sourceLost cause u) := by
  rw [sourceLost_running cause h]
  generalize hw : ({ u with time := u.time.lost cause, lvl := u.lvl.abandoned r } : State) = w
  have hset : KeepsBut [.time, .attn, .lvl, .tally, .record, .trk] u w := by
    intro c hc
    subst hw
    cases c
    case time | lvl => simp at hc
    all_goals rfl
  exact keepsBut_trans hset (keepsBut_mono (tally_keepsBut _ _ w) (by decide))

/-- CRYSTAL_LOST where the source in use, or a declared one, is the crystal (02 R26). -/
theorem runs_crystalLost (tk : Tick) {s w : State} {cs : List Comp} {q : State → Prop} (hc : s.calm)
    (hm : s.casc.role ≠ .member) (hd : s.ownSource = true ∨ s.time.declared = true) (hw : sourceLost 2 (s.entered tk) = w)
    (hk : KeepsBut cs (s.entered tk) w) (hs : .scan ∉ cs ∧ .pwr ∉ cs ∧ .casc ∉ cs) (ha : .attn ∈ cs)
    (hq : ∀ t, t.time = w.time → t.tally = w.tally → t.lvl = w.lvl → KeepsBut cs (s.entered tk) t → q t) :
    Runs (.crystalLost tk) s q := by
  rw [Runs, exec_crystalLost, execCrystalLost]
  exact runs_framed tk hc (by rw [if_pos (by simpa using ⟨hm, hd⟩), hw]) hk hs ha
    fun t ht _ hy hl hk => hq t ht hy hl hk

/-! ## The end of driving (02 R61) -/

/-- No transition waits but for the end of driving at a pass's end. -/
def State.still (s : State) : Prop :=
  s.scan.phase ≠ .stopping ∧ s.pwr.entry = none ∧ s.pwr.next = none ∧ s.pwr.checkFailed = false ∧
    s.pwr.sleepDue = false ∧ s.casc.redo = false

theorem still_of_calm {s : State} (h : s.calm) : s.still := by
  obtain ⟨hphase, -, hentry, hnext, hfailed, hsleep, hredo⟩ := h
  exact ⟨hphase, hentry, hnext, hfailed, hsleep, hredo⟩

/-- Driving's end touches the scan alone. -/
theorem settleDrive_eq (s : State) : settleDrive s = { s with scan := (settleDrive s).scan } := by
  unfold settleDrive
  split
  · split <;> rfl
  · rfl

theorem settleDrive_still {s : State} (h : s.still) : (settleDrive s).still := by
  obtain ⟨hphase, hrest⟩ := h
  rw [settleDrive_eq]
  refine ⟨?_, hrest⟩
  unfold settleDrive
  split
  · split
    · simp [driveNone]
    · exact hphase
  · exact hphase

/-- Then a command is followed by the end of driving and the attention controller alone. -/
theorem settle_still {s : State} (h : s.still) :
    settle s = { settleDrive s with
      attn := (settleAttn (settleDrive s)).attn, casc := (settleOut (settleDrive s)).casc } := by
  have hv := settleDrive_still h
  rw [settle]
  generalize settleDrive s = v at hv ⊢
  obtain ⟨hphase, hentry, hnext, hfailed, hsleep, hredo⟩ := hv
  have hscan : settleScan v = v := by simp [settleScan, idleStop, entryReply, hphase, hentry]
  have hcheck : settleCheck v = v := by simp [settleCheck, hfailed]
  have hdue : settleSleep v = v := by simp [settleSleep, hsleep]
  have hdoze : settleDoze v = v := by simp [settleDoze, hnext]
  have henum : settleRedo v = v := by simp [settleRedo, hredo]
  rw [hscan, hcheck, hdue, hdoze, henum, settleAttn_eq]
  rfl

/-- The scan of a member that has lost its lock: driving ends with the pass in progress, or at once between passes. -/
def State.lockLostScan (s : State) : Scan :=
  match passEnd s with
  | some e => { s.scan with stopAt := some e }
  | none => { s.scan with phase := .stopped, stage := .none, stopAt := none }

theorem lockLostScan_between {s : State} (h : passEnd s = none) (hc : s.calm) :
    s.lockLostScan = { s.scan with phase := .stopped, stage := .none } := by
  obtain ⟨-, hstop, -⟩ := hc
  simp [State.lockLostScan, h, hstop]

theorem lockLostScan_inPass {s : State} {e : Time} (h : passEnd s = some e) :
    s.lockLostScan = { s.scan with stopAt := some e } := by
  simp [State.lockLostScan, h]

/-- The state of a member that has lost CLK32 with no conversion running (02 R61; 09 Table 9.11). -/
def State.clk32Gone (s : State) : State :=
  { s with
    time := s.time.lost 4, casc := { s.casc with syncLocked := false, syncLost := false }, scan := s.lockLostScan }

theorem clk32Gone_eq {s : State} (h : s.lvl.running = none) :
    s.clk32Gone = { stopDriving (sourceLost 4 s) with
      casc := { (stopDriving (sourceLost 4 s)).casc with syncLost := false } } := by
  have hpass : passEnd { s with time := s.time.lost 4, casc := { s.casc with syncLocked := false } } = passEnd s := rfl
  rw [sourceLost_idle 4 h]
  simp only [stopDriving, State.clk32Gone, State.lockLostScan, hpass]
  cases passEnd s <;> rfl

theorem clk32Gone_still {s : State} (h : s.still) : s.clk32Gone.still := by
  obtain ⟨hphase, hrest⟩ := h
  refine ⟨?_, hrest⟩
  unfold State.clk32Gone State.lockLostScan
  cases passEnd s
  · simp
  · exact hphase

/-- Driving goes on while the pass in which the lock was lost has not ended, and has ended at once between passes. -/
theorem settleDrive_clk32Gone {s : State} (h : ∀ e, passEnd s = some e → reached s.now e = false) :
    settleDrive s.clk32Gone = s.clk32Gone := by
  cases he : passEnd s with
  | none => simp [settleDrive, State.clk32Gone, State.lockLostScan, he]
  | some e =>
    have hnow : s.clk32Gone.now = s.now := rfl
    have hstop : s.clk32Gone.scan.stopAt = some e := by simp [State.clk32Gone, lockLostScan_inPass he]
    simp [settleDrive, hstop, hnow, h e he]

/-- CLK32_LOST once it has settled; `u` is the state in which it ran. -/
theorem clk32Gone_settled {s u : State} (hu : u.part = s.part ∧ u.dieRevision = s.dieRevision ∧ u.pending = s.pending ∧
    u.casc.out = []) (h : u.still) :
    (settle (sealed s u.clk32Gone)).casc = u.clk32Gone.casc ∧
      ((∀ e, passEnd u = some e → reached u.now e = false) → (settle (sealed s u.clk32Gone)).scan = u.lockLostScan) ∧
      KeepsBut [.time, .attn, .scan, .casc] u (settle (sealed s u.clk32Gone)) := by
  obtain ⟨hpart, hdie, hpending, hout⟩ := hu
  have hsealed : sealed s u.clk32Gone = u.clk32Gone := by
    simp only [sealed, ← hpart, ← hdie, ← hpending]
    rfl
  rw [hsealed, settle_still (clk32Gone_still h)]
  refine ⟨?_, fun he => congrArg State.scan (settleDrive_clk32Gone he), ?_⟩
  · rw [settleDrive_eq]
    simp only [settleOut, State.clk32Gone, hout]
    rfl
  · rw [settleDrive_eq]
    intro c hc
    cases c
    case time | attn | scan | casc => simp at hc
    all_goals rfl

/-- CLK32_LOST on a member whose beats come from CLK32, or that has declared it, with no conversion running (02 R61). -/
theorem runs_clk32Lost (tk : Tick) {s : State} {q : State → Prop} (hc : s.calm) (hm : s.casc.role = .member)
    (hd : s.ownSource = true ∨ s.time.declared = true) (hidle : s.lvl.running = none)
    (hq : ∀ t, t.time = (s.entered tk).time.lost 4 → t.casc = (s.entered tk).clk32Gone.casc →
      ((∀ e, passEnd (s.entered tk) = some e → reached (s.entered tk).now e = false) →
        t.scan = (s.entered tk).lockLostScan) →
      KeepsBut [.time, .attn, .scan, .casc] (s.entered tk) t → q t) :
    Runs (.clk32Lost tk) s q := by
  have hstill : (s.entered tk).still := still_of_calm (by simpa using hc)
  obtain ⟨hcasc, hscan, hk⟩ := clk32Gone_settled (s := s) (u := s.entered tk) (by simp) hstill
  rw [Runs, exec_clk32Lost, execClk32Lost, runAt, if_pos (by simpa using ⟨hm, hd⟩)]
  dsimp only
  rw [← clk32Gone_eq (by simpa using hidle)]
  exact ⟨_, rfl, hq _ (settle_time _) hcasc hscan hk⟩

/-- Settles O32: each command's effect is on the time base, but for a conversion that a loss abandons and the driving that
the loss of CLK32 ends. -/
theorem timeSourcesChange : Obligations.TimeSourcesChange := by
  unfold Obligations.TimeSourcesChange
  intro s tk hc u lost back
  have hlost : ∀ cause, lost cause = u.time.lost cause := fun cause => by simp [lost, u, TimeBase.lost]
  have hu : u = s.entered tk := rfl
  clear_value lost u
  subst hu
  refine ⟨fun hfault hrange => ?_, fun hm ho => ?_, fun hm ho => ?_, fun hd hf => ?_, fun hd hf => ?_, fun hm hd => ?_,
    fun hm hd hidle => ?_⟩
  · rw [Runs, exec_storyPoleFaultClear, execStoryPoleFaultClear]
    exact runs_toTime tk _ hc (if_pos (by simpa using ⟨hfault, hrange⟩))
  · rw [Runs, exec_crystalDeclaredRunning, execCrystalDeclaredRunning]
    refine runs_toTime tk _ hc ?_
    rw [if_pos (by simpa using ⟨hm, ho⟩)]
    simp
  · rw [Runs, exec_clk32DeclaredRunning, execClk32DeclaredRunning]
    exact runs_toTime tk _ hc (if_pos (by simpa using ⟨hm, ho⟩))
  · rw [Runs, exec_crystalSwitch, execCrystalSwitch]
    refine runs_toTime tk _ hc ?_
    rw [if_pos (by simpa [hf] using hd)]
    simp
  · rw [Runs, exec_fallbackTakeover, execFallbackTakeover]
    exact runs_toTime tk _ hc (if_pos (by simpa [hf] using hd))
  · refine ⟨fun hidle => ?_, fun r hr => ?_⟩
    · exact runs_crystalLost tk hc hm hd (sourceLost_idle 2 (by simpa using hidle)) (keepsBut_time _ _) (by decide)
        (by decide) fun t ht _ _ hk => ⟨ht.trans (hlost 2).symm, hk⟩
    · have hr' : (s.entered tk).lvl.running = some r := by simpa using hr
      refine runs_crystalLost tk hc hm hd (sourceLost_running 2 hr')
        (sourceLost_running 2 hr' ▸ sourceLost_running_keepsBut 2 hr') (by decide) (by decide)
        fun t ht hy hl hk => ⟨?_, ?_, ?_, hk⟩
      · rw [ht, tally_time, hlost]
      · rw [hl, tally_lvl]
        simp [Level.abandoned, back]
      · rw [hy, hlost]
        exact tally_same _ _ ⟨rfl, rfl, rfl, rfl, rfl, rfl, rfl⟩
  · refine runs_clk32Lost tk hc hm hd hidle fun t ht hcasc hscan hk =>
      ⟨ht.trans (hlost 4).symm, hcasc, fun hn => ?_, fun e he hr => ?_, hk⟩
    · rw [hscan (by simp [hn]), lockLostScan_between hn (by simpa using hc), State.entered_scan]
    · rw [hscan (by simpa [he] using hr), lockLostScan_inPass he, State.entered_scan]

end Sys2Proof.Machine
end

section
/-! Proofs of family 02_time_base: the beat edge (O31). -/

namespace Sys2Proof.Machine

/-! ## Excitation at a beat touches the Level converter alone (10 R306) -/

/-- The two states differ in the Level converter alone. -/
def LevelOnly (u w : State) : Prop := w = { u with lvl := w.lvl }

theorem LevelOnly.trans {u v w : State} (h : LevelOnly u v) (h' : LevelOnly v w) : LevelOnly u w :=
  Eq.trans h' (congrArg (fun x : State => { x with lvl := w.lvl }) h)

theorem LevelOnly.keepsBut {u w : State} (h : LevelOnly u w) : KeepsBut [.lvl] u w := by
  intro c hc
  rw [h]
  cases c
  case lvl => simp at hc
  all_goals rfl

theorem pd5Check_levelOnly (u : State) : LevelOnly u (pd5Check u) := by
  unfold pd5Check
  dsimp only
  repeat' split
  all_goals rfl

theorem recheckTooFast_levelOnly (u : State) : LevelOnly u (recheckTooFast u) := by
  unfold recheckTooFast
  dsimp only
  repeat' split
  all_goals rfl

theorem setReversed_levelOnly (b : Bool) (u : State) : LevelOnly u (setReversed b u) := by
  unfold setReversed
  split <;> rfl

theorem edge_levelOnly (u : State) : LevelOnly u (edge u) := by
  unfold edge
  split
  · split <;> rfl
  · rfl

theorem exciteBeat_levelOnly (u : State) : LevelOnly u (exciteBeat u) := by
  unfold exciteBeat
  dsimp only
  have hload : ∀ l : Level, LevelOnly u (pd5Check { u with lvl := l }) := fun l =>
    LevelOnly.trans (v := { u with lvl := l }) rfl (pd5Check_levelOnly _)
  have hstart : ∀ (b : Bool) (v : State) (l : Level), LevelOnly u v → LevelOnly u { setReversed b v with lvl := l } :=
    fun b v l h => (h.trans (setReversed_levelOnly b v)).trans (w := { setReversed b v with lvl := l }) rfl
  generalize hv : pd5Check _ = v
  have huv : LevelOnly u v := hv ▸ hload _
  clear hv
  generalize hw : (if (u.pnat 0x612 != u.lvl.excH) = true then recheckTooFast v else v) = w
  have huw : LevelOnly u w := by
    subst hw
    split
    · exact huv.trans (recheckTooFast_levelOnly v)
    · exact huv
  clear hw
  split
  · exact huw
  split
  · exact (hstart _ _ _ huw).trans (edge_levelOnly _)
  split
  · exact (hstart _ _ _ huw).trans (edge_levelOnly _)
  split
  · split
    · exact (hstart _ _ _ huw).trans (edge_levelOnly _)
    · exact hstart _ _ _ huw
  · exact huw

/-! ## The beat (02 R30, R34, R36, R37) -/

/-- T at the next beat, with tick 0. -/
def State.nextBeat (s : State) : Time := tAdd s.time.t (256 - s.time.t.toNat % 256)

/-- The state at its next beat. -/
def State.atBeat (s : State) : State := { s with time := { s.time with t := s.nextBeat, place := 0 } }

/-- The state at its next beat, with ticks placed from there on. -/
def State.placedAtBeat (s : State) : State :=
  { s with time := { s.time with t := s.nextBeat, place := 0, stage := .placed } }

/-- T counts beats, and wraps after 2^48 of them (02 R36). -/
theorem toNat_nextBeat (s : State) : s.nextBeat.toNat = (s.time.t.toNat / 256 + 1) * 256 % 2 ^ 56 := by
  have ht := s.time.t.isLt
  rw [State.nextBeat, tAdd, BitVec.toNat_add, BitVec.toNat_ofNat]
  omega

/-- From a declared loss to the end of the frame the Story Pole holds N (02 R26). -/
def State.holdsN (s : State) : Prop := s.time.takeoverDue = true ∧ s.atBeat.midFrame = true

/-- The Story Pole counts the beat that ends. -/
def State.measures (s : State) : Prop := s.time.stage = .measuring ∨ (s.time.stage = .placed ∧ ¬ s.holdsN)

theorem beatEdge_eq (count : Nat) (s : State) : beatEdge count s =
    match s.time.stage with
    | .off => s.atBeat
    | .waitEdge => { s.atBeat with time := { s.atBeat.time with stage := .measuring } }
    | .measuring => measureN count s.placedAtBeat
    | .placed => if s.time.takeoverDue && s.atBeat.midFrame then s.atBeat else measureN count s.atBeat := rfl

theorem beatEdge_off {count : Nat} {s : State} (h : s.time.stage = .off) : beatEdge count s = s.atBeat := by
  rw [beatEdge_eq, h]

theorem beatEdge_waitEdge {count : Nat} {s : State} (h : s.time.stage = .waitEdge) :
    beatEdge count s = { s.atBeat with time := { s.atBeat.time with stage := .measuring } } := by
  rw [beatEdge_eq, h]

theorem beatEdge_holds {count : Nat} {s : State} (h : s.time.stage = .placed) (hn : s.holdsN) :
    beatEdge count s = s.atBeat := by
  rw [beatEdge_eq, h]
  exact if_pos (Bool.and_eq_true_iff.mpr hn)

theorem beatEdge_measures {count : Nat} {s : State} (h : s.measures) :
    beatEdge count s = measureN count s.placedAtBeat := by
  rw [beatEdge_eq]
  obtain h | ⟨h, hn⟩ := h
  · rw [h]
  · have hplaced : s.placedAtBeat = s.atBeat := by rw [State.placedAtBeat, ← h]; rfl
    rw [h, hplaced]
    exact if_neg fun hc => hn (Bool.and_eq_true_iff.mp hc)

theorem measureN_inRange {count : Nat} {s : State} (hlo : 262144 ≤ count) (hhi : count < 2 ^ 20) :
    measureN count s = { s with time := { s.time with
      n := BitVec.ofNat 20 count, inRange := if s.time.poleFault then s.time.inRange + 1 else 0 } } :=
  if_neg (by omega)

theorem measureN_outOfRange {count : Nat} {s : State} (h : count < 262144 ∨ 2 ^ 20 ≤ count) :
    measureN count s = tally 6 (d48 [(24, if 2 ^ 20 ≤ count then 0xFFFFFF else count)])
      { s with time := { s.time with poleFault := true, inRange := 0 } } :=
  if_pos h

theorem beatEdge_inRange {count : Nat} {s : State} (h : s.measures) (hlo : 262144 ≤ count) (hhi : count < 2 ^ 20) :
    beatEdge count s = { s with time := { s.time with
      t := s.nextBeat, place := 0, stage := .placed, n := BitVec.ofNat 20 count
      inRange := if s.time.poleFault then s.time.inRange + 1 else 0 } } :=
  (beatEdge_measures h).trans (measureN_inRange hlo hhi)

theorem beatEdge_outOfRange {count : Nat} {s : State} (h : s.measures) (hout : count < 262144 ∨ 2 ^ 20 ≤ count) :
    beatEdge count s = tally 6 (d48 [(24, if 2 ^ 20 ≤ count then 0xFFFFFF else count)])
      { s with time := { s.time with
        t := s.nextBeat, place := 0, stage := .placed, poleFault := true, inRange := 0 } } :=
  (beatEdge_measures h).trans (measureN_outOfRange hout)

/-- A beat that is not counted touches the time base alone, and leaves what the Story Pole has measured. -/
theorem beatEdge_unmeasured {count : Nat} {s : State} (h : ¬ s.measures) :
    ∃ y, beatEdge count s = { s with time := y } := by
  cases hs : s.time.stage with
  | off => exact ⟨_, beatEdge_off hs⟩
  | waitEdge => exact ⟨_, beatEdge_waitEdge hs⟩
  | measuring => exact absurd (.inl hs) h
  | placed =>
    by_cases hn : s.holdsN
    · exact ⟨_, beatEdge_holds hs hn⟩
    · exact absurd (.inr ⟨hs, hn⟩) h

/-- A counted beat keeps its count, or its fault, in the time base; a fault writes a Tally record besides. -/
theorem measureN_keepsBut (count : Nat) (s : State) :
    KeepsBut [.time, .attn, .tally, .record, .trk] s (measureN count s) := by
  by_cases h : count < 262144 ∨ 2 ^ 20 ≤ count
  · rw [measureN_outOfRange h]
    generalize hw : ({ s with time := { s.time with poleFault := true, inRange := 0 } } : State) = w
    exact keepsBut_trans (hw ▸ keepsBut_mono (keepsBut_time s _) (by decide))
      (keepsBut_mono (tally_keepsBut _ _ w) (by decide))
  · rw [measureN_inRange (by omega) (by omega)]
    exact keepsBut_mono (keepsBut_time s _) (by decide)

@[simp] theorem measureN_t (count : Nat) (s : State) : (measureN count s).time.t = s.time.t := by
  by_cases h : count < 262144 ∨ 2 ^ 20 ≤ count
  · rw [measureN_outOfRange h, tally_time]
  · rw [measureN_inRange (by omega) (by omega)]

/-- At every stage T goes to the next beat. -/
theorem beatEdge_t (count : Nat) (s : State) : (beatEdge count s).time.t = s.nextBeat := by
  rw [beatEdge_eq]
  split
  · rfl
  · rfl
  · exact measureN_t count s.placedAtBeat
  · split
    · rfl
    · exact measureN_t count s.atBeat

/-- Whether a frame is in progress is a matter of the scan and of T. -/
theorem midFrame_congr {u w : State} (hscan : w.scan = u.scan) (ht : w.time.t = u.time.t) : w.midFrame = u.midFrame := by
  simp only [State.midFrame, State.now, hscan, ht]

/-- What the edge of a beat can change. -/
theorem beatEdge_keepsBut (count : Nat) (s : State) :
    KeepsBut [.time, .attn, .tally, .record, .trk] s (beatEdge count s) := by
  by_cases h : s.measures
  · rw [beatEdge_measures h]
    exact keepsBut_trans (keepsBut_mono (keepsBut_time s _) (by decide)) (measureN_keepsBut count s.placedAtBeat)
  · obtain ⟨y, hy⟩ := beatEdge_unmeasured (count := count) h
    exact hy ▸ keepsBut_mono (keepsBut_time s y) (by decide)

/-! ## BEAT_EDGE -/

/-- The state in which a beat edge acts: the messages of an earlier command have left. -/
def State.unsent (s : State) : State := { s with casc := { s.casc with out := [] } }

theorem unsent_keepsBut (s : State) : KeepsBut [.casc] s s.unsent := by
  intro c hc
  cases c
  case casc => simp at hc
  all_goals rfl

theorem exec_beatEdge_settles (count : Nat) (s : State) :
    exec (.beatEdge count) s = .next (settle (sealed s (exciteBeat (beatEdge count s.unsent)))) := rfl

/-- A beat edge completes with the time base and the Tally of its effect, and with its frame but for messages that have
left, the Level converter and the attention registers. -/
theorem runs_beatEdge (count : Nat) {s : State} (hc : s.calm) :
    ∃ t, exec (.beatEdge count) s = .next t ∧ t.time = (beatEdge count s.unsent).time ∧
      t.tally = (beatEdge count s.unsent).tally ∧
      ∀ cs, KeepsBut cs s.unsent (beatEdge count s.unsent) → .scan ∉ cs ∧ .pwr ∉ cs ∧ .casc ∉ cs →
        KeepsBut (.casc :: .lvl :: .attn :: cs) s t := by
  have hlevel := (exciteBeat_levelOnly (beatEdge count s.unsent)).keepsBut
  rw [exec_beatEdge_settles]
  refine ⟨_, rfl, ?_, ?_, fun cs hk hs => ?_⟩
  · rw [settle_time, sealed_time]
    exact hlevel .time (by decide)
  · rw [settle_tally, sealed_tally]
    exact hlevel .tally (by decide)
  · have hw : KeepsBut (.lvl :: .attn :: cs) s.unsent (exciteBeat (beatEdge count s.unsent)) :=
      keepsBut_trans (keepsBut_mono hk (by simp +contextual)) (keepsBut_mono hlevel (by simp))
    obtain ⟨t, ht, hframe⟩ := runs_settled (s := s) (u := s.unsent) (q := KeepsBut (.lvl :: .attn :: cs) s.unsent)
      ⟨rfl, rfl, rfl, rfl⟩ (by exact hc) hw (by simpa using hs) (by simp) fun _ hk => hk
    rw [Host.Outcome.next.inj ht]
    exact keepsBut_trans (keepsBut_mono (unsent_keepsBut s) (by simp)) (keepsBut_mono hframe (by simp +contextual))

/-- Settles O31: by the stage of the Story Pole, and by the range of the count where it counts. -/
theorem beatEdgesMeasure : Obligations.BeatEdgesMeasure := by
  unfold Obligations.BeatEdgesMeasure
  intro count s hc
  obtain ⟨t, ht, htime, htally, hframe⟩ := runs_beatEdge count hc
  refine ⟨t, ht, ?_⟩
  have hbeat : t.time.t = s.nextBeat := htime ▸ beatEdge_t count s.unsent
  have hheld : (s.time.takeoverDue = true ∧ ({ s with time := t.time }).midFrame = true) ↔ s.unsent.holdsN := by
    rw [State.holdsN, midFrame_congr (u := s.unsent.atBeat) (w := { s with time := t.time }) rfl hbeat]
    rfl
  refine ⟨hbeat ▸ toNat_nextBeat s, ?_⟩
  dsimp only
  rw [hbeat]
  simp only [hheld]
  refine ⟨fun h => ?_, fun h => ?_, fun h hn => ?_, fun h => ?_, fun h hlo hhi => ?_, fun h hout => ?_⟩
  · exact htime.trans (congrArg State.time (beatEdge_off (s := s.unsent) h))
  · exact htime.trans (congrArg State.time (beatEdge_waitEdge (s := s.unsent) h))
  · exact htime.trans (congrArg State.time (beatEdge_holds (s := s.unsent) h hn))
  · obtain ⟨y, hy⟩ := beatEdge_unmeasured (count := count) (s := s.unsent) h
    exact keepsBut_mono (hframe [.time, .attn] (hy ▸ keepsBut_time _ y) (by decide)) (by decide)
  · have hb := beatEdge_inRange (s := s.unsent) h hlo hhi
    exact ⟨htime.trans (congrArg State.time hb),
      keepsBut_mono (hframe [.time, .attn] (hb ▸ keepsBut_time _ _) (by decide)) (by decide)⟩
  · have hb := beatEdge_outOfRange (s := s.unsent) h hout
    have ht' : t.time = { s.time with
        t := s.nextBeat, place := 0, stage := .placed, poleFault := true, inRange := 0 } :=
      htime.trans ((congrArg State.time hb).trans (tally_time _ _ _))
    refine ⟨ht', ?_, keepsBut_mono (hframe _ (beatEdge_keepsBut count _) (by decide)) (by decide)⟩
    rw [htally, hb, ht']
    exact tally_same _ _ ⟨rfl, rfl, rfl, rfl, rfl, rfl, rfl⟩

end Sys2Proof.Machine
end

section
/-! Proofs of family 02_time_base: TEST_CHALLENGE among the immediate commands (O27). -/

namespace Sys2Proof.Machine

/-- What a command hands to the trust registers is there once the command has settled. -/
theorem runAt_trust {tk : Tick} {s t : State} {f : State → State} (h : runAt tk s f = .next t) :
    t.trust = (f (s.entered tk)).trust := by
  rw [← Host.Outcome.next.inj h, settle_trust, sealed_trust]

/-- The last 8 bytes of a challenge are T as the tile stamps it, in master time by the difference it holds (02 R63; 15
R461). -/
theorem newChallenge_drop (s : State) : (newChallenge s).1.drop 40 = leBytes 8 (s.stampOf s.now).toNat := by
  have hlen : (leBytes 8 Config.deviceId ++ leBytes 32 s.draw.1).length = 40 := by simp
  exact List.drop_left' hlen

theorem newChallenge_challenge (s : State) : (newChallenge s).2.trust.challenge = some ((newChallenge s).1, s.now) := rfl

@[simp] theorem sole_trust (c : Call) (st : Nat) (data : List Byte) (s : State) : (sole c st data s).trust = s.trust := by
  unfold sole
  split <;> exact postReply_trust _ _

/-- TEST_CHALLENGE that is not refused issues a fresh challenge. -/
theorem cmdTestChallenge_trust {c : Call} {s : State} (hpar : c.par = []) (hset : inSet .all s = true)
    (hfew : s.trust.failures < 3) : (cmdTestChallenge c s).trust = (newChallenge s).2.trust := by
  have hfew' : ¬ 3 ≤ s.trust.failures := by omega
  simp [cmdTestChallenge, plain, checked, hpar, hset, hfew']

/-- The trust registers after TEST_CHALLENGE. -/
theorem testChallenge_trust {s t : State} {tk : Tick} {p : Packet} {n : Nat} (h : Serves s 0x70 p n) (hc : s.calm)
    (hset : inSet .all s = true) (hpar : p.par = []) (hfew : s.trust.failures < 3)
    (ht : exec (.testChallenge tk) s = .next t) : t.trust = (newChallenge (s.taken tk n)).2.trust := by
  have hset' : inSet .all (s.taken tk n) = true := (inSet_taken tk h hc .all).trans hset
  have hkeep : (s.taken tk n).trust = s.trust := (passPacket_frame n (s.entered tk) .trust (by decide)).trans (by simp)
  rw [exec_testChallenge, execTestChallenge] at ht
  rw [runAt_trust ht, takeFor_serves 0x70 _ s tk p n h]
  exact cmdTestChallenge_trust hpar hset' (by rwa [hkeep])

/-- A standalone tile, awake, with a TEST_CHALLENGE in its command ring, that holds a difference of 1 to master time. -/
def challengedOffMasterTime : State :=
  { State.reset with
    boot := { State.reset.boot with phase := .done, heldT := none, nodeInit := true }
    pwr := { State.reset.pwr with pd1 := true, pd4 := true }
    link := { State.reset.link with busy := false, mode := 0 }
    time := { State.reset.time with masterDiff := 1 }
    cmd := ⟨[⟨[0x70, 9, 0, 0] ++ crcBytes [0x70, 9, 0, 0] ++ [0, 0], .plain⟩], 8, 0⟩ }

/-- Its packet: opcode, tag, no parameters. -/
def challengePacket : Packet := ⟨0x70, 9, []⟩

theorem challengedOffMasterTime_serves : Serves challengedOffMasterTime 0x70 challengePacket 8 :=
  ⟨by decide, by decide +kernel, rfl⟩

/-- Refutes O27: the challenge ends with T in master time, `stampOf`, and the statement has it end with the tile's own T for
every state. The two differ in a state that holds a difference to master time, 1 here, and the clause does not ask for
none. -/
theorem not_immediateCommandsAct : ¬ Obligations.ImmediateCommandsAct := by
  unfold Obligations.ImmediateCommandsAct
  intro h
  have hc : challengedOffMasterTime.calm := by unfold State.calm; decide
  have hserves := challengedOffMasterTime_serves
  obtain ⟨-, -, -, hchallenge, -⟩ := h challengedOffMasterTime 0 challengePacket 8 hc
  obtain ⟨t, ht, ⟨bs, htrust, -, -, -, hdrop⟩, -⟩ :=
    hchallenge hserves (by decide) rfl (by decide) (by unfold replyFits; decide)
  have hbs : (newChallenge (challengedOffMasterTime.taken 0 8)).1 = bs := by
    have hboth := (testChallenge_trust hserves hc (by decide) rfl (by decide) ht).symm.trans htrust
    have hsome := (newChallenge_challenge _).symm.trans (congrArg Trust.challenge hboth)
    exact congrArg Prod.fst (Option.some.inj hsome)
  rw [← hbs, newChallenge_drop] at hdrop
  exact absurd hdrop (by decide)

end Sys2Proof.Machine
end

section
/-! Proofs of family 04_code_division_scanning: settling while no transition is made. -/

namespace Sys2Proof.Machine

/-! ## Settling while no transition is made -/

/-- Settling makes no transition: driving goes on, no power entry, failed wake check, sleep request or new enumeration is
due, scanning that is to stop waits for its frame's records, and a change between DOZE and ACTIVE for its frame start. -/
structure State.Quiet (s : State) : Prop where
  stopAt : s.scan.stopAt = none
  entry : s.pwr.entry = none
  checkFailed : s.pwr.checkFailed = false
  sleepDue : s.pwr.sleepDue = false
  redo : s.casc.redo = false
  stopping : s.scan.phase = .stopping → s.scan.stage ≠ .none ∧ s.scan.stage ≠ .written
  stopped : s.scan.phase = .stopped → s.pwr.next = none

theorem State.calm.quiet {s : State} (h : s.calm) : s.Quiet := by
  obtain ⟨hphase, hstop, hentry, hnext, hfailed, hsleep, hredo⟩ := h
  exact ⟨hstop, hentry, hfailed, hsleep, hredo, fun hp => absurd hp hphase, fun _ => hnext⟩

/-- The scan, the power and the cascade registers decide it, and of the power registers not the wake check. -/
theorem State.Quiet.congr {u w : State} (h : u.Quiet) (hscan : w.scan = u.scan)
    (hpwr : ∃ b, w.pwr = { u.pwr with wakeCheck := b }) (hcasc : w.casc = u.casc) : w.Quiet := by
  obtain ⟨b, hpwr⟩ := hpwr
  obtain ⟨hstop, hentry, hfailed, hsleep, hredo, hstopping, hstopped⟩ := h
  constructor <;> simp only [hscan, hpwr, hcasc] <;> assumption

/-- Then a command is followed by the attention controller alone. -/
theorem settle_quiet {s : State} (h : s.Quiet) :
    settle s = { s with attn := (settleAttn s).attn, casc := (settleOut s).casc } := by
  have hdrive : settleDrive s = s := by simp [settleDrive, h.stopAt]
  have hscan : settleScan s = s := by
    have hwaits : ¬ (s.scan.phase = .stopping ∧ (s.scan.stage = .none ∨ s.scan.stage = .written)) :=
      fun ⟨hp, hs⟩ => hs.elim (h.stopping hp).1 (h.stopping hp).2
    simp [settleScan, idleStop, entryReply, h.entry, hwaits]
  have hcheck : settleCheck s = s := by simp [settleCheck, h.checkFailed]
  have hsleep : settleSleep s = s := by simp [settleSleep, h.sleepDue]
  have hdoze : settleDoze s = s := by
    rw [settleDoze, if_pos]
    by_cases hp : s.scan.phase = .stopped
    · exact .inl (h.stopped hp)
    · exact .inr (.inl hp)
  have hredo : settleRedo s = s := by simp [settleRedo, h.redo]
  rw [settle, hdrive, hscan, hcheck, hsleep, hdoze, hredo, settleAttn_eq]
  rfl

/-- What the seal and the attention controller can change of a command's effect. -/
def settleComps : List Comp := [.part, .dieRevision, .pending, .attn, .casc]

theorem settle_quiet_keepsBut {s w : State} (h : w.Quiet) : KeepsBut settleComps w (settle (sealed s w)) := by
  intro c hc
  rw [settle_quiet (h.congr (w := sealed s w) rfl ⟨_, rfl⟩ rfl)]
  cases c
  case part | dieRevision | pending | attn | casc => simp [settleComps] at hc
  all_goals rfl

/-- No message waits to be put in order. -/
theorem settleOut_casc {s : State} (h : s.casc.out = []) : (settleOut s).casc = s.casc := by
  have hout : (settleOut s).casc = { s.casc with out := [] } := by simp only [settleOut, h]; rfl
  rw [hout, ← h]

/-- A command of effect `w` completes with that effect and its frame; `u` is the state in which it ran. -/
theorem runs_quiet {s u w : State} {cs : List Comp} {q : State → Prop}
    (hu : u.part = s.part ∧ u.dieRevision = s.dieRevision ∧ u.pending = s.pending ∧ u.casc.out = []) (hw : w.Quiet)
    (hk : KeepsBut cs u w) (ha : .attn ∈ cs)
    (hq : ∀ t, KeepsBut settleComps w t → KeepsBut cs u t → q t) :
    ∃ t, (Host.Outcome.next (settle (sealed s w)) : Host.Outcome State Fault Refusal) = .next t ∧ q t := by
  obtain ⟨hpart, hdie, hpending, hout⟩ := hu
  have hset := settle_quiet_keepsBut (s := s) hw
  refine ⟨_, rfl, hq _ hset fun c hc => ?_⟩
  have hcw : c.same u w := hk c hc
  cases c
  case part => exact (settle_part _).trans hpart.symm
  case dieRevision => exact (settle_dieRevision _).trans hdie.symm
  case pending => exact (settle_pending _).trans hpending.symm
  case attn => exact absurd ha hc
  case casc =>
    have hcasc : w.casc = u.casc := hcw
    show (settle (sealed s w)).casc = u.casc
    rw [settle_quiet (hw.congr (w := sealed s w) rfl ⟨_, rfl⟩ rfl)]
    exact (settleOut_casc (s := sealed s w) (hcasc ▸ hout)).trans hcasc
  all_goals exact Comp.same_trans hcw (hset _ (by decide))

/-- A command that acts at its tick. -/
theorem runAt_quiet (tk : Tick) {s w : State} {f : State → State} {cs : List Comp} {q : State → Prop}
    (hf : f (s.entered tk) = w) (hw : w.Quiet) (hk : KeepsBut cs (s.entered tk) w) (ha : .attn ∈ cs)
    (hq : ∀ t, KeepsBut settleComps w t → KeepsBut cs (s.entered tk) t → q t) :
    ∃ t, runAt tk s f = .next t ∧ q t := by
  subst hf
  exact runs_quiet (by simp) hw hk ha hq

end Sys2Proof.Machine
end

section
/-! Proofs of family 04_code_division_scanning: the scheduler's steps (O36). -/

namespace Sys2Proof.Machine

/-! ## Frames of single registers -/

theorem keepsBut_refl (cs : List Comp) (s : State) : KeepsBut cs s s := fun c _ => c.same_refl s

theorem keepsBut_scan (u : State) (x : Scan) : KeepsBut [.scan] u { u with scan := x } := by
  intro c hc
  cases c
  case scan => simp at hc
  all_goals rfl

theorem keepsBut_front (u : State) (x : Front) : KeepsBut [.front] u { u with front := x } := by
  intro c hc
  cases c
  case front => simp at hc
  all_goals rfl

theorem keepsBut_tel (u : State) (x : Tel) : KeepsBut [.tel] u { u with tel := x } := by
  intro c hc
  cases c
  case tel => simp at hc
  all_goals rfl

/-- The state in which a command acts differs in the instant and in the messages that have left. -/
theorem State.entered_eq (s : State) (tk : Tick) :
    s.entered tk = { s with time := (s.entered tk).time, casc := { s.casc with out := [] } } := by
  unfold State.entered State.atTick; split <;> rfl

/-! ## Alarm, slot and probe (04 R110 to R114) -/

theorem clearAlarm_due {m : List (Option Nat)} {s : State} (ha : s.scan.noiseAlarm = true) (hd : s.scan.alarmClearDue = true) :
    clearAlarm m s = tally 0x102 (d48 [(16, lowestMetric s m)])
      { s with scan := { s.scan with noiseAlarm := false, quietRun := 0, alarmClearDue := false } } := by
  simp [clearAlarm, ha, hd]

theorem applySlotChange_due {s : State} {slot cand : Nat} (h : s.scan.slotChange = some (slot, cand)) :
    applySlotChange s =
      { s with scan := { s.scan with activeSet := s.scan.activeSet.set slot cand, slotChange := none } } := by
  simp [applySlotChange, h]

/-- The candidate to probe while the gap's work is to be done and its probe has not run (04 R111). -/
theorem probePlan_due {s : State} {c : Nat} (hnone : s.scan.stage ≠ .none) (hstarted : s.scan.stage ≠ .started)
    (hprobed : s.scan.probed = false) (hgap : s.scan.gapDone = false) (hon : s.fnat 0x116 ≠ 0)
    (hc : probeCandidate s = some c) : probePlan s = some (c, periodOf s.part s.scan.latched c) := by
  simp [probePlan, hnone, hstarted, hprobed, hgap, hon, hc]

/-- The chips of the usable columns. -/
def State.probeChips (s : State) (charge : List (List ChipCharge)) : List (List Int) :=
  ((List.range s.front.senseCount).filter s.colOk).map (s.chipsOf charge)

/-- The scan after a probe of a candidate (04 R110, R111). -/
def State.probedScan (s : State) (charge : List (List ChipCharge)) (c : Nat) : Scan :=
  let sigma := probeNoise (periodOf s.part s.scan.latched c) s.len (s.probeChips charge)
  { s.scan with
    metrics := s.scan.metrics.set c (updateMetric (s.scan.metrics.getD c none) sigma), probed := true
    probeNext := (c + 1) % 16 }

theorem probeChips_ne_nil {s : State} {x : Nat} (charge : List (List ChipCharge)) (hx : x < s.front.senseCount)
    (hok : s.colOk x = true) : (s.probeChips charge).isEmpty = false := by
  have hmem : x ∈ (List.range s.front.senseCount).filter s.colOk := List.mem_filter.mpr ⟨List.mem_range.mpr hx, hok⟩
  have hchips : s.chipsOf charge x ∈ s.probeChips charge := List.mem_map_of_mem hmem
  exact List.isEmpty_eq_false_iff.mpr (List.ne_nil_of_mem hchips)

theorem tAdd_tAdd (t : Time) (a b : Nat) : tAdd (tAdd t a) b = tAdd t (a + b) := by
  simp only [tAdd, BitVec.ofNat_add, BitVec.add_assoc]

@[simp] theorem State.entered_probePlan (s : State) (tk : Tick) : probePlan (s.entered tk) = probePlan s := by
  rw [State.entered_eq]; rfl

@[simp] theorem State.entered_probeT (s : State) (tk : Tick) : (s.entered tk).probeT = s.probeT := by
  rw [State.entered_eq]; rfl

@[simp] theorem State.entered_probeChips (s : State) (tk : Tick) (charge : List (List ChipCharge)) :
    (s.entered tk).probeChips charge = s.probeChips charge := by
  rw [State.entered_eq]; rfl

@[simp] theorem State.entered_probedScan (s : State) (tk : Tick) (charge : List (List ChipCharge)) (c : Nat) :
    (s.entered tk).probedScan charge c = s.probedScan charge c := by
  rw [State.entered_eq]; rfl

/-- PROBE at the end of the probe's 32 chips, with a usable column. -/
theorem runs_probe (tk : Tick) {s : State} {charge : List (List ChipCharge)} {c x : Nat} (hc : s.calm)
    (hplan : probePlan s = some (c, periodOf s.part s.scan.latched c))
    (hx : x < s.front.senseCount) (hok : s.colOk x = true)
    (hr : reached (s.entered tk).now
      (tAdd s.scan.frameT (s.gapBegan + 2048 + 32 * periodOf s.part s.scan.latched c)) = true) :
    Runs (.probe tk charge) s fun t =>
      t.scan = s.probedScan charge c ∧ KeepsBut [.scan, .attn] (s.entered tk) t := by
  have hended : reached (s.entered tk).now (tAdd (s.entered tk).probeT (32 * periodOf s.part s.scan.latched c)) = true := by
    rw [State.entered_probeT, State.probeT, tAdd_tAdd]
    exact hr
  have hcols : ((s.entered tk).probeChips charge).isEmpty = false := by
    rw [State.entered_probeChips]
    exact probeChips_ne_nil charge hx hok
  rw [State.probeChips] at hcols
  rw [Runs, exec_probe, execProbe]
  refine runAt_quiet (w := { s.entered tk with scan := s.probedScan charge c }) tk ?_ ?_
    (keepsBut_mono (keepsBut_scan _ _) (by simp)) (by simp) fun t hw hk => ⟨hw .scan (by decide), hk⟩
  · rw [State.entered_probePlan, hplan]
    simp only [hended, hcols]
    rw [← State.entered_probedScan s tk, State.probedScan, State.entered_part, State.entered_scan]
    rfl
  · exact State.calm.quiet (by simpa [State.calm, State.probedScan] using hc)

/-! ## Line faults outside frames (03 R85 to R91) -/

/-- What the records of line faults change besides the lines, on a tile that is no member: no transition is set off. -/
structure LineEffect (u w : State) : Prop where
  keeps : KeepsBut [.front, .attn, .report, .pwr, .trk, .bench, .tally, .record] u w
  pwr : ∃ b, w.pwr = { u.pwr with wakeCheck := b }

theorem LineEffect.refl (u : State) : LineEffect u u := ⟨keepsBut_refl _ u, u.pwr.wakeCheck, rfl⟩

theorem LineEffect.trans {u v w : State} (h : LineEffect u v) (h' : LineEffect v w) : LineEffect u w := by
  refine ⟨keepsBut_trans h.keeps h'.keeps, ?_⟩
  obtain ⟨a, ha⟩ := h.pwr
  obtain ⟨b, hb⟩ := h'.pwr
  exact ⟨b, by rw [hb, ha]⟩

theorem LineEffect.casc {u w : State} (h : LineEffect u w) : w.casc = u.casc := h.keeps .casc (by decide)
theorem LineEffect.scan {u w : State} (h : LineEffect u w) : w.scan = u.scan := h.keeps .scan (by decide)

/-- A fold of such effects is one. -/
theorem LineEffect.foldl {α : Type} {f : State → α → State} {u : State}
    (hf : ∀ s a, LineEffect u s → LineEffect s (f s a)) (l : List α) {s : State} (hs : LineEffect u s) :
    LineEffect u (l.foldl f s) := by
  induction l generalizing s with
  | nil => exact hs
  | cons a r ih => exact ih (hs.trans (hf s a hs))

theorem lineEffect_front (u : State) (x : Front) : LineEffect u { u with front := x } :=
  ⟨keepsBut_mono (keepsBut_front u x) (by decide), u.pwr.wakeCheck, rfl⟩

theorem lineEffect_tally (code data : Nat) (u : State) : LineEffect u (tally code data u) :=
  ⟨keepsBut_mono (tally_keepsBut code data u) (by decide), u.pwr.wakeCheck, tally_pwr _ _ _⟩

theorem lineEffect_writeReport (bs : List Byte) (u : State) : LineEffect u (writeReport bs .plain u) := by
  refine ⟨fun c hc => ?_, ?_⟩
  · cases c
    case front | attn | report | pwr | trk | bench | tally | record => simp at hc
    all_goals simp [Comp.same]
  · exact wakeCheckPass_pwr _

/-- A record is written, queued, or discarded with a Tally record (11 R343). -/
theorem lineEffect_faultRecord (bs : List Byte) {u : State} (hm : u.casc.role ≠ .member) :
    LineEffect u (faultRecord bs u) := by
  unfold faultRecord
  rw [if_neg hm]
  split
  · exact lineEffect_writeReport bs u
  · split
    · refine ⟨fun c hc => ?_, u.pwr.wakeCheck, rfl⟩
      cases c
      case front | attn | report | pwr | trk | bench | tally | record => simp at hc
      all_goals rfl
    · exact lineEffect_tally _ _ u

theorem lineEffect_lineEvent (cause w partner : Nat) {u : State} (hm : u.casc.role ≠ .member) :
    LineEffect u (lineEvent cause w partner u) :=
  lineEffect_faultRecord _ hm


/-- Lines are set, then their record and their Tally event follow (03 R91). -/
theorem lineEffect_recorded (cause w partner code data : Nat) {u v : State} (hm : u.casc.role ≠ .member)
    (h : LineEffect u v) : LineEffect u (tally code data (lineEvent cause w partner v)) := by
  have hv : v.casc.role ≠ .member := by rwa [h.casc]
  exact (h.trans (lineEffect_lineEvent cause w partner hv)).trans (lineEffect_tally _ _ _)

theorem lineEffect_excludeLine (cause w partner : Nat) {u : State} (hm : u.casc.role ≠ .member) :
    LineEffect u (excludeLine cause w partner u) := by
  unfold excludeLine
  apply lineEffect_recorded _ _ _ _ _ hm
  dsimp only
  split
  · exact (lineEffect_front u _).trans (lineEffect_front _ _)
  · exact lineEffect_front u _

theorem lineEffect_flushLine (n w : Nat) {u : State} (hm : u.casc.role ≠ .member) : LineEffect u (flushLine n w u) := by
  induction n generalizing u with
  | zero => exact LineEffect.refl u
  | succ n ih =>
    unfold flushLine
    split
    next c p _ =>
      have h := lineEffect_excludeLine c w p hm
      exact h.trans (ih (by rwa [h.casc]))
    · exact LineEffect.refl u

theorem lineEffect_flushFaults {u : State} (hm : u.casc.role ≠ .member) : LineEffect u (flushFaults u) :=
  LineEffect.foldl (fun s w hs => lineEffect_flushLine _ w (by rwa [hs.casc])) _ (LineEffect.refl u)

theorem lineEffect_testLines (full : Bool) (tests : List LineTest) (u : State) : LineEffect u (testLines full tests u) :=
  LineEffect.foldl (fun s _ _ => lineEffect_front s _) _ (LineEffect.refl u)

theorem lineEffect_fullCheck (tests : List LineTest) {u : State} (hm : u.casc.role ≠ .member) :
    LineEffect u (fullCheck tests u) := by
  have htests := lineEffect_testLines true tests u
  exact (htests.trans (lineEffect_flushFaults (by rwa [htests.casc]))).trans (lineEffect_front _ _)

/-! ## The full line check of one line with no line known to be faulty (03 R85 to R87) -/

theorem tabGet_tabPut {α : Type} (d : Nat → α) (t : List (Nat × α)) (k : Nat) (a : α) : tabGet d (tabPut t k a) k = a := by
  induction t with
  | nil => simp [tabPut, tabGet]
  | cons e r ih =>
    unfold tabPut
    split
    · simp [tabGet]
    · split
      · simp [tabGet]
      · simp [tabGet, *]

theorem tabGet_tabDel {α : Type} (d : Nat → α) (t : List (Nat × α)) (k : Nat) : tabGet d (tabDel t k) k = d k := by
  induction t with
  | nil => rfl
  | cons e r ih =>
    by_cases h : e.1 = k
    · simpa [tabDel, h] using ih
    · have hne : ¬ k = e.1 := fun he => h he.symm
      simpa [tabDel, h, tabGet, hne] using ih

theorem tabGet_tabSet {α : Type} [DecidableEq α] (d : Nat → α) (t : List (Nat × α)) (k : Nat) (a : α) :
    tabGet d (tabSet d t k a) k = a := by
  unfold tabSet
  split
  next h => rw [tabGet_tabDel, h]
  · exact tabGet_tabPut d t k a

@[simp] theorem line_setLine (s : State) (w : Nat) (l : LineSt) : (s.setLine w l).line w = l := tabGet_tabSet _ _ _ _

/-- The state of a line is a matter of the front end alone. -/
theorem line_congr {u v : State} (h : v.front = u.front) (w : Nat) : v.line w = u.line w := by
  simp only [State.line, h]

/-- A line that was healthy after tests A and B of the full check, which confirms at once. -/
def LineSt.tested (a b : Nat) : LineSt :=
  { LineSt.healthy with
    aRun := if a < 450 then 2 else 0
    bRun := if 1350 < b then 2 else 0
    passes := if 450 ≤ a ∧ b ≤ 1350 then 1 else 0 }

theorem tested_ne_healthy (a b : Nat) : LineSt.tested a b ≠ LineSt.healthy := by
  intro h
  obtain ⟨ha, hb, hp⟩ : (LineSt.tested a b).aRun = 0 ∧ (LineSt.tested a b).bRun = 0 ∧ (LineSt.tested a b).passes = 0 := by
    rw [h]; exact ⟨rfl, rfl, rfl⟩
  simp only [LineSt.tested, LineSt.healthy] at ha hb hp
  split at ha <;> split at hb <;> split at hp <;> omega

theorem testLine_healthy {s : State} {w : Nat} (a b : Nat) (h : s.line w = .healthy) :
    testLine true ⟨w, a, b, []⟩ s = s.setLine w (.tested a b) := by
  have hgood : testGood ⟨w, a, b, []⟩ s = decide (450 ≤ a ∧ b ≤ 1350) := by
    simp [testGood, testAFails, testBFails, testCPartners, ← decide_not]
  simp only [testLine, h, hgood]
  simp [testCPartners, testAFails, testBFails, LineSt.healthy, LineSt.tested]

/-- The fault that one full check of a healthy line confirms (03 Table 3.7). -/
def testedFault (a b : Nat) : Option (Nat × Nat) :=
  if a < 450 then some (1, 0xFFFF) else if 1350 < b then some (2, 0xFFFF) else none

theorem faultDue_tested {s : State} {w a b : Nat} (h : s.line w = .tested a b) : faultDue s w = testedFault a b := by
  simp only [faultDue, shortDue, h, testedFault]
  by_cases ha : a < 450
  · simp [LineSt.unjudged, LineSt.tested, LineSt.healthy, ha]
  · by_cases hb : 1350 < b
    · simp [LineSt.unjudged, LineSt.tested, LineSt.healthy, ha, hb]
    · simp [LineSt.unjudged, LineSt.tested, LineSt.healthy, ha, hb]

/-- Outside frames a fault but a short excludes its line at once. -/
theorem excludeLine_cause {s : State} (c w p : Nat) (hmid : s.midFrame = false) (hc : c ≠ 3) :
    ((excludeLine c w p s).line w).cause = c := by
  have hl : ∀ (v : State) (code data : Nat), (tally code data (lineEvent c w p v)).line w = v.line w := fun v code data =>
    line_congr (by simp [lineEvent]) w
  unfold excludeLine
  dsimp only
  rw [if_neg fun h => hc h.1, hl, line_setLine]
  simp [hmid]


/-- It is no short. -/
theorem testedFault_ne_short {a b c p : Nat} (h : testedFault a b = some (c, p)) : c ≠ 3 := by
  unfold testedFault at h
  split at h
  · simp only [Option.some.injEq, Prod.mk.injEq] at h; omega
  · split at h
    · simp only [Option.some.injEq, Prod.mk.injEq] at h; omega
    · cases h

/-- The line's cause once its one check has been judged. -/
theorem flushLine_tested {s : State} {w a b : Nat} (hmid : s.midFrame = false) (h : s.line w = .tested a b) :
    ((flushLine 1 w s).line w).cause = ((testedFault a b).map (·.1)).getD 0 := by
  rw [flushLine, faultDue_tested h]
  match hf : testedFault a b with
  | some (c, p) => exact excludeLine_cause c w p hmid (testedFault_ne_short hf)
  | none => exact congrArg LineSt.cause h

theorem fullCheck_single {s : State} {w : Nat} (a b : Nat) (hmid : s.midFrame = false) (hl : s.front.lines = [])
    (hw : w ∈ s.usedLines) :
    ((fullCheck [⟨w, a, b, []⟩] s).line w).cause = ((testedFault a b).map (·.1)).getD 0 := by
  have htest : testLines true [⟨w, a, b, []⟩] s = s.setLine w (.tested a b) := by
    rw [← testLine_healthy a b (by rw [State.line, hl]; rfl)]
    simp [testLines, hw]
  have hlines : (s.setLine w (.tested a b)).front.lines = [(w, .tested a b)] := by
    simp [State.setLine, hl, tabSet, tabPut, tested_ne_healthy]
  have hflush : flushFaults (s.setLine w (.tested a b)) = flushLine 1 w (s.setLine w (.tested a b)) := by
    rw [flushFaults, hlines]
    simp only [List.map_cons, List.map_nil, List.foldl_cons, List.foldl_nil, line_setLine]
    rfl
  rw [fullCheck, htest, hflush]
  exact flushLine_tested hmid (line_setLine _ _ _)

/-- FULL_LINE_CHECK_COMPLETE while scanning is stopped. -/
theorem runs_fullLineCheck (tk : Tick) (tests : List LineTest) {s : State} (hc : s.calm) (hchecked : s.front.lineChecked = false)
    (hboot : s.boot.phase = .done) (hlink : s.link.mode ≠ 2) (hpd1 : s.pwr.pd1 = true) (hm : s.casc.role ≠ .member)
    (hp : s.scan.phase = .stopped) :
    Runs (.fullLineCheckComplete tk tests) s fun t => t.front = (fullCheck tests (s.entered tk)).front ∧
      KeepsBut (.front :: recordComps) (s.entered tk) t := by
  have hm' : (s.entered tk).casc.role ≠ .member := by simpa using hm
  have heffect := lineEffect_fullCheck tests hm'
  have hready : reportReady (fullCheck tests (s.entered tk)) = fullCheck tests (s.entered tk) :=
    if_neg (by rw [heffect.casc]; exact hm')
  have hlink' : s.link.mode ≠ 2#2 := hlink
  rw [Runs, exec_fullLineCheckComplete, execFullLineCheckComplete]
  refine runAt_quiet tk (w := fullCheck tests (s.entered tk)) ?_ ?_ (keepsBut_mono heffect.keeps (by decide)) (by decide)
    fun t hw hk => ⟨hw .front (by decide), hk⟩
  · simp [hchecked, hboot, hlink', hpd1, hp, hready]
  · exact (State.calm.quiet (by simpa using hc)).congr heffect.scan heffect.pwr heffect.casc

/-! ## The detection self pass (03 R73, R83) -/

/-- A start in progress goes on: neither a reply that waits for its end, nor an entry, nor a new enumeration ends it. -/
theorem startEnds_calm {s : State} (hc : s.calm) (ho : s.bench.owed = none) : startEnds s = false := by
  obtain ⟨-, -, hentry, -, -, -, hredo⟩ := hc
  simp [startEnds, ho, hentry, hredo]

theorem cascadeReady_standalone {s : State} (h : s.casc.role = .standalone) : cascadeReady s = true := by
  simp [cascadeReady, h]

/-- The decision of one axis in `detectOrders`: whether its order is reversed, and the state with its Tally event. -/
def axisOrder (axis order sig : Nat) (e : Option (List Int)) (m : List Int) (base : Nat) (rev : Bool) (s : State) :
    Bool × State :=
  if s.pnat order ≠ 2 then (s.pnat order == 1, s)
  else match expected e (s.pnat sig) m.length with
  | none => (rev, s)
  | some e =>
    let r := orient e m (fun p => !(s.line (base + p)).out) rev
    (r.1, orientEvent axis r.1 r.2 s)

/-- The measurements of an axis in physical order. -/
def selfRow (f : Nat) (l : List SelfMeas) (n : Nat) : List Int := (l.take n).map fun m => ((selfValue f m : Nat) : Int)

theorem detectOrders_eq (ref : Option (List Byte)) (drive sense : List SelfMeas) (s : State) :
    detectOrders ref drive sense s =
      let v := s.draw.2
      let d := axisOrder 0 0xC02 0xC04 (ref.map fun i => (refSelf i).1) (selfRow s.draw.1 drive v.front.driveCount) 0
        v.front.driveRev v
      let n := axisOrder 1 0xC03 0xC05 (ref.map fun i => (refSelf i).2) (selfRow s.draw.1 sense d.2.front.senseCount) 0x8000
        d.2.front.senseRev d.2
      { n.2 with front := { n.2.front with driveRev := d.1, senseRev := n.1 } } := rfl

theorem orientEvent_keepsBut (axis : Nat) (rev : Bool) (r : Option (Bool × Int × Int)) (s : State) :
    KeepsBut tallyComps s (orientEvent axis rev r s) := by
  unfold orientEvent
  split
  · exact keepsBut_refl _ s
  · exact tally_keepsBut _ _ s

theorem axisOrder_keepsBut (axis order sig : Nat) (e : Option (List Int)) (m : List Int) (base : Nat) (rev : Bool) (s : State) :
    KeepsBut tallyComps s (axisOrder axis order sig e m base rev s).2 := by
  unfold axisOrder
  split
  · exact keepsBut_refl _ s
  · split
    · exact keepsBut_refl _ s
    · exact orientEvent_keepsBut _ _ _ s

/-- An axis that is not automatic has its parameter's order (03 R83). -/
theorem axisOrder_fixed (axis sig : Nat) {order : Nat} (e : Option (List Int)) (m : List Int) (base : Nat) (rev : Bool)
    {s : State} (h : s.pnat order ≠ 2) : (axisOrder axis order sig e m base rev s).1 = (s.pnat order == 1) := by
  rw [axisOrder, if_pos h]

theorem keepsBut_draw (s : State) : KeepsBut [.freeIdx] s s.draw.2 := by
  intro c hc
  cases c
  case freeIdx => simp at hc
  all_goals rfl

theorem pnat_congr {u v : State} (hpart : v.part = u.part) (hparams : v.params = u.params) (id : Nat) :
    v.pnat id = u.pnat id := by
  simp only [State.pnat, State.param, hpart, hparams]

/-- The detection touches the orders, Tally and the free values alone, and an order that a parameter fixes is that one. -/
theorem detectOrders_effect (ref : Option (List Byte)) (drive sense : List SelfMeas) (s : State) :
    KeepsBut ([.front, .freeIdx] ++ tallyComps) s (detectOrders ref drive sense s) ∧
      (s.pnat 0xC02 ≠ 2 → (detectOrders ref drive sense s).front.driveRev = (s.pnat 0xC02 == 1)) ∧
      (s.pnat 0xC03 ≠ 2 → (detectOrders ref drive sense s).front.senseRev = (s.pnat 0xC03 == 1)) := by
  rw [detectOrders_eq]
  dsimp only
  generalize hd : axisOrder 0 _ _ _ _ _ _ s.draw.2 = d
  generalize hn : axisOrder 1 _ _ _ _ _ _ d.2 = n
  have hdraw : KeepsBut tallyComps s.draw.2 d.2 := hd ▸ axisOrder_keepsBut _ _ _ _ _ _ _ _
  have hkn : KeepsBut tallyComps d.2 n.2 := hn ▸ axisOrder_keepsBut _ _ _ _ _ _ _ _
  have hkd : KeepsBut ([.front, .freeIdx] ++ tallyComps) s d.2 :=
    keepsBut_trans (keepsBut_mono (keepsBut_draw s) (by decide)) (keepsBut_mono hdraw (by decide))
  have hp : ∀ id, d.2.pnat id = s.pnat id := pnat_congr (hkd .part (by decide)) (hkd .params (by decide))
  refine ⟨keepsBut_trans (keepsBut_trans hkd (keepsBut_mono hkn (by decide))) (keepsBut_mono (keepsBut_front _ _) (by decide)),
    fun h => ?_, fun h => ?_⟩
  · show d.1 = _
    rw [← hd]
    exact axisOrder_fixed _ _ _ _ _ _ h
  · show n.1 = _
    rw [← hn, ← hp]
    exact axisOrder_fixed _ _ _ _ _ _ (by rwa [hp])

/-- The reference image that the detection compares with, when one is usable. -/
def State.detectRef (s : State) : Option (List Byte) :=
  match selectRef s (s.pnat 0x206) with | .ok n => some (s.refBytes n) | .error _ => none

/-- The start sequence goes on after the detection pass. -/
def State.detected (s : State) : State := { s with scan := { s.scan with phase := .waitFrame } }

/-- DETECTION_SELF_PASS of effect `v` on the orders or the records. -/
theorem runs_detection (tk : Tick) {drive sense : List SelfMeas} {dev : Nat} {s v : State} {cs : List Comp} (hc : s.calm)
    (hp : s.scan.phase = .waitDetect) (hr : s.casc.role = .standalone) (ho : s.bench.owed = none)
    (hv : (if guardBad dev then guardEvent dev (s.entered tk)
      else detectOrders (s.entered tk).detectRef drive sense (s.entered tk)) = v)
    (hk : KeepsBut cs (s.entered tk) v) (hpwr : ∃ b, v.pwr = { (s.entered tk).pwr with wakeCheck := b })
    (hcs : .scan ∉ cs ∧ v.casc = (s.entered tk).casc) (ha : .attn ∈ cs) :
    Runs (.detectionSelfPass tk drive ⟨sense, dev⟩) s fun t =>
      t.scan = { s.scan with phase := .waitFrame } ∧ KeepsBut settleComps v.detected t ∧
        KeepsBut (.scan :: cs) (s.entered tk) t := by
  obtain ⟨hscan, hcasc⟩ := hcs
  have hvs : v.scan = s.scan := (show v.scan = (s.entered tk).scan from hk .scan hscan).trans (by simp)
  have hquiet : v.detected.Quiet := by
    have hcalm : ({ s.entered tk with scan := v.detected.scan } : State).calm := by
      obtain ⟨-, hrest⟩ := hc
      simpa [State.calm, State.detected, hvs] using hrest
    exact hcalm.quiet.congr rfl hpwr hcasc
  rw [Runs, exec_detectionSelfPass, execDetectionSelfPass]
  refine runAt_quiet tk (w := v.detected) ?_ hquiet
    (keepsBut_trans (keepsBut_mono hk (by simp +contextual)) (keepsBut_mono (keepsBut_scan v _) (by simp)))
    (by simp [ha]) fun t hw hkt => ⟨?_, hw, hkt⟩
  · rw [if_pos ⟨by simpa using hp, cascadeReady_standalone (by simpa using hr)⟩,
      startEnds_calm (by simpa using hc) (by simpa using ho), ← hv]
    rfl
  · have hts : t.scan = v.detected.scan := hw .scan (by decide)
    rw [hts, State.detected, hvs]

/-- A record of 16 bytes that is written at once (11 R343). -/
theorem faultRecord_now {bs : List Byte} {s : State} (h : recordsNow s) (hlen : bs.length = 16) :
    faultRecord bs s = writeReport bs .plain s := by
  obtain ⟨hm, hqueue, hfits⟩ := h
  rw [faultRecord, if_neg hm, if_pos (by simp [hqueue, hlen, hfits])]

/-- The fault record of an invalid self pass: cause 10, with no line (03 R73, Table 3.8). -/
def guardBytes (s : State) : List Byte :=
  [8, 3, 10] ++ leBytes 1 s.tileNo ++ List.replicate 8 0xFF ++ leBytes 4 s.low32

theorem lineRecord_guard {s : State} (h : recordsNow s) :
    lineRecord 10 0xFFFF 0xFFFF 0xFFFF 0xFFFF s = writeReport (guardBytes s) .plain s := by
  have hcause : leBytes 1 10 = [10] := by decide
  have hnone : leBytes 2 0xFFFF = [0xFF, 0xFF] := by decide
  have hlen : (guardBytes s).length = 16 := by simp [guardBytes]
  rw [← faultRecord_now h hlen, lineRecord, hcause, hnone]
  simp [guardBytes, List.replicate]

theorem guardEvent_now {dev : Nat} {s : State} (h : recordsNow s) :
    guardEvent dev s = tally 0x30B (d48 [(16, dev)]) (writeReport (guardBytes s) .plain s) := by
  rw [guardEvent, lineRecord_guard h]

theorem writeReport_sameForTally (bs : List Byte) (m : RecMark) (s : State) : SameForTally s (writeReport bs m s) := by
  obtain ⟨b, hb⟩ := wakeCheckPass_pwr { s with report := s.report.put s.reportSize ⟨bs, m⟩ }
  refine ⟨by simp, by simp, by simp, by simp, ?_, by simp, by simp⟩
  rw [writeReport, hb]

/-- A register that is as before leaves a frame. -/
theorem KeepsBut.same_front {cs : List Comp} {u w : State} (hk : KeepsBut (.front :: cs) u w) (hf : w.front = u.front) :
    KeepsBut cs u w := by
  intro c hc
  by_cases h : c = .front
  · subst h; exact hf
  · exact hk c (by simp [h, hc])

/-- What an invalid self pass leaves in the report ring, in Tally and elsewhere. -/
theorem guardEvent_effect {dev : Nat} {s : State} (h : recordsNow s) :
    (guardEvent dev s).report = s.reportPlus (guardBytes s) ∧
      (guardEvent dev s).tally = (tally 0x30B (d48 [(16, dev)]) s).tally ∧ LineEffect s (guardEvent dev s) ∧
      (guardEvent dev s).front = s.front := by
  rw [guardEvent_now h]
  refine ⟨?_, tally_same _ _ (writeReport_sameForTally _ _ s),
    (lineEffect_writeReport _ s).trans (lineEffect_tally _ _ _), by simp⟩
  rw [tally_report, writeReport]
  simp [State.reportPlus]

@[simp] theorem State.entered_reportFits (s : State) (tk : Tick) (n : Nat) :
    (s.entered tk).reportFits n = s.reportFits n := by
  rw [State.entered_eq]; rfl

@[simp] theorem State.entered_recordsNow (s : State) (tk : Tick) : recordsNow (s.entered tk) ↔ recordsNow s := by
  simp [recordsNow]

@[simp] theorem State.entered_tileNo (s : State) (tk : Tick) : (s.entered tk).tileNo = s.tileNo := by
  simp [State.tileNo]

/-! ## A slot that finds its frame's records unfinished (02 R48, R58) -/

/-- One more slot of ACTIVE, lost by an overrun (17 R493). -/
theorem countSlot_overrun (s : State) : countSlot true false s = { s with
    tel := if s.pwr.st = 3 then { s.tel with
      scheduled := satAt 0xFFFFFFFF (s.tel.scheduled + 1), lostOverrun := satAt 0xFFFFFFFF (s.tel.lostOverrun + 1)
      today := (s.tel.today.1 + 1, s.tel.today.2 + 1) } else s.tel } := by
  unfold countSlot
  by_cases h : s.pwr.st = 3
  · rw [if_neg (not_not_intro h), if_pos h]
    rfl
  · rw [if_pos h, if_neg h]

/-- FRAME_SLOT_SKIP once the next slot has come. -/
theorem runs_frameSlotSkip (tk : Tick) {s : State} (hc : s.calm) (hp : s.scan.phase = .frames)
    (hst : s.scan.stage = .decoded ∨ s.scan.stage = .combined ∨ s.scan.stage = .tracked)
    (hr : reached (s.entered tk).now (tAdd s.scan.slotT s.scan.frameTicks) = true) :
    Runs (.frameSlotSkip tk) s fun t =>
      t.scan = { s.scan with slotT := tAdd s.scan.slotT s.scan.frameTicks } ∧
      t.tel = (countSlot true false s).tel ∧ KeepsBut [.scan, .tel, .attn] (s.entered tk) t := by
  have hlate : (s.scan.stage == .decoded || s.scan.stage == .combined || s.scan.stage == .tracked) = true := by
    simpa [or_assoc] using hst
  rw [Runs, exec_frameSlotSkip, execFrameSlotSkip]
  refine runAt_quiet tk ((if_pos (by simpa [hp, hlate] using hr)).trans (countSlot_overrun _)) ?_
    (keepsBut_trans (keepsBut_mono (keepsBut_scan _ _) (by decide)) (keepsBut_mono (keepsBut_tel _ _) (by decide)))
    (by decide) fun t hw hk => ⟨?_, ?_, hk⟩
  · exact State.calm.quiet (by simpa [State.calm] using hc)
  · exact (hw .scan (by decide)).trans (by simp)
  · rw [countSlot_overrun]
    exact (hw .tel (by decide)).trans (by simp)

/-- DETECTION_SELF_PASS with a pass that R73 makes invalid. -/
theorem runs_detection_invalid (tk : Tick) {drive sense : List SelfMeas} {dev : Nat} {s : State} (hc : s.calm)
    (hp : s.scan.phase = .waitDetect) (hr : s.casc.role = .standalone) (ho : s.bench.owed = none) (hdev : 50 < dev)
    (hnow : recordsNow s) :
    Runs (.detectionSelfPass tk drive ⟨sense, dev⟩) s fun t =>
      t.scan = { s.scan with phase := .waitFrame } ∧
      t.report = (s.entered tk).reportPlus (guardBytes (s.entered tk)) ∧
      t.tally = (tally 0x30B (d48 [(16, dev)]) (s.entered tk)).tally ∧
      KeepsBut (.scan :: recordComps) (s.entered tk) t := by
  have hnow' : recordsNow (s.entered tk) := by simpa using hnow
  obtain ⟨hreport, htally, heffect, hfront⟩ := guardEvent_effect (dev := dev) hnow'
  obtain ⟨t, ht, hscan, hw, hk⟩ := runs_detection (drive := drive) (sense := sense) tk hc hp hr ho
    (if_pos (by simpa [guardBad] using hdev)) (heffect.keeps.same_front hfront) heffect.pwr ⟨by decide, heffect.casc⟩
    (by decide)
  exact ⟨t, ht, hscan, (hw .report (by decide)).trans hreport, (hw .tally (by decide)).trans htally,
    keepsBut_mono hk (by decide)⟩

/-- Settles O36: each step's effect is the one stated, and settling leaves it. -/
theorem schedulerSteps : Obligations.SchedulerSteps := by
  unfold Obligations.SchedulerSteps
  intro s tk hc u
  have hu : u = s.entered tk := rfl
  clear_value u
  subst hu
  refine ⟨fun ha hd => ?_, fun slot cand hch hst hmid => ?_,
    fun charge c x hnone hstarted hprobed hgap hon hcand hx hok hr => ?_,
    fun tests hchecked hboot hlink hpd1 hm hp => ?_,
    fun drive sense dev hp hrole howed => ⟨fun hdev => ?_, fun hdev hnow => ?_⟩,
    fun hp hst => ?_⟩
  · rw [Runs, exec_noiseAlarmClear, execNoiseAlarmClear]
    refine runAt_quiet tk (clearAlarm_due (by simpa using ha) (by simpa using hd)) ?_
      (keepsBut_trans (keepsBut_mono (keepsBut_scan _ _) (by decide)) (keepsBut_mono (tally_keepsBut _ _ _) (by decide)))
      (by decide) fun t hw hk => ⟨?_, ?_, hk⟩
    · exact State.calm.quiet (by simpa [State.calm] using hc)
    · exact (hw .scan (by decide)).trans (by simp)
    · exact (hw .tally (by decide)).trans (tally_same _ _ ⟨rfl, rfl, rfl, rfl, rfl, rfl, rfl⟩)
  · rw [Runs, exec_activeSlotChange, execActiveSlotChange]
    refine runAt_quiet tk ((if_pos (by simpa [hmid] using hst)).trans (applySlotChange_due (by simpa using hch))) ?_
      (keepsBut_mono (keepsBut_scan _ _) (by decide)) (by decide) fun t hw hk => ⟨?_, hk⟩
    · exact State.calm.quiet (by simpa [State.calm] using hc)
    · exact (hw .scan (by decide)).trans (by simp)
  · exact runs_probe tk hc (probePlan_due hnone hstarted hprobed hgap hon hcand) hx hok hr
  · obtain ⟨t, ht, hfront, hk⟩ := runs_fullLineCheck tk tests hc hchecked hboot hlink hpd1 hm hp
    refine ⟨t, ht, by rw [hfront]; rfl, hk, fun w a b hl hw htests => ?_⟩
    have hmid : (s.entered tk).midFrame = false := by simp [State.midFrame, hp]
    have hcause := fullCheck_single (w := w) a b hmid (by simpa using hl) (by simpa [State.usedLines] using hw)
    rw [line_congr hfront, htests, hcause]
    refine ⟨fun ha => ?_, fun ha hb => ?_, fun ha hb => ?_⟩
    · simp [testedFault, ha]
    · simp [testedFault, Nat.not_lt.mpr ha, hb]
    · simp [testedFault, Nat.not_lt.mpr ha, Nat.not_lt.mpr hb]
  · obtain ⟨hkeeps, hdrive, hsense⟩ := detectOrders_effect (s.entered tk).detectRef drive sense (s.entered tk)
    obtain ⟨t, ht, hscan, hw, hk⟩ := runs_detection tk (dev := dev) (drive := drive) (sense := sense) hc hp hrole howed
      (if_neg (by simpa [guardBad] using hdev)) hkeeps ⟨_, hkeeps .pwr (by decide)⟩
      ⟨by decide, hkeeps .casc (by decide)⟩ (by decide)
    have hfront : t.front = (detectOrders (s.entered tk).detectRef drive sense (s.entered tk)).front :=
      hw .front (by decide)
    have hpnat : ∀ id, (s.entered tk).pnat id = s.pnat id := pnat_congr (by simp) (by simp)
    rw [hpnat] at hdrive hsense
    exact ⟨t, ht, hscan, fun h => hfront ▸ hdrive h, fun h => hfront ▸ hsense h, keepsBut_mono hk (by decide)⟩
  · have hrun := runs_detection_invalid (drive := drive) (sense := sense) tk hc hp hrole howed hdev hnow
    rwa [guardBytes, State.entered_tileNo] at hrun
  · intro next hr
    have hrun := runs_frameSlotSkip tk hc hp hst hr
    rwa [countSlot_overrun] at hrun

end Sys2Proof.Machine
end

section
/-! Proofs of family 04_code_division_scanning: the frame start (O37). -/

namespace Sys2Proof.Machine

/-- A standalone tile that SCAN_START has brought to its first frame, with drive line 0 forced out by the host while scanning
was stopped. -/
def firstFrameForcesLine : State :=
  { State.reset with
    boot := { State.reset.boot with phase := .done, heldT := none, nodeInit := true }
    pwr := { State.reset.pwr with pd1 := true, pd2 := true, pd4 := true }
    link := { State.reset.link with busy := false, mode := 0 }
    front := { State.reset.front with lineChecked := true, forcedBy := 1 }
    scan := { State.reset.scan with phase := .waitFrame, startDetect := true }
    bench := { State.reset.bench with outstanding := [⟨3, 0x10, 0, [0], 0⟩] }
    params := [(0xC07, 1 :: List.replicate 23 0)] }

/-- The frame start writes two records: that of the forced line (03 R90), then SCAN_START's final reply. -/
theorem firstFrameForcesLine_reports {t : State} (ht : exec (.frameStart 0) firstFrameForcesLine = .next t) :
    t.report.items.length = 2 := by
  rw [← Host.Outcome.next.inj ht]
  decide +kernel

/-- Refutes O37: the statement has SCAN_START's final reply be all that the frame start adds to the report ring. A line that
the host has forced out before the start is recorded at this frame start too, with a fault record ahead of the reply. -/
theorem not_aFrameStarts : ¬ Obligations.AFrameStarts := by
  unfold Obligations.AFrameStarts
  intro h
  obtain ⟨t, ht, -, -, -, -, -, -, -, -, -, -, -, -, -, -, -, -, -, -, -, hreply⟩ :=
    h firstFrameForcesLine 0 0 rfl rfl rfl rfl rfl rfl rfl (by decide) none (fun _ => rfl) (fun _ => rfl)
  obtain ⟨-, hreport⟩ := hreply ⟨3, 0x10, 0, [0], 0⟩ (by decide) rfl rfl (by unfold State.atTurn; decide)
    (by unfold writesNow replyFits; decide)
  have htwo := firstFrameForcesLine_reports ht
  have hone : t.report.items.length = 1 := by rw [hreport]; rfl
  omega

end Sys2Proof.Machine
end

section
/-! Proofs of family 04_code_division_scanning: the immediate commands of transitions (O28). -/

namespace Sys2Proof.Machine

/-! ## Commands that answer with a sole reply -/

theorem State.calm.next {s : State} (h : s.calm) : s.pwr.next = none := by
  obtain ⟨-, -, -, hnext, -⟩ := h
  exact hnext

theorem keepsBut_pwr (u : State) (x : Power) : KeepsBut [.pwr] u { u with pwr := x } := by
  intro c hc
  cases c
  case pwr => simp at hc
  all_goals rfl

theorem keepsBut_bench (u : State) (x : Bench) : KeepsBut [.bench] u { u with bench := x } := by
  intro c hc
  cases c
  case bench => simp at hc
  all_goals rfl

theorem keepsBut_bus (u : State) (x : Bus) : KeepsBut [.bus] u { u with bus := x } := by
  intro c hc
  cases c
  case bus => simp at hc
  all_goals rfl

/-- A reply that is not final and is neither HOST_SLEEP's nor RESET's ends a wake check, and no more, in the power registers. -/
theorem writeReply_pwr {r : Reply} (s : State) (hk : r.kind ≠ 2) (h : r.opcode ≠ 6 ∨ r.status ≠ 0)
    (hm : ∀ k, r.mark ≠ .resetReply k) : ∃ b, (writeReply r s).pwr = { s.pwr with wakeCheck := b } := by
  have hdrop : dropOutstanding r s = s := by rw [dropOutstanding, if_neg hk]
  simp only [writeReply, hdrop]
  rw [replyWritten_plain _ _ h hm, raise_pwr]
  exact wakeCheckPass_pwr _

/-- What a packet's command finds unchanged, and what its sole reply of `n` data bytes needs to be written at once. -/
structure RepliesNow (v : State) (k n : Nat) : Prop where
  role : v.casc.role ≠ .member
  held : v.bench.held = []
  outstanding : v.bench.outstanding.length = k
  fits : replyFits v n

theorem repliesNow_taken {s : State} {op n k : Nat} {p : Packet} (tk : Tick) (h : Serves s op p n) (hc : s.calm)
    (hf : replyFits (s.taken tk n) k) : RepliesNow (s.taken tk n) s.bench.outstanding.length k := by
  obtain ⟨hrole, hheld, -, hout, -⟩ := taken_facts tk h hc
  exact ⟨hrole, hheld, congrArg List.length hout, hf⟩

/-- A reply that is not final, that is written at once. -/
theorem postReply_now {v : State} {k : Nat} {r : Reply} (h : RepliesNow v k r.data.length) (hk : r.kind ≠ 2) :
    postReply r v = writeReply r v ∧ (writeReply r v).report = v.reportWith r k := by
  refine ⟨postReply_fits _ _ h.role h.held h.fits.2, ?_⟩
  rw [writeReply_report _ _ hk, h.outstanding]
  rfl

/-- A sole reply that is written at once. -/
theorem sole_now {v : State} {k : Nat} {data : List Byte} (c : Call) (st : Nat) (h : RepliesNow v k data.length) :
    sole c st data v = writeReply ⟨c.tag, c.opcode, st, 0, c.seq, data, .plain⟩ v := by
  have hlen := h.fits.1
  rw [sole, if_neg (by omega), (postReply_now h (by simp)).1]

/-- What a change of other registers leaves of it. -/
theorem RepliesNow.congr {v w : State} {k n : Nat} {cs : List Comp} (h : RepliesNow v k n) (hk : KeepsBut cs v w)
    (hcs : ∀ c ∈ [Comp.part, .casc, .bench, .report, .boot], c ∉ cs) : RepliesNow w k n := by
  have hpart : w.part = v.part := hk .part (hcs _ (by simp))
  have hcasc : w.casc = v.casc := hk .casc (hcs _ (by simp))
  have hbench : w.bench = v.bench := hk .bench (hcs _ (by simp))
  have hreport : w.report = v.report := hk .report (hcs _ (by simp))
  have hboot : w.boot = v.boot := hk .boot (hcs _ (by simp))
  obtain ⟨hrole, hheld, hout, hfits⟩ := h
  obtain ⟨hlen, hroom⟩ := hfits
  refine ⟨by rwa [hcasc], by rwa [hbench], by rwa [hbench], hlen, ?_⟩
  rw [State.reportFits, State.reportSize, hpart, hreport, hboot]
  exact hroom

/-- A packet's command of effect `w` with a sole reply completes with that effect, the reply and its frame. -/
theorem runs_sole {i : Instr} {s w : State} {tk : Tick} {op n st : Nat} {p : Packet} {run : Call → State → State}
    {data : List Byte} {cs : List Comp} {q : State → Prop} (he : exec i s = runAt tk s (takeFor op run))
    (h : Serves s op p n) (hc : s.calm) (hf : replyFits (s.taken tk n) data.length) (h6 : p.opcode ≠ 6)
    (hrun : run (callOf s p) (s.taken tk n) = sole (callOf s p) st data w) (hk : KeepsBut cs (s.taken tk n) w)
    (hcs : ∀ c ∈ [Comp.part, .casc, .bench, .report, .boot], c ∉ cs) (hw : w.Quiet)
    (hq : ∀ t, t.report = (s.taken tk n).reportWith (replyOf s p st 0 data) s.bench.outstanding.length →
      KeepsBut (settleComps ++ [.report, .pwr, .trk]) w t → (∃ b, t.pwr = { w.pwr with wakeCheck := b }) →
      KeepsBut ([.attn, .report, .pwr, .trk] ++ cs) (s.taken tk n) t → q t) : Runs i s q := by
  have hnow := (repliesNow_taken tk h hc hf).congr hk hcs
  have hframe : KeepsBut [.attn, .report, .pwr, .trk] w
      (writeReply ⟨p.tag, p.opcode, st, 0, s.bench.packetSeq.toNat, data, .plain⟩ w) :=
    writeReply_frame _ _ (by simp) (.inl h6) (by simp)
  obtain ⟨b, hpwr⟩ := writeReply_pwr (r := ⟨p.tag, p.opcode, st, 0, s.bench.packetSeq.toNat, data, .plain⟩) w (by simp)
    (.inl h6) (by simp)
  rw [Runs, he, runAt, takeFor_serves op run s tk p n h, hrun, sole_now _ _ hnow]
  refine runs_quiet (cs := [.attn, .report, .pwr, .trk] ++ cs) (taken_keeps s tk n)
    (hw.congr (hframe .scan (by decide)) ⟨b, hpwr⟩ (hframe .casc (by decide)))
    (keepsBut_trans (keepsBut_mono hk (by simp +contextual)) (keepsBut_mono hframe (by simp +contextual))) (by simp)
    fun t ht hkt => hq t ?_ ?_ ⟨b, ?_⟩ hkt
  · have hpart : w.part = (s.taken tk n).part := hk .part (hcs _ (by simp))
    have hring : w.report = (s.taken tk n).report := hk .report (hcs _ (by simp))
    refine (show t.report = _ from ht .report (by decide)).trans ((postReply_now hnow (by simp)).2.trans ?_)
    simp only [State.reportWith, State.reportSize, hpart, hring]
    rfl
  · exact keepsBut_trans (keepsBut_mono hframe (by decide)) (keepsBut_mono ht (by decide))
  · exact (show t.pwr = _ from ht .pwr (by decide)).trans hpwr

/-! ## What a packet's command finds -/

theorem Serves.opcode_ne {s : State} {op n : Nat} {p : Packet} (h : Serves s op p n) (hop : op ≠ 6) : p.opcode ≠ 6 := by
  obtain ⟨-, -, hopcode⟩ := h
  exact hopcode ▸ hop

theorem taken_casc (s : State) (tk : Tick) (n : Nat) : (s.taken tk n).casc = { s.casc with out := [] } :=
  (passPacket_frame n (s.entered tk) .casc (by decide)).trans (by simp)

theorem taken_trust (s : State) (tk : Tick) (n : Nat) : (s.taken tk n).trust = s.trust :=
  (passPacket_frame n (s.entered tk) .trust (by decide)).trans (by simp)

theorem taken_bus (s : State) (tk : Tick) (n : Nat) : (s.taken tk n).bus = s.bus :=
  (passPacket_frame n (s.entered tk) .bus (by decide)).trans (by simp)

theorem taken_linkRate (s : State) (tk : Tick) (n : Nat) : (s.taken tk n).linkRate = s.linkRate := by
  rw [State.linkRate, State.inCascade, taken_casc]
  rfl

/-- The admission of doze_profile is a matter of the part, the parameters and the cascade's plan. -/
theorem taken_dozeOk {s : State} {op n : Nat} {p : Packet} (tk : Tick) (h : Serves s op p n) (hc : s.calm) :
    (s.taken tk n).dozeOk = s.dozeOk := by
  obtain ⟨-, -, -, -, -, -, hpart, -, hparams, -⟩ := taken_facts tk h hc
  simp only [State.dozeOk, State.pnat, State.param, hpart, hparams, taken_linkRate, taken_casc]

theorem taken_pnat {s : State} {op n : Nat} {p : Packet} (tk : Tick) (h : Serves s op p n) (hc : s.calm) (id : Nat) :
    (s.taken tk n).pnat id = s.pnat id := by
  obtain ⟨-, -, -, -, -, -, hpart, -, hparams, -⟩ := taken_facts tk h hc
  exact pnat_congr hpart hparams id

/-! ## The checks of a packet (12 R360) -/

theorem plain_passes {c : Call} {len : Nat} {set : StateSet} {v : State} (go : State → State) (hlen : c.par.length = len)
    (hset : inSet set v = true) : plain c len set go v = go v := by
  simp [plain, checked, hlen, hset]

theorem badUnless_holds {c : Call} {ok : Bool} {v : State} (go : State → State) (h : ok = true) :
    badUnless c ok go v = go v := if_pos h

theorem badUnless_fails {c : Call} {ok : Bool} {v : State} (go : State → State) (h : ok = false) :
    badUnless c ok go v = sole c 4 [] v := if_neg (by simp [h])

theorem passing_holds {c : Call} {st : Nat} {v : State} (go : State → State) (h : st = 0) : passing c st go v = go v :=
  if_pos h

theorem planFor_standalone {v : State} (p : Nat) (h : v.casc.role = .standalone) : planFor p v = v :=
  if_neg (by simp [h])

/-! ## SCAN_PROFILE (04 R121) -/

/-- The state with the profile of its next frame named. -/
def State.withNextProfile (v : State) (p : Nat) : State := { v with scan := { v.scan with nextProfile := some p } }

/-- frame_ticks of a profile as it would take effect. -/
def State.ticksOf (v : State) (p : Nat) : Nat := frameTicksOf v.part v.params v.linkRate (profileOf v.part v.params p)

/-- SCAN_PROFILE's reply: frame_ticks and active set of the next frame. -/
def State.profileReply (v : State) (p : Nat) : List Byte :=
  leBytes 4 (v.ticksOf p) ++
    activeBytes (resolveSet v.params (v.ticksOf p) (profileOf v.part v.params p) (v.withNextProfile p))

@[simp] theorem profileReply_length (v : State) (p : Nat) : (v.profileReply p).length = 8 := by
  simp [State.profileReply, activeBytes]

theorem nextProf_withNextProfile {v : State} (p : Nat) (hr : v.casc.role = .standalone) (hn : v.pwr.next = none) :
    nextProf (v.withNextProfile p) = p := by
  simp [nextProf, State.dueNext, State.withNextProfile, hr, hn]

/-- A profile that is named has its own frame_ticks, changed or not. -/
theorem nextTicks_withNextProfile {v : State} (first : Bool) (p : Nat) (hr : v.casc.role = .standalone)
    (hn : v.pwr.next = none) : nextTicks first (v.withNextProfile p) = v.ticksOf p := by
  rw [nextTicks, nextProf_withNextProfile p hr hn, if_pos (by simp [State.withNextProfile])]
  rfl

theorem cmdScanProfile_fits {c : Call} {v : State} (hlen : c.par.length = 1) (hset : inSet .scanning v = true)
    (hr : v.casc.role = .standalone) (hn : v.pwr.next = none) (hp : byteAt c.par 0 ≤ 7)
    (hfit : v.profileFits (byteAt c.par 0) = true) :
    cmdScanProfile c v = sole c 0 (v.profileReply (byteAt c.par 0)) (v.withNextProfile (byteAt c.par 0)) := by
  have hstream : ∀ mode rate ticks, streamFits mode rate ticks v = true := fun _ _ _ => by simp [streamFits, hr]
  rw [cmdScanProfile, plain_passes _ hlen hset, badUnless_holds _ (by simp [hp, hfit, hstream])]
  dsimp only
  rw [planFor_standalone _ (by exact hr)]
  change sole c 0 (leBytes 4 (nextTicks _ (v.withNextProfile _)) ++ activeBytes (nextSet (v.withNextProfile _))) _ = _
  rw [nextSet, nextTicks_withNextProfile _ _ hr hn, nextTicks_withNextProfile _ _ hr hn, nextProf_withNextProfile _ hr hn]
  rfl

theorem cmdScanProfile_unfit {c : Call} {v : State} (hlen : c.par.length = 1) (hset : inSet .scanning v = true)
    (h : 7 < byteAt c.par 0 ∨ v.profileFits (byteAt c.par 0) = false) : cmdScanProfile c v = sole c 4 [] v := by
  rw [cmdScanProfile, plain_passes _ hlen hset, badUnless_fails]
  obtain h | h := h
  · simp [Nat.not_le.mpr h]
  · simp [h]

/-! ## SCAN_STOP with nothing to stop (04 R122) -/

theorem cmdScanStop_stopped {c : Call} {v : State} (hlen : c.par.length = 1) (hset : inSet .active v = true)
    (hm : byteAt c.par 0 ≤ 1) (hp : v.scan.phase = .stopped) : cmdScanStop c v = sole c 0 [] v := by
  rw [cmdScanStop, plain_passes _ hlen hset, badUnless_holds _ (by simpa using hm)]
  simp [State.scanning, hp, stOk]

/-! ## SET_POWER between ACTIVE and DOZE (08 R234) -/

/-- The state with a change between DOZE and ACTIVE, by SET_POWER, due at the next frame start. -/
def State.withNext (v : State) (st p : Nat) : State := { v with pwr := { v.pwr with next := some (st, 0, p) } }

theorem powerStatus_holds {v : State} {st : Nat} (hst : st = 3 ∨ st = 2) (hd : st = 2 → v.dozeOk = true)
    (hb : v.trust.boundary = false) : powerStatus st v = 0 := by
  obtain rfl | rfl := hst
  · simp [powerStatus, hb]
  · simp [powerStatus, hb, hd]

theorem dropEntry_none {v : State} (h : v.pwr.entry = none) : dropEntry v = v := by simp [dropEntry, h]

theorem resumeDoze_none {v : State} (h : v.pwr.entry = none) : resumeDoze v = v := by simp [resumeDoze, h]

theorem cmdSetPower_present {c : Call} {v : State} (hlen : c.par.length = 2) (hset : inSet .normal v = true)
    (hst : byteAt c.par 0 = 3 ∨ byteAt c.par 0 = 2) (hd : byteAt c.par 0 = 2 → v.dozeOk = true)
    (hb : v.trust.boundary = false) (he : v.pwr.entry = none) (hpresent : byteAt c.par 0 = v.pwr.st.toNat) :
    cmdSetPower c v = sole c 0 [] v := by
  rw [cmdSetPower, plain_passes _ hlen hset, passing_holds _ (powerStatus_holds hst hd hb), if_pos hpresent.symm,
    resumeDoze_none he, dropEntry_none he, ite_self]
  rfl

theorem cmdSetPower_doze {c : Call} {v : State} (hlen : c.par.length = 2) (hset : inSet .normal v = true)
    (hst : byteAt c.par 0 = 2) (hd : v.dozeOk = true) (hb : v.trust.boundary = false) (he : v.pwr.entry = none)
    (hnow : v.pwr.st = 3) (hr : v.casc.role = .standalone) :
    cmdSetPower c v = sole c 0 [] (v.withNext 2 (v.pnat 0x408)) := by
  rw [cmdSetPower, plain_passes _ hlen hset, passing_holds _ (powerStatus_holds (.inr hst) (fun _ => hd) hb)]
  dsimp only
  rw [if_neg (by rw [hst, hnow]; decide), if_neg (by omega), if_pos hst, dropEntry_none he,
    planFor_standalone _ (by exact hr)]
  rfl

/-- The profile of ACTIVE after DOZE: active_profile, or the one that runs. -/
def State.wakeProfile (v : State) (scan : Nat) : Nat := if scan = 1 then v.pnat 0x111 else presentProfile v

theorem wakeActive_frames {v : State} (scan : Nat) (hp : v.scan.phase = .frames) (hr : v.casc.role = .standalone) :
    wakeActive scan v = v.withNext 3 (v.wakeProfile scan) := by
  have hplan : ∀ q, planFor q (v.withNext 3 q) = v.withNext 3 q := fun q => planFor_standalone q hr
  have hphase : ∀ q, (v.withNext 3 q).scan.phase = .frames := fun _ => hp
  unfold wakeActive State.wakeProfile
  dsimp only
  split
  · exact hplan _
  · rw [if_neg (by simp [hp])]
    change (if (planFor _ (v.withNext 3 _)).scan.phase = .stopping then _ else planFor _ (v.withNext 3 _)) = _
    rw [hplan, if_neg (by simp [hphase])]

theorem cmdSetPower_active {c : Call} {v : State} (hlen : c.par.length = 2) (hset : inSet .normal v = true)
    (hst : byteAt c.par 0 = 3) (hb : v.trust.boundary = false) (he : v.pwr.entry = none) (hnow : v.pwr.st = 2)
    (hp : v.scan.phase = .frames) (hr : v.casc.role = .standalone) :
    cmdSetPower c v = sole c 0 [] (v.withNext 3 (v.wakeProfile (byteAt c.par 1))) := by
  rw [cmdSetPower, plain_passes _ hlen hset, passing_holds _ (powerStatus_holds (.inl hst) (by omega) hb)]
  dsimp only
  rw [if_neg (by rw [hst, hnow]; decide), if_neg (by omega), if_neg (by omega), dropEntry_none he,
    wakeActive_frames _ hp hr]
  rfl

/-! ## BUS_BRANCH while a job is on the bus (13 R408) -/

theorem cmdBusBranch_waits {c : Call} {v : State} (hlen : c.par.length = 1) (hset : inSet .normal v = true)
    (ha : byteAt c.par 0 ≤ 1) (hj : v.bus.job.isSome = true) :
    cmdBusBranch c v =
      sole c 0 [] { v with bus := { v.bus with branchDue := v.bus.branchDue ++ [byteAt c.par 0] } } := by
  rw [cmdBusBranch, plain_passes _ hlen hset, badUnless_holds _ (by simp; omega)]
  dsimp only
  rw [if_neg (by omega), busBranch, if_pos hj]
  rfl

/-! ## RESET (12 R370) -/

/-- The state with a reset of a kind armed, and its instant once its reply is written. -/
def State.armed (v : State) (k : Nat) (due : Option Time) : State :=
  { v with bench := { v.bench with resetArmed := some (k, due) } }

/-- RESET's OK reply, whose pop takes the reset of the kind. -/
def resetReply (c : Call) : Reply := ⟨c.tag, c.opcode, 0, 0, c.seq, [], .resetReply (byteAt c.par 0)⟩

theorem cmdReset_badKind {c : Call} {v : State} (hlen : c.par.length = 1) (hset : inSet .all v = true)
    (hk : 2 < byteAt c.par 0) : cmdReset c v = sole c 4 [] v := by
  rw [cmdReset, plain_passes _ hlen hset, badUnless_fails _ (by simpa using hk)]

theorem parkAt_armed (v : State) (k : Nat) (due : Option Time) : parkAt (v.armed k due) = parkAt v := rfl

theorem cmdReset_stopped {c : Call} {v : State} (hlen : c.par.length = 1) (hset : inSet .all v = true)
    (hk : byteAt c.par 0 ≤ 2) (hp : v.scan.phase = .stopped) :
    cmdReset c v = postReply (resetReply c) (v.armed (byteAt c.par 0) none) := by
  have hpark : parkAt (v.armed (byteAt c.par 0) none) = none := if_neg (by simp [State.armed, hp])
  have hscan : (v.armed (byteAt c.par 0) none).scanning = false := by simp [State.scanning, State.armed, hp]
  rw [cmdReset, plain_passes _ hlen hset, badUnless_holds _ (by simpa using hk)]
  change (match parkAt (v.armed _ none) with | some _ => _ | none => if (v.armed _ none).scanning then _ else _) = _
  rw [hpark, hscan]
  rfl

/-- Bench with a reset armed whose reply waits for the end of driving, and with the parking of the drive lines due. -/
def Bench.owesReset (b : Bench) (k : Nat) (r : Reply) : Bench := { b with resetArmed := some (k, none), owed := some r }
def Bench.parksAt (b : Bench) (e : Time) : Bench := { b with parkDue := some (b.parkDue.getD e) }

/-- The state in which RESET's reply waits for the frame's end. -/
def State.stopsForReset (v : State) (k : Nat) (r : Reply) : State :=
  { v with bench := v.bench.owesReset k r, scan := { v.scan with phase := .stopping } }

theorem cmdReset_parks {c : Call} {v : State} {e : Time} (hlen : c.par.length = 1) (hset : inSet .all v = true)
    (hk : byteAt c.par 0 ≤ 2) (he : parkAt v = some e) :
    cmdReset c v = { v with bench := (v.bench.owesReset (byteAt c.par 0) (resetReply c)).parksAt e } := by
  rw [cmdReset, plain_passes _ hlen hset, badUnless_holds _ (by simpa using hk)]
  change (match parkAt (v.armed _ none) with | some _ => _ | none => _) = _
  rw [parkAt_armed, he]
  rfl

theorem cmdReset_waits {c : Call} {v : State} (hlen : c.par.length = 1) (hset : inSet .all v = true)
    (hk : byteAt c.par 0 ≤ 2) (he : parkAt v = none) (hp : v.scan.phase = .frames) :
    cmdReset c v = v.stopsForReset (byteAt c.par 0) (resetReply c) := by
  have hscan : (v.armed (byteAt c.par 0) none).scanning = true := by simp [State.scanning, State.armed, hp]
  rw [cmdReset, plain_passes _ hlen hset, badUnless_holds _ (by simpa using hk)]
  change (match parkAt (v.armed _ none) with | some _ => _ | none => if (v.armed _ none).scanning then _ else _) = _
  rw [parkAt_armed, he, hscan]
  simp only [if_true, oweFor, askStop, hp]
  rfl

theorem stopsForReset_keepsBut (v : State) (k : Nat) (r : Reply) : KeepsBut [.bench, .scan] v (v.stopsForReset k r) :=
  keepsBut_trans (keepsBut_mono (keepsBut_bench v (v.bench.owesReset k r)) (by decide))
    (keepsBut_mono (keepsBut_scan _ _) (by decide))

/-- Scanning that is to stop waits for the records of its frame. -/
theorem stopsForReset_quiet {v : State} (k : Nat) (r : Reply) (h : v.Quiet) (hnone : v.scan.stage ≠ .none)
    (hwritten : v.scan.stage ≠ .written) : (v.stopsForReset k r).Quiet where
  stopAt := h.stopAt
  entry := h.entry
  checkFailed := h.checkFailed
  sleepDue := h.sleepDue
  redo := h.redo
  stopping _ := ⟨hnone, hwritten⟩
  stopped hp := by cases hp

/-- The report ring with a record, CMD_DONE pending. -/
theorem raisedReport_keepsBut (bs : List Byte) (m : RecMark) (v : State) :
    KeepsBut [.attn, .report, .pwr, .trk] v (raise 0 (writeReport bs m v)) := by
  intro c hc
  cases c
  case attn | report | pwr | trk => simp at hc
  all_goals simp [Comp.same]

/-- RESET's reply, once written, has the reset take effect within its time (12 R370). -/
theorem writeReply_armed {v : State} {r : Reply} {k j : Nat} (hk : r.kind ≠ 2) (h6 : r.opcode ≠ 6)
    (hm : r.mark = .resetReply j) :
    writeReply r (v.armed k none) =
      (raise 0 (writeReport (r.bytes v.bench.outstanding.length) r.mark (v.armed k none))).armed k (some v.now) := by
  generalize hx : raise 0 (writeReport (r.bytes v.bench.outstanding.length) r.mark (v.armed k none)) = x
  have hkeeps : KeepsBut [.attn, .report, .pwr, .trk] (v.armed k none) x := hx ▸ raisedReport_keepsBut _ _ _
  have harmed : x.bench.resetArmed = some (k, none) :=
    congrArg Bench.resetArmed (show x.bench = (v.armed k none).bench from hkeeps .bench (by decide))
  have hnow : x.now = v.now := congrArg TimeBase.t (show x.time = v.time from hkeeps .time (by decide))
  have hdrop : dropOutstanding r (v.armed k none) = v.armed k none := by rw [dropOutstanding, if_neg hk]
  rw [writeReply, hdrop]
  change replyWritten r (raise 0 (writeReport (r.bytes v.bench.outstanding.length) r.mark (v.armed k none))) = _
  rw [hx, replyWritten, if_neg (fun h => h6 h.1), if_neg (fun h => h6 h.1), hm, harmed, ← hnow]
  rfl

theorem armed_keepsBut (v : State) (k : Nat) (due : Option Time) : KeepsBut [.bench] v (v.armed k due) :=
  keepsBut_bench v _

/-- RESET while nothing scans. -/
theorem runs_reset_stopped {s : State} {tk : Tick} {p : Packet} {n : Nat} (h : Serves s 0x04 p n) (hc : s.calm)
    (hset : inSet .all s = true) (hlen : p.par.length = 1) (hk : byteAt p.par 0 ≤ 2) (hp : s.scan.phase = .stopped)
    (hf : replyFits (s.taken tk n) 0) :
    Runs (.reset tk) s fun t => t.bench.resetArmed = some (byteAt p.par 0, some (s.taken tk n).now) ∧
      t.report = (s.taken tk n).reportWith (resetReply (callOf s p)) s.bench.outstanding.length ∧
      KeepsBut [.attn, .report, .pwr, .trk, .bench] (s.taken tk n) t := by
  obtain ⟨hrole, hheld, hcalm, hout, -, -, -, hscan, -⟩ := taken_facts tk h hc
  have hnow : RepliesNow ((s.taken tk n).armed (byteAt p.par 0) none) s.bench.outstanding.length 0 :=
    ⟨hrole, hheld, congrArg List.length hout, hf⟩
  obtain ⟨hwrites, hreport⟩ := postReply_now (r := resetReply (callOf s p)) hnow (by simp [resetReply])
  have hrun : cmdReset (callOf s p) (s.taken tk n) = _ :=
    (cmdReset_stopped (c := callOf s p) hlen ((inSet_taken tk h hc .all).trans hset) hk (hscan ▸ hp)).trans hwrites
  have h6 : (resetReply (callOf s p)).opcode ≠ 6 := h.opcode_ne (by decide)
  rw [writeReply_armed (by simp [resetReply]) h6 rfl] at hrun hreport
  generalize hx : raise 0 (writeReport _ _ ((s.taken tk n).armed (byteAt p.par 0) none)) = x at hrun hreport
  have hkx : KeepsBut [.attn, .report, .pwr, .trk] ((s.taken tk n).armed (byteAt p.par 0) none) x :=
    hx ▸ raisedReport_keepsBut _ _ _
  have hpwr : ∃ b, x.pwr = { (s.taken tk n).pwr with wakeCheck := b } := by
    rw [← hx, raise_pwr]
    exact wakeCheckPass_pwr _
  rw [Runs, exec_reset, execReset, runAt, takeFor_serves 0x04 _ s tk p n h, hrun]
  refine runs_quiet (cs := [.attn, .report, .pwr, .trk, .bench]) (taken_keeps s tk n)
    (hcalm.quiet.congr (hkx .scan (by decide)) hpwr (hkx .casc (by decide)))
    (keepsBut_trans (keepsBut_trans (keepsBut_mono (armed_keepsBut _ _ _) (by decide)) (keepsBut_mono hkx (by decide)))
      (keepsBut_mono (armed_keepsBut _ _ _) (by decide))) (by decide) fun t ht hkt => ⟨?_, ?_, hkt⟩
  · rw [show t.bench = _ from ht .bench (by decide)]
    rfl
  · exact (show t.report = _ from ht .report (by decide)).trans hreport

/-- RESET while a frame's lines are driven: its reply waits for their parking. -/
theorem runs_reset_parks {s : State} {tk : Tick} {p : Packet} {n : Nat} {e : Time} (h : Serves s 0x04 p n) (hc : s.calm)
    (hset : inSet .all s = true) (hlen : p.par.length = 1) (hk : byteAt p.par 0 ≤ 2)
    (he : parkAt (s.taken tk n) = some e) :
    Runs (.reset tk) s fun t =>
      t.bench = ((s.taken tk n).bench.owesReset (byteAt p.par 0) (resetReply (callOf s p))).parksAt e ∧
      KeepsBut [.attn, .bench] (s.taken tk n) t := by
  obtain ⟨-, -, hcalm, -⟩ := taken_facts tk h hc
  rw [Runs, exec_reset, execReset, runAt, takeFor_serves 0x04 _ s tk p n h,
    cmdReset_parks (c := callOf s p) hlen ((inSet_taken tk h hc .all).trans hset) hk he]
  exact runs_quiet (taken_keeps s tk n) (hcalm.quiet.congr rfl ⟨_, rfl⟩ rfl) (cs := [.attn, .bench])
    (keepsBut_mono (keepsBut_bench _ _) (by decide)) (by decide) fun t ht hkt => ⟨ht .bench (by decide), hkt⟩

/-- RESET while a frame is in progress whose lines are parked already: its reply waits for the frame's end. -/
theorem runs_reset_waits {s : State} {tk : Tick} {p : Packet} {n : Nat} (h : Serves s 0x04 p n) (hc : s.calm)
    (hset : inSet .all s = true) (hlen : p.par.length = 1) (hk : byteAt p.par 0 ≤ 2) (hp : s.scan.phase = .frames)
    (hnone : s.scan.stage ≠ .none) (hwritten : s.scan.stage ≠ .written) (he : parkAt (s.taken tk n) = none) :
    Runs (.reset tk) s fun t =>
      t.bench = (s.taken tk n).bench.owesReset (byteAt p.par 0) (resetReply (callOf s p)) ∧
      t.scan = { (s.taken tk n).scan with phase := .stopping } ∧ KeepsBut [.attn, .bench, .scan] (s.taken tk n) t := by
  obtain ⟨-, -, hcalm, -, -, -, -, hscan, -⟩ := taken_facts tk h hc
  rw [Runs, exec_reset, execReset, runAt, takeFor_serves 0x04 _ s tk p n h,
    cmdReset_waits (c := callOf s p) hlen ((inSet_taken tk h hc .all).trans hset) hk he (hscan ▸ hp)]
  exact runs_quiet (taken_keeps s tk n) (stopsForReset_quiet _ _ hcalm.quiet (hscan ▸ hnone) (hscan ▸ hwritten))
    (cs := [.attn, .bench, .scan]) (keepsBut_mono (stopsForReset_keepsBut _ _ _) (by decide)) (by decide)
    fun t ht hkt => ⟨ht .bench (by decide), ht .scan (by decide), hkt⟩

theorem taken_parkDue (s : State) (tk : Tick) (n : Nat) : (s.taken tk n).bench.parkDue = s.bench.parkDue := by
  obtain ⟨j, hbench⟩ := passPacket_bench n (s.entered tk)
  rw [State.taken, hbench, State.entered_bench]

/-! ## The commands complete -/

/-- SCAN_PROFILE with a profile that fits, on a standalone tile. -/
theorem runs_scanProfile {s : State} {tk : Tick} {p : Packet} {n : Nat} (h : Serves s 0x12 p n) (hc : s.calm)
    (hset : inSet .scanning s = true) (hlen : p.par.length = 1) (hr : s.casc.role = .standalone) (hp : byteAt p.par 0 ≤ 7)
    (hfit : (s.taken tk n).profileFits (byteAt p.par 0) = true) (hf : replyFits (s.taken tk n) 8) :
    Runs (.scanProfile tk) s fun t => t.scan = ((s.taken tk n).withNextProfile (byteAt p.par 0)).scan ∧
      t.report = (s.taken tk n).reportWith (replyOf s p 0 0 ((s.taken tk n).profileReply (byteAt p.par 0)))
        s.bench.outstanding.length ∧
      KeepsBut [.attn, .report, .pwr, .trk, .scan] (s.taken tk n) t := by
  obtain ⟨-, -, hcalm, -⟩ := taken_facts tk h hc
  have hr' : (s.taken tk n).casc.role = .standalone := by rw [taken_casc]; exact hr
  have hnext : (s.taken tk n).pwr.next = none := hcalm.next
  refine runs_sole (op := 0x12) (run := cmdScanProfile) (cs := [.scan]) rfl h hc
    (by rwa [profileReply_length]) (h.opcode_ne (by decide))
    (cmdScanProfile_fits (c := callOf s p) hlen ((inSet_taken tk h hc .scanning).trans hset) hr' hnext hp hfit)
    (keepsBut_scan _ _) (by decide) ?_ fun t hreport ht _ hk => ⟨ht .scan (by decide), hreport, hk⟩
  exact State.calm.quiet (s := (s.taken tk n).withNextProfile _) hcalm

/-- A change between DOZE and ACTIVE is no transition that settling makes while frames run. -/
theorem withNext_quiet {v : State} (st q : Nat) (h : v.calm) (hp : v.scan.phase = .frames) : (v.withNext st q).Quiet where
  stopAt := h.quiet.stopAt
  entry := h.quiet.entry
  checkFailed := h.quiet.checkFailed
  sleepDue := h.quiet.sleepDue
  redo := h.quiet.redo
  stopping hs := absurd (hp.symm.trans hs) (by decide)
  stopped hs := absurd (hp.symm.trans hs) (by decide)

/-- SET_POWER between ACTIVE and DOZE while frames run. -/
theorem runs_setPower {s : State} {tk : Tick} {p : Packet} {n st q : Nat} (h : Serves s 0x05 p n) (hc : s.calm)
    (hp : s.scan.phase = .frames) (hf : replyFits (s.taken tk n) 0)
    (hrun : cmdSetPower (callOf s p) (s.taken tk n) = sole (callOf s p) 0 [] ((s.taken tk n).withNext st q)) :
    Runs (.setPower tk) s fun t => t.pwr.next = some (st, 0, q) ∧
      t.report = (s.taken tk n).reportWith (replyOf s p 0 0 []) s.bench.outstanding.length ∧
      KeepsBut [.attn, .report, .pwr, .trk] (s.taken tk n) t := by
  obtain ⟨-, -, hcalm, -, -, -, -, hscan, -⟩ := taken_facts tk h hc
  refine runs_sole (op := 0x05) (run := cmdSetPower) (data := []) (cs := [.pwr]) rfl h hc hf (h.opcode_ne (by decide)) hrun
    (keepsBut_pwr _ _) (by decide) (withNext_quiet _ _ hcalm (hscan ▸ hp)) fun t hreport _ hpwr hk => ⟨?_, hreport, ?_⟩
  · obtain ⟨b, hb⟩ := hpwr
    rw [hb]
    rfl
  · exact keepsBut_mono hk (by decide)

/-- BUS_BRANCH 0 or 1 while a job is on the bus. -/
theorem runs_busBranch {s : State} {tk : Tick} {p : Packet} {n : Nat} (h : Serves s 0x42 p n) (hc : s.calm)
    (hset : inSet .normal s = true) (hlen : p.par.length = 1) (ha : byteAt p.par 0 ≤ 1) (hj : s.bus.job.isSome = true)
    (hf : replyFits (s.taken tk n) 0) :
    Runs (.busBranch tk) s fun t =>
      t.bus = { (s.taken tk n).bus with branchDue := (s.taken tk n).bus.branchDue ++ [byteAt p.par 0] } ∧
      t.report = (s.taken tk n).reportWith (replyOf s p 0 0 []) s.bench.outstanding.length ∧
      KeepsBut [.attn, .report, .pwr, .trk, .bus] (s.taken tk n) t := by
  obtain ⟨-, -, hcalm, -⟩ := taken_facts tk h hc
  exact runs_sole (op := 0x42) (run := cmdBusBranch) (data := []) (cs := [.bus]) rfl h hc hf (h.opcode_ne (by decide))
    (cmdBusBranch_waits (c := callOf s p) hlen ((inSet_taken tk h hc .normal).trans hset) ha (by rw [taken_bus]; exact hj))
    (keepsBut_bus _ _) (by decide) (hcalm.quiet.congr rfl ⟨_, rfl⟩ rfl)
    fun t hreport ht _ hk => ⟨ht .bus (by decide), hreport, hk⟩

/-- SCAN_PROFILE's reply from the registers as they were before the packet was taken. -/
theorem taken_profileReply {s : State} {op n : Nat} {p : Packet} (tk : Tick) (h : Serves s op p n) (hc : s.calm) (k : Nat) :
    (s.taken tk n).profileReply k =
      leBytes 4 (s.ticksOf k) ++ activeBytes (resolveSet s.params (s.ticksOf k) (profileOf s.part s.params k)
        ((s.taken tk n).withNextProfile k)) := by
  obtain ⟨-, -, -, -, -, -, hpart, -, hparams, -⟩ := taken_facts tk h hc
  simp only [State.profileReply, State.ticksOf, hpart, hparams, taken_linkRate]

/-- Settles O28: each command's effect and its sole reply are the ones stated, and settling, which makes no transition,
leaves both. -/
theorem transitionCommandsAct : Obligations.TransitionCommandsAct := by
  unfold Obligations.TransitionCommandsAct
  intro s tk p n hc v ok
  refine ⟨fun h hset hlen hr hp hfit hf => ?_, fun h hset hlen hf hbad => ?_, fun h hset hlen hm hp hf => ?_,
    fun h hset hlen hb hp hr hf => ?_, fun h hset hlen hk hp hf => ?_, fun h hset hlen hk hp hnone hwritten => ?_,
    fun h hset hlen hk hf => ?_, fun h hset hlen ha hj hf => runs_busBranch h hc hset hlen ha hj hf⟩
  · intro w q ticks
    have hrun := runs_scanProfile h hc hset hlen hr hp hfit hf
    rwa [taken_profileReply tk h hc] at hrun
  · exact answers_sole (op := 0x12) rfl h hc hf (.inl (h.opcode_ne (by decide)))
      (cmdScanProfile_unfit (c := callOf s p) hlen ((inSet_taken tk h hc .scanning).trans hset) hbad)
  · obtain ⟨-, -, -, -, -, -, -, hscan, -⟩ := taken_facts tk h hc
    exact answers_sole (op := 0x11) rfl h hc hf (.inl (h.opcode_ne (by decide)))
      (cmdScanStop_stopped (c := callOf s p) hlen ((inSet_taken tk h hc .active).trans hset) hm (hscan ▸ hp))
  · obtain ⟨-, -, hcalm, -, hpwr, -, -, hscan, -⟩ := taken_facts tk h hc
    have hset' := (inSet_taken tk h hc .normal).trans hset
    have hb' : (s.taken tk n).trust.boundary = false := by rw [taken_trust]; exact hb
    have hr' : (s.taken tk n).casc.role = .standalone := by rw [taken_casc]; exact hr
    have hentry : (s.taken tk n).pwr.entry = none := hcalm.quiet.entry
    refine ⟨fun hst hd hto => ?_, fun hst hto hd => ?_, fun hst hto hprof => ?_⟩
    · exact answers_sole (op := 0x05) rfl h hc hf (.inl (h.opcode_ne (by decide)))
        (cmdSetPower_present (c := callOf s p) hlen hset' hto (fun h2 => (taken_dozeOk tk h hc).trans (hd h2)) hb' hentry
          (by rw [hpwr]; exact hst))
    · have hrun := cmdSetPower_doze (c := callOf s p) hlen hset' hto ((taken_dozeOk tk h hc).trans hd) hb' hentry
        (by rw [hpwr]; exact hst) hr'
      rw [taken_pnat tk h hc] at hrun
      exact runs_setPower h hc hp hf hrun
    · have hrun := cmdSetPower_active (c := callOf s p) hlen hset' hto hb' hentry (by rw [hpwr]; exact hst) (hscan ▸ hp) hr'
      rw [State.wakeProfile, presentProfile, taken_pnat tk h hc, hscan] at hrun
      exact runs_setPower h hc hp hf hrun
  · exact runs_reset_stopped h hc hset hlen hk hp hf
  · intro reply
    cases he : parkAt v with
    | some e =>
      obtain ⟨t, ht, hbench, hkt⟩ := runs_reset_parks h hc hset hlen hk he
      refine ⟨t, ht, by rw [hbench]; rfl, by rw [hbench]; rfl, hkt .report (by decide),
        fun e' he' => ⟨?_, hkt .scan (by decide)⟩, nofun, keepsBut_mono hkt (by decide)⟩
      rw [hbench, ← taken_parkDue s tk n, Option.some.inj he']
      rfl
    | none =>
      obtain ⟨t, ht, hbench, hscan, hkt⟩ := runs_reset_waits h hc hset hlen hk hp hnone hwritten he
      exact ⟨t, ht, by rw [hbench]; rfl, by rw [hbench]; rfl, hkt .report (by decide), nofun,
        fun _ => ⟨by rw [hbench, ← taken_parkDue s tk n]; rfl, hscan⟩, hkt⟩
  · exact answers_sole (op := 0x04) rfl h hc hf (.inl (h.opcode_ne (by decide)))
      (cmdReset_badKind (c := callOf s p) hlen ((inSet_taken tk h hc .all).trans hset) hk)

end Sys2Proof.Machine
end

section
/-! Proofs of family 05_plane_chain: the combine of a frame (O39). -/

namespace Sys2Proof.Machine

/-! ## Grids and single registers -/

theorem keepsBut_plane (u : State) (x : Plane) : KeepsBut [.plane] u { u with plane := x } := by
  intro c hc
  cases c
  case plane => simp at hc
  all_goals rfl

theorem keepsBut_base (u : State) (x : Base) : KeepsBut [.base] u { u with base := x } := by
  intro c hc
  cases c
  case base => simp at hc
  all_goals rfl

/-- A grid made column by column holds at (x, y) what was made for (x, y). -/
theorem getElem?_rangeGrid {α : Type} (f : Nat → Nat → α) {cols rows x y : Nat} (hx : x < cols) (hy : y < rows) :
    (((List.range cols).map fun x => (List.range rows).map fun y => f x y).getD x [])[y]? = some (f x y) := by
  simp [List.getD_eq_getElem?_getD, hx, hy]

theorem getD_rangeGrid {α : Type} (f : Nat → Nat → α) (d : α) {cols rows x y : Nat} (hx : x < cols) (hy : y < rows) :
    (((List.range cols).map fun x => (List.range rows).map fun y => f x y).getD x []).getD y d = f x y := by
  rw [List.getD_eq_getElem?_getD, getElem?_rangeGrid f hx hy, Option.getD_some]

/-- The value of a grid at a node of no negative place. -/
theorem gridAt_nat {α : Type} {d a : α} {g : Grid α} {x y : Nat} (h : (g.getD x [])[y]? = some a) :
    gridAt d g ((x : Int), (y : Int)) = a := by
  have hpos : ¬ ((x : Int) < 0 ∨ (y : Int) < 0) := by omega
  rw [gridAt, if_neg hpos, Int.toNat_natCast, Int.toNat_natCast, List.getD_eq_getElem?_getD, h, Option.getD_some]

theorem getElem?_mapGrid {α β : Type} (f : α → β) (g : Grid α) (x y : Nat) :
    ((g.map fun c => c.map f).getD x [])[y]? = ((g.getD x [])[y]?).map f := by
  rw [List.getD_eq_getElem?_getD, List.getD_eq_getElem?_getD, List.getElem?_map]
  cases g[x]? <;> simp

/-! ## The weighted mean of the passes (05 R134) -/

/-- Weight and value of each pass that has a value at node (x, y); a saturated column weighs nothing. -/
def passWeights (ps : List PassData) (x y : Nat) : List (Nat × Int) :=
  ps.filterMap fun p => ((p.value.getD x []).getD y none).map fun d =>
    ((if p.sat.getD x false then 0 else 2 ^ 24 / max (columnVar p x) 1 : Nat), d)

/-- The sum of the weights. -/
def weightSum (ws : List (Nat × Int)) : Nat := sumNat (ws.map (·.1))

/-- The mean, rounded with halves up. -/
def weightedMean (ws : List (Nat × Int)) : Int :=
  Int.fdiv (sumInt (ws.map fun e => (e.1 : Int) * e.2) + (weightSum ws / 2 : Nat)) (weightSum ws : Int)

theorem combineNode_weightedMean {ws : List (Nat × Int)} (h : weightSum ws ≠ 0) :
    combineNode ws = some (weightedMean ws) := if_neg h

/-- A node with a pass of some weight has the weighted mean as its value. -/
theorem combAt_weightedMean {ps : List PassData} {x y : Nat} (h : weightSum (passWeights ps x y) ≠ 0) :
    ∃ interp, combAt ps x y = .value (weightedMean (passWeights ps x y)) interp := by
  have hmap : ((ps.filterMap fun p => ((p.value.getD x []).getD y none).map fun d => (p, d)).map fun e =>
      ((if e.1.sat.getD x false then 0 else 2 ^ 24 / max (columnVar e.1 x) 1 : Nat), e.2)) = passWeights ps x y := by
    simp only [passWeights, List.map_filterMap, Option.map_map, Function.comp_def]
  have hne : (ps.filterMap fun p => ((p.value.getD x []).getD y none).map fun d => (p, d)).isEmpty = false := by
    rw [List.isEmpty_eq_false_iff]
    intro hnil
    rw [hnil] at hmap
    rw [← hmap] at h
    exact h rfl
  refine ⟨ps.any fun p => (p.interp.getD x []).getD y false, ?_⟩
  simp only [combAt, hne, hmap, combineNode_weightedMean h]
  rfl

/-- Such a value is not filled from its neighbours. -/
theorem combineFrame_weightedMean (ok : Nat → Bool) {ps : List PassData} {cols rows x y : Nat} (hx : x < cols)
    (hy : y < rows) (h : weightSum (passWeights ps x y) ≠ 0) :
    ∃ interp, ((combineFrame ok ps cols rows).getD x []).getD y .hold =
      .value (weightedMean (passWeights ps x y)) interp := by
  obtain ⟨interp, hat⟩ := combAt_weightedMean h
  refine ⟨interp, ?_⟩
  rw [combineFrame, getD_rangeGrid _ _ hx hy, fillSaturated, getD_rangeGrid _ _ hx hy, hat]

/-! ## The temporal response (05 R136) -/

/-- The temporal state of a node before the frame. -/
def State.oldState (s : State) (x y : Nat) : Int := (s.plane.y.getD x []).getD y 0

/-- The node's state starts afresh from its combined value. -/
def State.Seeded (s : State) (x y : Nat) : Prop :=
  s.plane.y = [] ∨ s.plane.reseedAll = true ∨ (s.plane.warm.getD x []).getD y 0 = 255

/-- The node's mark of 05 Table 5.5. -/
def State.nodeMark (s : State) (x y : Nat) : Nat :=
  if s.plane.reseedAll then 255 else (s.plane.warm.getD x []).getD y 0

theorem seeded_iff (s : State) (x y : Nat) :
    s.Seeded x y ↔ (s.plane.y.isEmpty || s.nodeMark x y == 255) = true := by
  rw [State.Seeded, State.nodeMark, Bool.or_eq_true, List.isEmpty_iff, beq_iff_eq]
  by_cases h : s.plane.reseedAll = true <;> simp [h]

/-- What the temporal response gives a node with the combined value `c`: its next state, and its combined word. -/
structure Responds (s : State) (x y : Nat) (c next : Int) (n : CNode) : Prop where
  seeded : s.Seeded x y → next = 256 * c
  follows : ¬ s.Seeded x y →
    next = s.oldState x y + asr (256 * c - s.oldState x y) (if s.prof.temporal = 2 then 2 else 1)
  hold : n.hold = false
  value : n.value = clampInt (-8388608) 8388607 (if s.prof.temporal = 0 then c else asr (next + 128) 8)

theorem temporalNode_responds (s : State) (x y : Nat) (c : Int) (interp : Bool) :
    Responds s x y c
      (temporalNode s.prof.temporal s.plane.since s.plane.y.isEmpty (s.oldState x y) (s.nodeMark x y) c interp).1
      (temporalNode s.prof.temporal s.plane.since s.plane.y.isEmpty (s.oldState x y) (s.nodeMark x y) c interp).2.2 where
  seeded h := if_pos ((seeded_iff s x y).mp h)
  follows h := if_neg fun hs => h ((seeded_iff s x y).mpr hs)
  hold := rfl
  value := rfl

/-- A node with a pass of some weight goes through the temporal response with its weighted mean. -/
theorem touchPath_responds {s : State} {x y : Nat} (hx : x < s.front.senseCount) (hy : y < s.gridRows)
    (h : weightSum (passWeights s.scan.passes x y) ≠ 0) :
    ∃ next n, ((touchPath s).plane.y.getD x [])[y]? = some next ∧
      ((touchPath s).plane.combined.getD x [])[y]? = some n ∧
      Responds s x y (weightedMean (passWeights s.scan.passes x y)) next n := by
  obtain ⟨interp, hcomb⟩ := combineFrame_weightedMean s.colOk hx hy h
  refine ⟨_, _, ?_, ?_, temporalNode_responds s x y _ interp⟩
  · rw [touchPath]
    dsimp only
    rw [getElem?_mapGrid, getElem?_rangeGrid _ hx hy, hcomb]
    rfl
  · rw [touchPath]
    dsimp only
    rw [getElem?_mapGrid, getElem?_rangeGrid _ hx hy, hcomb]
    rfl

/-! ## The detector slots (05 R149 to R155) -/

/-- The detector slots have taken inputs, and raised events: nothing else changes. -/
def SlotsOnly (u w : State) : Prop :=
  w = { u with
    plane := { u.plane with
      dets := w.plane.dets, detCfg := w.plane.detCfg, detAt := w.plane.detAt, detIn := w.plane.detIn
      detNew := w.plane.detNew, detT := w.plane.detT }
    attn := w.attn
    trk := w.trk }

theorem SlotsOnly.refl (u : State) : SlotsOnly u u := rfl

theorem SlotsOnly.trans {u v w : State} (h : SlotsOnly u v) (h' : SlotsOnly v w) : SlotsOnly u w :=
  Eq.trans h' (by rw [h])

theorem SlotsOnly.foldl {α : Type} {f : State → α → State} (hf : ∀ s a, SlotsOnly s (f s a)) (l : List α) (s : State) :
    SlotsOnly s (l.foldl f s) := by
  induction l generalizing s with
  | nil => exact SlotsOnly.refl s
  | cons a r ih => exact (hf s a).trans (ih _)

theorem SlotsOnly.keepsBut {u w : State} (h : SlotsOnly u w) : KeepsBut [.plane, .attn, .trk] u w := by
  intro c hc
  rw [h]
  cases c
  case plane | attn | trk => simp at hc
  all_goals rfl

/-- A change of the slots alone. -/
theorem slotsOnly_slots (u : State) (dets : List Det) (cfg : List (List Byte)) (at0 : List Det) (ops : List DetOp)
    (new : List Nat) (t : Time) :
    SlotsOnly u { u with plane := { u.plane with
      dets := dets, detCfg := cfg, detAt := at0, detIn := ops, detNew := new, detT := t } } := rfl

theorem raise_slotsOnly (src : Nat) (u : State) : SlotsOnly u (raise src u) := by
  unfold raise
  split <;> rfl

theorem detUpdate_slotsOnly (n : Nat) (x : Int) (stamp : Time) (u : State) : SlotsOnly u (detUpdate n x stamp u) := by
  unfold detUpdate
  dsimp only
  split
  · exact (slotsOnly_slots u _ _ _ _ _ _).trans (raise_slotsOnly 10 _)
  · exact slotsOnly_slots u _ _ _ _ _ _

theorem detOp_slotsOnly (u : State) (o : DetOp) : SlotsOnly u (detOp u o) := by
  cases o with
  | input n x stamp => exact detUpdate_slotsOnly n x stamp u
  | rescale ch g => exact slotsOnly_slots u _ _ _ _ _ _
  | gain ch g => exact slotsOnly_slots u _ _ _ _ _ _

theorem detTurn_slotsOnly (u : State) : SlotsOnly u (detTurn u) := by
  unfold detTurn
  split
  · exact SlotsOnly.refl u
  · exact ((slotsOnly_slots u _ _ _ _ _ _).trans
      (SlotsOnly.foldl (fun s _ => slotsOnly_slots s _ _ _ _ _ _) _ _)).trans (slotsOnly_slots _ _ _ _ _ _ _)

theorem detPush_slotsOnly (o : DetOp) (u : State) : SlotsOnly u (detPush o u) :=
  ((detTurn_slotsOnly u).trans (slotsOnly_slots _ _ _ _ _ _ _)).trans (detOp_slotsOnly _ o)

theorem detListen_slotsOnly (u : State) : SlotsOnly u (detListen u) := by
  refine (detTurn_slotsOnly u).trans (SlotsOnly.foldl (fun s p => ?_) _ _)
  dsimp only
  split
  · exact SlotsOnly.refl s
  · exact SlotsOnly.foldl (fun v n => detPush_slotsOnly _ v) _ s

/-! ## The deltas of a frame and the tests on them (06 R156, R158) -/

/-- The tests of a frame change the baseline registers alone, and not the deltas. -/
structure TestsOnly (u w : State) : Prop where
  base_only : w = { u with base := w.base }
  delta : w.base.delta = u.base.delta

theorem TestsOnly.refl (u : State) : TestsOnly u u := ⟨rfl, rfl⟩

theorem TestsOnly.trans {u v w : State} (h : TestsOnly u v) (h' : TestsOnly v w) : TestsOnly u w :=
  ⟨h'.base_only.trans (by rw [h.base_only]), h'.delta.trans h.delta⟩

theorem testsOnly_base (u : State) (b : Base) (h : b.delta = u.base.delta) : TestsOnly u { u with base := b } :=
  ⟨rfl, h⟩

theorem leaveTests_testsOnly (u : State) : TestsOnly u (leaveTests u) := ⟨rfl, rfl⟩
theorem freezeTest_testsOnly (u : State) : TestsOnly u (freezeTest u) := testsOnly_base u _ rfl
theorem scarTests_testsOnly (u : State) : TestsOnly u (scarTests u) := testsOnly_base u _ rfl
theorem finishRegions_testsOnly (u : State) : TestsOnly u (finishRegions u) := testsOnly_base u _ rfl
theorem finishOwn_testsOnly (u : State) : TestsOnly u (finishOwn u) := testsOnly_base u _ rfl

theorem collect_testsOnly (phase2 block : Bool) (u : State) : TestsOnly u (collect phase2 block u) := by
  unfold collect
  split
  · exact TestsOnly.refl u
  · exact testsOnly_base u _ rfl

theorem frameTests_testsOnly (u : State) : TestsOnly u (frameTests u) := by
  unfold frameTests
  extract_lets film _ counted judged _ suspected _ left tested _ sized _ collected
  have hcounted : TestsOnly u counted := testsOnly_base u _ rfl
  have hsuspected : TestsOnly counted suspected := testsOnly_base counted _ rfl
  have hleft : TestsOnly suspected left := by
    unfold left
    split
    · exact testsOnly_base suspected _ rfl
    · exact leaveTests_testsOnly suspected
  have htested : TestsOnly left tested := (freezeTest_testsOnly left).trans (scarTests_testsOnly _)
  have hsized : TestsOnly tested sized := by
    unfold sized
    split
    · exact testsOnly_base tested _ rfl
    · exact TestsOnly.refl tested
  have hcollected : TestsOnly sized collected := by
    refine TestsOnly.trans ?_ (finishRegions_testsOnly _)
    refine TestsOnly.trans ?_ (finishOwn_testsOnly _)
    exact TestsOnly.trans (testsOnly_base sized _ (by rfl)) (collect_testsOnly false true _)
  have h := ((hcounted.trans hsuspected).trans hleft).trans htested
  clear_value collected sized tested
  split
  · exact h
  · split
    · refine (h.trans ?_).trans (finishRegions_testsOnly _)
      exact TestsOnly.trans (testsOnly_base tested _ (by rfl)) (collect_testsOnly true false _)
    · split
      · exact h
      · exact h.trans (hsized.trans hcollected)

/-- The noise and the deltas of a frame change the baseline registers alone. -/
theorem frameDeltas_frameNoise_keepsBut (u : State) : KeepsBut [.base] u (frameDeltas (frameNoise u)) :=
  keepsBut_base u _

/-- A node with a value has its delta from its baseline, scaled to the reference level (06 R156). -/
theorem frameDeltas_delta {u : State} {x y : Nat} {n : CNode} (hx : x < u.front.senseCount) (hy : y < u.gridRows)
    (hin : u.base.inForce = true) (hn : (u.plane.combined.getD x [])[y]? = some n) (hhold : n.hold = false) :
    ((frameDeltas (frameNoise u)).base.delta.getD x [])[y]? =
      some (nodeDelta u (u.bnode ((x : Int), (y : Int))).b n.value) := by
  have hc : u.cnode ((x : Int), (y : Int)) = n := gridAt_nat hn
  have hgrid : (frameDeltas (frameNoise u)).base.delta = u.gridOf fun p =>
    if !u.base.inForce || (u.cnode p).hold then 0 else nodeDelta u (u.bnode p).b (u.cnode p).value := rfl
  rw [hgrid, State.gridOf, getElem?_rangeGrid _ hx hy, hc]
  simp [hhold, hin]

/-! ## The combine as a whole -/

/-- The frame's node values and deltas, with the tests on them but where phase 1 comes first (05 R134; 06 R156). -/
def combineStandalone (u : State) : State :=
  let d := frameDeltas (frameNoise (detListen (touchPath u)))
  if (phase1Due d).isSome then d else frameTests d

theorem eccErrors_nil (u : State) : eccErrors [] u = u := rfl

theorem clearAlarm_quiet (m : List (Option Nat)) {u : State} (h : u.scan.noiseAlarm = false) : clearAlarm m u = u := by
  simp [clearAlarm, h]

theorem planeCombine_dropped {u : State} (ha : u.scan.noiseAlarm = false) (hd : u.scan.dropped = true) :
    planeCombine [] u = { u with scan := { u.scan with stage := .combined } } := by
  simp only [planeCombine, clearAlarm_quiet _ ha, eccErrors_nil, hd, if_true]

/-- What comes before the tests leaves all but the values, the slots, the deltas and an event's pending bits. -/
theorem valuesAndDeltas_keepsBut (u : State) :
    KeepsBut [.plane, .attn, .trk, .base] u (frameDeltas (frameNoise (detListen (touchPath u)))) :=
  keepsBut_trans (keepsBut_trans (keepsBut_mono (keepsBut_plane u _) (by decide))
    (keepsBut_mono (detListen_slotsOnly (touchPath u)).keepsBut (by decide)))
    (keepsBut_mono (frameDeltas_frameNoise_keepsBut _) (by decide))

theorem TestsOnly.keepsBut {u w : State} (h : TestsOnly u w) : KeepsBut [.base] u w := by
  rw [h.base_only]
  exact keepsBut_base u _

/-- The tests, where they come, leave values and deltas. -/
theorem combineStandalone_testsOnly (u : State) :
    TestsOnly (frameDeltas (frameNoise (detListen (touchPath u)))) (combineStandalone u) := by
  unfold combineStandalone
  dsimp only
  split
  · exact TestsOnly.refl _
  · exact frameTests_testsOnly _

theorem combineStandalone_keepsBut (u : State) : KeepsBut [.plane, .attn, .trk, .base] u (combineStandalone u) :=
  keepsBut_trans (valuesAndDeltas_keepsBut u) (keepsBut_mono (combineStandalone_testsOnly u).keepsBut (by decide))

theorem planeCombine_standalone {u : State} (ha : u.scan.noiseAlarm = false) (hd : u.scan.dropped = false)
    (hr : u.casc.role = .standalone) :
    planeCombine [] u =
      { combineStandalone u with scan := { (combineStandalone u).scan with stage := .combined } } := by
  have hcasc : (frameNoise (detListen (touchPath u))).casc = u.casc := valuesAndDeltas_keepsBut u .casc (by decide)
  have hin : (frameNoise (detListen (touchPath u))).inCascade = false := by
    rw [State.inCascade, hcasc, hr]
    rfl
  simp only [planeCombine, clearAlarm_quiet _ ha, eccErrors_nil, hd, hin]
  rfl

/-- A node's value, state and delta after the combine. -/
theorem combineStandalone_node {u : State} {x y : Nat} (hx : x < u.front.senseCount) (hy : y < u.gridRows)
    (h : weightSum (passWeights u.scan.passes x y) ≠ 0) :
    ∃ next n, ((combineStandalone u).plane.y.getD x [])[y]? = some next ∧
      ((combineStandalone u).plane.combined.getD x [])[y]? = some n ∧
      Responds u x y (weightedMean (passWeights u.scan.passes x y)) next n ∧
      (u.base.inForce = true → ((combineStandalone u).base.delta.getD x [])[y]? =
        some (nodeDelta u (u.bnode ((x : Int), (y : Int))).b n.value)) := by
  obtain ⟨next, n, hy', hn, hresp⟩ := touchPath_responds hx hy h
  have htests := combineStandalone_testsOnly u
  have hslots := detListen_slotsOnly (touchPath u)
  generalize detListen (touchPath u) = l at htests hslots
  have hplane : (combineStandalone u).plane = l.plane := htests.keepsBut .plane (by decide)
  have hln : (l.plane.combined.getD x [])[y]? = some n := by rw [hslots]; exact hn
  refine ⟨next, n, by rw [hplane, hslots]; exact hy', hplane ▸ hln, hresp, fun hin => ?_⟩
  have hlx : x < l.front.senseCount := by rw [hslots]; exact hx
  have hly : y < l.gridRows := by rw [hslots]; exact hy
  have hlin : l.base.inForce = true := by rw [hslots]; exact hin
  rw [htests.delta, frameDeltas_delta hlx hly hlin hln hresp.hold, hslots]
  rfl

/-! ## PLANE_COMBINE -/

/-- The frame's stage once it is combined. -/
def State.withCombined (s : State) : State := { s with scan := { s.scan with stage := .combined } }

theorem withCombined_keepsBut (u : State) : KeepsBut [.scan] u u.withCombined := keepsBut_scan u _

/-- PLANE_COMBINE of a decoded frame, of effect `w` but for the stage. -/
theorem runs_planeCombine (tk : Tick) {s w : State} {cs : List Comp} {q : State → Prop} (hc : s.calm)
    (hstage : s.scan.stage = .decoded) (hw : planeCombine [] (s.entered tk) = w.withCombined)
    (hk : KeepsBut cs (s.entered tk) w) (hcs : .scan ∉ cs ∧ .pwr ∉ cs ∧ .casc ∉ cs) (ha : .attn ∈ cs)
    (hq : ∀ t, t.scan = { s.scan with stage := .combined } → t.plane = w.plane → t.base = w.base →
      KeepsBut (.scan :: cs) (s.entered tk) t → q t) : Runs (.planeCombine tk []) s q := by
  obtain ⟨hscan, hpwr, hcasc⟩ := hcs
  have hwscan : w.scan = s.scan := (hk .scan hscan).trans (State.entered_scan s tk)
  have hquiet : w.withCombined.Quiet := by
    have hcalm : w.calm := by
      have hpwr' : w.pwr = s.pwr := (hk .pwr hpwr).trans (State.entered_pwr s tk)
      have hcasc' : w.casc = { s.casc with out := [] } := (hk .casc hcasc).trans (State.entered_casc s tk)
      simpa only [State.calm, hwscan, hpwr', hcasc'] using hc
    exact State.calm.quiet (s := w.withCombined) hcalm
  have hframe : KeepsBut (.scan :: cs) (s.entered tk) w.withCombined :=
    keepsBut_trans (keepsBut_mono hk (by simp +contextual)) (keepsBut_mono (withCombined_keepsBut w) (by simp))
  rw [Runs, exec_planeCombine, execPlaneCombine]
  refine runAt_quiet tk (w := w.withCombined) ?_ hquiet hframe (by simp [ha]) fun t ht hkt => hq t ?_ ?_ ?_ hkt
  · rw [State.entered_scan, if_pos hstage, hw]
  · rw [show t.scan = w.withCombined.scan from ht .scan (by decide), State.withCombined, hwscan]
  · exact ht .plane (by decide)
  · exact ht .base (by decide)

theorem Responds.of_entered {s : State} {tk : Tick} {x y : Nat} {c next : Int} {n : CNode}
    (h : Responds (s.entered tk) x y c next n) : Responds s x y c next n := by
  rw [State.entered_eq] at h
  exact ⟨h.seeded, h.follows, h.hold, h.value⟩

theorem nodeDelta_entered (s : State) (tk : Tick) (b c : Int) : nodeDelta (s.entered tk) b c = nodeDelta s b c := by
  rw [State.entered_eq]
  rfl

theorem bnode_entered (s : State) (tk : Tick) (p : Node) : (s.entered tk).bnode p = s.bnode p := by
  rw [State.bnode, State.entered_base]
  rfl

theorem lt_gridRows {s : State} {y : Nat} (h : y < s.front.driveCount) : y < s.gridRows := by
  unfold State.gridRows
  omega

/-- Settles O39: the weighted mean of the passes goes through the temporal response, and its delta is formed from it; the
detector slots and the tests that follow leave values, states and deltas. -/
theorem passesCombine : Obligations.PassesCombine := by
  unfold Obligations.PassesCombine
  intro s tk hc hstage hquiet
  have hquiet' : (s.entered tk).scan.noiseAlarm = false := by rwa [State.entered_scan]
  refine ⟨fun hd => ?_, fun hd hr => ?_⟩
  · exact runs_planeCombine tk hc hstage (planeCombine_dropped hquiet' (by rwa [State.entered_scan]))
      (keepsBut_refl [.attn] _) (by decide) (by decide) fun t hscan _ _ hk => ⟨hscan, hk⟩
  · refine runs_planeCombine tk hc hstage
      (planeCombine_standalone hquiet' (by rwa [State.entered_scan]) (by rw [State.entered_casc]; exact hr))
      (combineStandalone_keepsBut _) (by decide) (by decide) fun t hscan hplane hbase hk =>
        ⟨hscan, fun x hx y hy => ?_, keepsBut_mono hk (by decide)⟩
    intro ws q c old seeded y' hq
    obtain ⟨next, n, hnext, hn, hresp, hdelta⟩ := combineStandalone_node (u := s.entered tk) (x := x) (y := y)
      (by rwa [State.entered_front]) (lt_gridRows (by rwa [State.entered_front])) (by rw [State.entered_scan]; exact hq)
    rw [State.entered_scan] at hresp
    obtain ⟨hseeded, hfollows, hhold, hvalue⟩ := hresp.of_entered
    refine ⟨next, hplane ▸ hnext, ⟨hseeded, hfollows⟩, n, hplane ▸ hn, hhold, hvalue, fun hin => ?_⟩
    rw [hbase, hdelta (by rwa [State.entered_base]), nodeDelta_entered, bnode_entered]
    rfl

end Sys2Proof.Machine
end

section
/-! Proofs of family 05_plane_chain: the commands that read with parameters (O20). -/

namespace Sys2Proof.Machine

/-! ## The checks of a packet (12 R360) -/

theorem checked_passes {c : Call} {unit lenOk : Bool} {set : StateSet} {v : State} (go : State → State)
    (hunit : unit = true) (hlen : lenOk = true) (hset : inSet set v = true) : checked c unit lenOk set go v = go v := by
  simp [checked, hunit, hlen, hset]

/-- Data that no reply holds gives OVERFLOW (12 Table 12.3). -/
theorem sole_overflow {data : List Byte} (c : Call) (st : Nat) (v : State) (h : 4082 < data.length) :
    sole c st data v = sole c 15 [] v := by
  rw [sole, sole, if_pos h, if_neg (by simp)]
  rfl

theorem within_iff {lo hi n : Nat} : within lo hi n = true ↔ lo ≤ n ∧ n ≤ hi := by
  simp [within]

/-! ## KEY_READ (07 R213) -/

theorem keyReadRec_length (v : State) (k : Nat) : (keyReadRec v k).length = 16 := by
  simp [keyReadRec]

theorem keyRecords_length (v : State) (first count : Nat) :
    ((List.range count).flatMap fun i => keyReadRec v (first + i)).length = 16 * count := by
  simp only [List.length_flatMap, keyReadRec_length, List.map_const', List.length_range, List.sum_replicate_nat]
  exact Nat.mul_comm count 16

theorem cmdKeyRead_keys {c : Call} {v : State} (hlen : c.par.length = 4) (hset : inSet .normal v = true)
    (hlo : 1 ≤ fieldAt c.par 2 2) (hhi : fieldAt c.par 2 2 ≤ 255) (hend : fieldAt c.par 0 2 + fieldAt c.par 2 2 ≤ 256) :
    cmdKeyRead c v =
      sole c 0 ((List.range (fieldAt c.par 2 2)).flatMap fun i => keyReadRec v (fieldAt c.par 0 2 + i)) v := by
  rw [cmdKeyRead, plain_passes _ hlen hset, badUnless_holds]
  · rfl
  · simp [within_iff, hlo, hhi, hend]

theorem cmdKeyRead_badRange {c : Call} {v : State} (hlen : c.par.length = 4) (hset : inSet .normal v = true)
    (hbad : fieldAt c.par 2 2 = 0 ∨ 255 < fieldAt c.par 2 2 ∨ 256 < fieldAt c.par 0 2 + fieldAt c.par 2 2) :
    cmdKeyRead c v = sole c 4 [] v := by
  rw [cmdKeyRead, plain_passes _ hlen hset, badUnless_fails]
  rw [Bool.eq_false_iff, ne_eq, Bool.and_eq_true, within_iff, decide_eq_true_iff]
  omega

/-! ## PARAM_GET (12 R392) -/

theorem cmdParamGet_good {c : Call} {v : State} (hne : c.par ≠ []) (heven : c.par.length % 2 = 0)
    (hset : inSet .normal v = true) (hgood : getBad v.part 0 (getIds c.par) = none) :
    cmdParamGet c v = sole c 0 ((getIds c.par).flatMap fun id => recordBytes id (getValue v id)) v := by
  rw [cmdParamGet, checked_passes _ rfl (by simp [hne, heven]) hset]
  simp only [hgood]
  rfl

theorem cmdParamGet_refused {c : Call} {v : State} {st i id : Nat} (hne : c.par ≠ []) (heven : c.par.length % 2 = 0)
    (hset : inSet .normal v = true) (hbad : getBad v.part 0 (getIds c.par) = some (st, i, id)) :
    cmdParamGet c v = sole c st (leBytes 2 i ++ leBytes 2 id) v := by
  rw [cmdParamGet, checked_passes _ rfl (by simp [hne, heven]) hset]
  simp only [hbad]

/-! ## BUS_ROLLCALL (13 R416) -/

theorem cmdBusRollcall_table {c : Call} {v : State} (hpar : c.par = [1]) (hset : inSet .normal v = true) :
    cmdBusRollcall c v = sole c 0 (partnerTable v) v := by
  have hmode : byteAt c.par 0 = 1 := by rw [hpar]; rfl
  rw [cmdBusRollcall, plain_passes _ (by rw [hpar]; rfl) hset, badUnless_holds _ (by rw [hmode]; rfl), if_pos hmode]
  rfl

/-! ## The detector slots at a round boundary (05 R154, R155) -/

theorem modAt_eq_modify {α : Type} (l : List α) (i : Nat) (f : α → α) : modAt l i f = l.modify i f := by
  induction l generalizing i with
  | nil => simp [modAt]
  | cons a r ih => cases i <;> simp [modAt, ih]

/-- Elements that are changed once each. -/
theorem getElem?_foldl_modAt {α : Type} (f : α → α) {is : List Nat} (h : is.Nodup) (l : List α) (j : Nat) :
    (is.foldl (fun l i => modAt l i f) l)[j]? = l[j]?.map fun a => if j ∈ is then f a else a := by
  induction is generalizing l with
  | nil => simp
  | cons i r ih =>
    obtain ⟨hi, hr⟩ := List.nodup_cons.mp h
    rw [List.foldl_cons, ih hr, modAt_eq_modify, List.getElem?_modify]
    by_cases hj : i = j
    · subst hj
      simp [hi, Function.comp_def]
    · have hj' : ¬ j = i := fun he => hj he.symm
      simp [hj, hj']

theorem bitsOf_nodup (w v : Nat) : (bitsOf w v).Nodup := List.nodup_range.filter _

/-- A byte that is not 0 has a bit set. -/
theorem bitsOf_ne_nil {v : Nat} (h0 : v ≠ 0) (h : v < 256) : bitsOf 8 v ≠ [] := by
  obtain ⟨i, hi⟩ := Nat.exists_testBit_of_ne_zero h0
  have hlt : i < 8 := by
    refine Nat.lt_of_not_le fun hge => ?_
    have hbig : 2 ^ i ≤ v := Nat.ge_two_pow_of_testBit hi
    have hpow : 2 ^ 8 ≤ 2 ^ i := Nat.pow_le_pow_right (by decide) hge
    omega
  have hbit : bitAt v i = true := by simpa [bitAt, Nat.testBit_eq_decide_div_mod_eq] using hi
  exact List.ne_nil_of_mem (List.mem_filter.mpr ⟨List.mem_range.mpr hlt, hbit⟩)

theorem byteAt_lt (bs : List Byte) (i : Nat) : byteAt bs i < 256 := (bs.getD i 0).isLt

/-- Within the round of its latest turn nothing acts. -/
theorem detTurn_sameRound {s : State} (h : s.plane.detT.toNat / 32 = s.now.toNat / 32) : detTurn s = s := if_pos h

/-- At a round boundary with no change waiting the slots are kept as they stand. -/
theorem detTurn_newRound {s : State} (h : s.plane.detT.toNat / 32 ≠ s.now.toNat / 32) (hnew : s.plane.detNew = []) :
    detTurn s = { s with plane := { s.plane with
      detIn := [], detNew := [], detT := s.now, detAt := s.plane.dets } } := by
  rw [detTurn, if_neg h, hnew]
  rfl

/-- The slots after a change at the boundary, and what the round has brought after it. -/
theorem detAmend_plane (slots : List Nat) (f : Det → Det) (s : State) :
    (detAmend slots f s).plane = { s.plane with
      dets := (s.plane.detIn.foldl detOp { s with plane := { s.plane with
        dets := slots.foldl (fun ds n => modAt ds n f) s.plane.detAt } }).plane.dets
      detAt := slots.foldl (fun ds n => modAt ds n f) s.plane.detAt } := by
  unfold detAmend
  dsimp only
  split
  · rw [raise_plane]
  · rfl

theorem detAmend_slotsOnly (slots : List Nat) (f : Det → Det) (s : State) : SlotsOnly s (detAmend slots f s) := by
  unfold detAmend
  dsimp only
  split
  · exact (slotsOnly_slots s _ _ _ _ _ _).trans (raise_slotsOnly 10 _)
  · exact slotsOnly_slots s _ _ _ _ _ _

/-- With nothing brought by the round the slots stand as at its boundary. -/
theorem detAmend_dets {slots : List Nat} {f : Det → Det} {s : State} (h : s.plane.detIn = []) :
    (detAmend slots f s).plane.dets = (detAmend slots f s).plane.detAt := by
  rw [detAmend_plane, h]
  rfl

theorem getElem?_detAmend_detAt {slots : List Nat} (hs : slots.Nodup) (f : Det → Det) (s : State) (i : Nat) :
    (detAmend slots f s).plane.detAt[i]? = s.plane.detAt[i]?.map fun d => if i ∈ slots then f d else d := by
  rw [detAmend_plane]
  exact getElem?_foldl_modAt f hs _ _

/-! ## DETECTOR_READ (05 R155; 12 R383) -/

theorem cmdDetectorRead_slots {c : Call} {v : State} (hunit : v.part.hasLevel = true) (hlen : c.par.length = 2)
    (hset : inSet .normal v = true) (hslots : byteAt c.par 0 ≠ 0) (hopt : byteAt c.par 1 < 4) :
    cmdDetectorRead c v =
      sole c 0 ((bitsOf 8 (byteAt c.par 0)).flatMap (detBytes (detBoundary (detTurn v))))
        (detAmend (bitsOf 8 (byteAt c.par 0)) (detOptions (byteAt c.par 1)) (detTurn v)) := by
  have hne := bitsOf_ne_nil hslots (byteAt_lt _ _)
  rw [cmdDetectorRead, levelCmd, checked_passes _ hunit (by simp [hlen]) hset, badUnless_holds _ (by simp [hne, hopt])]
  rfl

/-- The slots bear on no reply. -/
theorem SlotsOnly.replyFits_iff {u w : State} (h : SlotsOnly u w) (k : Nat) : replyFits w k ↔ replyFits u k := by
  rw [h]
  rfl

theorem SlotsOnly.reportWith_eq {u w : State} (h : SlotsOnly u w) (r : Reply) (k : Nat) :
    w.reportWith r k = u.reportWith r k := by
  rw [h]
  rfl

theorem keepsBut_symm {cs : List Comp} {s t : State} (h : KeepsBut cs s t) : KeepsBut cs t s := by
  intro c hc
  have hsame := h c hc
  cases c <;> exact Eq.symm hsame

theorem taken_plane (s : State) (tk : Tick) (n : Nat) : (s.taken tk n).plane = s.plane :=
  (passPacket_frame n (s.entered tk) .plane (by decide)).trans (by simp)

/-- DETECTOR_READ of some slots: the reply gives them as at the latest round boundary, and its options act there. -/
theorem runs_detectorRead {s : State} {tk : Tick} {p : Packet} {n : Nat} (h : Serves s 0x36 p n) (hc : s.calm)
    (hset : inSet .normal s = true) (hunit : s.part.hasLevel = true) (hlen : p.par.length = 2)
    (hslots : byteAt p.par 0 ≠ 0) (hopt : byteAt p.par 1 < 4)
    (hf : replyFits (detTurn (s.taken tk n))
      ((bitsOf 8 (byteAt p.par 0)).flatMap (detBytes (detBoundary (detTurn (s.taken tk n))))).length) :
    Runs (.detectorRead tk) s fun t =>
      t.report = (detTurn (s.taken tk n)).reportWith
        (replyOf s p 0 0 ((bitsOf 8 (byteAt p.par 0)).flatMap (detBytes (detBoundary (detTurn (s.taken tk n))))))
        s.bench.outstanding.length ∧
      t.plane = (detAmend (bitsOf 8 (byteAt p.par 0)) (detOptions (byteAt p.par 1)) (detTurn (s.taken tk n))).plane ∧
      KeepsBut [.attn, .report, .pwr, .trk, .plane] (detTurn (s.taken tk n)) t := by
  obtain ⟨-, -, hcalm, -, -, -, hpart, -⟩ := taken_facts tk h hc
  have hturn := detTurn_slotsOnly (s.taken tk n)
  have hboth := hturn.trans (detAmend_slotsOnly (bitsOf 8 (byteAt p.par 0)) (detOptions (byteAt p.par 1)) _)
  have hrun := cmdDetectorRead_slots (c := callOf s p) (v := s.taken tk n) (hpart ▸ hunit) hlen
    ((inSet_taken tk h hc .normal).trans hset) hslots hopt
  refine runs_sole (op := 0x36) (run := cmdDetectorRead) (cs := [.plane, .attn, .trk]) rfl h hc
    ((hturn.replyFits_iff _).mp hf) (h.opcode_ne (by decide)) hrun hboth.keepsBut (by decide) ?_
    fun t hreport ht _ hk => ⟨?_, ht .plane (by decide), ?_⟩
  · have hk := hboth.keepsBut
    exact hcalm.quiet.congr (hk .scan (by decide)) ⟨_, hk .pwr (by decide)⟩ (hk .casc (by decide))
  · rw [hreport, hturn.reportWith_eq]
  · exact keepsBut_trans (keepsBut_mono (keepsBut_symm hturn.keepsBut) (by decide)) (keepsBut_mono hk (by decide))

/-- Settles O20: each command's sole reply is the one stated; DETECTOR_READ's options act on the slots of its snapshot. -/
theorem readsWithParametersAnswer : Obligations.ReadsWithParametersAnswer := by
  unfold Obligations.ReadsWithParametersAnswer
  intro s tk p n hc hset v
  have hset' : ∀ {op}, Serves s op p n → inSet .normal v = true := fun h => (inSet_taken tk h hc .normal).trans hset
  refine ⟨fun h hlen => ?_, fun h hne heven => ?_, fun h hpar hf => ?_, fun h hunit hlen hslots hopt => ?_⟩
  · intro first count data
    refine ⟨fun hlo hhi hend hf => ⟨?_, keyRecords_length v first count⟩, fun hbad hf => ?_⟩
    · exact answers_sole (op := 0x21) rfl h hc hf (.inl (h.opcode_ne (by decide)))
        (cmdKeyRead_keys (c := callOf s p) hlen (hset' h) hlo hhi hend)
    · exact answers_sole (op := 0x21) rfl h hc hf (.inl (h.opcode_ne (by decide)))
        (cmdKeyRead_badRange (c := callOf s p) hlen (hset' h) hbad)
  · intro data
    obtain ⟨-, -, -, -, -, -, hpart, -⟩ := taken_facts tk h hc
    refine ⟨fun hgood hf => ?_, fun hgood hlong hf => ?_, fun st i id hbad hf => ?_⟩
    · exact answers_sole (op := 0x50) rfl h hc hf (.inl (h.opcode_ne (by decide)))
        (cmdParamGet_good (c := callOf s p) hne heven (hset' h) (hpart ▸ hgood))
    · exact answers_sole (op := 0x50) rfl h hc hf (.inl (h.opcode_ne (by decide)))
        ((cmdParamGet_good (c := callOf s p) hne heven (hset' h) (hpart ▸ hgood)).trans (sole_overflow _ _ _ hlong))
    · exact answers_sole (op := 0x50) rfl h hc (by simpa using hf) (.inl (h.opcode_ne (by decide)))
        (cmdParamGet_refused (c := callOf s p) hne heven (hset' h) (hpart ▸ hbad))
  · exact answers_sole (op := 0x41) rfl h hc hf (.inl (h.opcode_ne (by decide)))
      (cmdBusRollcall_table (c := callOf s p) hpar (hset' h))
  · intro slots w data hf
    obtain ⟨-, -, -, hout, -⟩ := taken_facts tk h hc
    obtain ⟨t, ht, hreport, hplane, hk⟩ := runs_detectorRead h hc hset hunit hlen hslots hopt hf
    refine ⟨t, ht, ?_, fun i _ => ?_, fun hin => ?_, fun hround hnew => ?_, fun hround => ?_, hk⟩
    · rw [hreport, hout]
      rfl
    · rw [hplane]
      exact getElem?_detAmend_detAt (bitsOf_nodup _ _) _ _ i
    · rw [hplane]
      exact detAmend_dets hin
    · have hw : w = _ := detTurn_newRound (s := v) (by rwa [taken_plane]) (by rwa [taken_plane])
      rw [hw, taken_plane]
      exact ⟨rfl, rfl, rfl⟩
    · exact detTurn_sameRound (by rwa [taken_plane])

end Sys2Proof.Machine
end

section
/-! Proofs of family 07_contacts_keys_gestures: lifts, presses, deferred taps, keys and owners (O43). -/

namespace Sys2Proof.Machine

/-! ## Contact registers -/

theorem keepsBut_trk (u : State) (x : Tracker) : KeepsBut [.trk] u { u with trk := x } := by
  intro c hc
  cases c
  case trk => simp at hc
  all_goals rfl

theorem keepsBut_trkBase (u : State) (x : Tracker) (b : Base) : KeepsBut [.trk, .base] u { u with trk := x, base := b } :=
  keepsBut_trans (keepsBut_mono (keepsBut_trk u x) (by decide)) (keepsBut_mono (keepsBut_base _ b) (by decide))

/-- A command on the tracker's and the baseline registers completes with its tracker and its frame. -/
theorem runs_toTrk (tk : Tick) {s w : State} {f : State → State} {cs : List Comp} {q : State → Prop} (hc : s.calm)
    (hf : f (s.entered tk) = w) (hk : KeepsBut cs (s.entered tk) w) (hs : .scan ∉ cs ∧ .pwr ∉ cs ∧ .casc ∉ cs)
    (hq : ∀ t, t.trk = w.trk → KeepsBut (.attn :: cs) (s.entered tk) t → q t) :
    ∃ t, runAt tk s f = .next t ∧ q t := by
  obtain ⟨hscan, hpwr, hcasc⟩ := hs
  have hquiet : (s.entered tk).Quiet := State.calm.quiet (by simpa using hc)
  exact runAt_quiet tk hf (hquiet.congr (hk .scan hscan) ⟨_, hk .pwr hpwr⟩ (hk .casc hcasc))
    (keepsBut_mono hk (by simp +contextual)) (by simp) fun t ht hkt => hq t (ht .trk (by decide)) hkt

theorem mem_insertBy_self {α : Type} (lt : α → α → Bool) (a : α) (l : List α) : a ∈ insertBy lt a l := by
  induction l with
  | nil => simp [insertBy]
  | cons b r ih =>
    unfold insertBy
    split
    · simp
    · exact List.mem_cons_of_mem b ih

/-! ## Gestures and taps (07 R214 to R217) -/

/-- A gesture is written where its code is enabled, and changes nothing else. -/
theorem gesture_eq (code id : Nat) (gen : BitVec 4) (x y a b : Int) (t : Time) (s : State) :
    gesture code id gen x y a b t s = { s with trk := { s.trk with
      gests := s.trk.gests ++ if s.gestOn code then
        [⟨code, id, gestBytes code id (gen.toNat + bitOf (bitAt (s.fnat 0x311) code) 4) x y a b t⟩] else [] } } := by
  unfold gesture
  split
  · rfl
  · rw [List.append_nil]

/-- The TAP of a lifted contact, with `t` as its time (07 Tables 7.5, 7.6). -/
def State.tapGest (s : State) (a : TapRec) (t : Time) : Gest :=
  ⟨1, a.id, gestBytes 1 a.id (a.gen % 16 + bitOf (bitAt (s.fnat 0x311) 1) 4) a.rx a.ry
    (roundRoot a.travel2 : Nat) (ticksMs (since a.lift a.start) : Nat) t⟩

@[simp] theorem gestOn_trk (s : State) (x : Tracker) (code : Nat) : State.gestOn { s with trk := x } code = s.gestOn code := rfl

/-- A tap that no first tap makes a DOUBLE_TAP, or that may give none, is a TAP. -/
theorem resolveTap_tap (paired : Bool) (b : TapRec) (t : Time) {s : State} (htap : s.gestOn 1 = true)
    (hsingle : s.gestOn 2 = false ∨ firstTap s b = none) :
    resolveTap paired b t s = { s with trk := { s.trk with
      taps := s.trk.taps ++ [{ b with partner := none, spent := paired || (firstTap s b).isSome }]
      gests := s.trk.gests ++ [s.tapGest b t] } } := by
  obtain h | h := hsingle
  · simp only [resolveTap, gestOn_trk, h, Bool.false_eq_true, if_false, gesture_eq, htap, if_true, BitVec.toNat_ofNat]
    rfl
  · simp only [resolveTap, gestOn_trk, h, ite_self, gesture_eq, htap, if_true, BitVec.toNat_ofNat]
    rfl

/-! ## A lift (07 R198) -/

/-- What an ended contact leaves. -/
theorem endContact_found {id st : Nat} {c : Contact} {s : State}
    (h : s.trk.contacts.find? (fun c => c.id == id) = some c) :
    endContact id st s = { s with
      trk := { s.trk with
        contacts := s.trk.contacts.filter fun c => c.id != id
        ended := insertBy (fun a b => decide (a.id < b.id)) { c with state := st, stamp := s.trk.stamp } s.trk.ended
        liftDue := s.trk.liftDue.erase id
        ownerDue := s.trk.ownerDue.filter fun e => e.1 != id }
      base := { s.base with
        rests := s.base.rests.filter fun r => r.id != id
        absorbDue := s.base.absorbDue.erase id } } := by
  simp only [endContact, h]

@[simp] theorem endContact_taps (id st : Nat) (s : State) : (endContact id st s).trk.taps = s.trk.taps := by
  unfold endContact; split <;> rfl
@[simp] theorem endContact_stamp (id st : Nat) (s : State) : (endContact id st s).trk.stamp = s.trk.stamp := by
  unfold endContact; split <;> rfl
@[simp] theorem endContact_fnat (id st : Nat) (s : State) (p : Nat) : (endContact id st s).fnat p = s.fnat p := by
  unfold endContact; split <;> rfl
@[simp] theorem endContact_gestOn (id st : Nat) (s : State) (code : Nat) : (endContact id st s).gestOn code = s.gestOn code := by
  unfold endContact; split <;> rfl
@[simp] theorem endContact_mayTap (id st : Nat) (s : State) (c : Contact) : mayTap (endContact id st s) c = mayTap s c := by
  unfold endContact; split <;> rfl

@[simp] theorem settleMates_gestOn (tap : Bool) (b : TapRec) (s : State) (code : Nat) :
    (settleMates tap b s).2.gestOn code = s.gestOn code := rfl
@[simp] theorem settleMates_stamp (tap : Bool) (b : TapRec) (s : State) : (settleMates tap b s).2.trk.stamp = s.trk.stamp := rfl

theorem settleFor_none (tap : Bool) {b : TapRec} {s : State}
    (h : s.trk.taps.filter (fun t => t.partner == some b.id) = []) : settleFor tap b s = (false, s) := by
  simp only [settleFor, h, List.foldl_nil]

/-- A contact that has moved less than the swipe's distance along both axes gives no swipe. -/
theorem swipe_short {c : Contact} {s : State} (hx : (c.x - c.sx).natAbs < s.fnat 0x317)
    (hy : (c.y - c.sy).natAbs < s.fnat 0x317) : swipe c s = s := by
  have hup : ¬ (c.y - c.sy) ≤ -((s.fnat 0x317 : Nat) : Int) := by omega
  have hdown : ¬ ((s.fnat 0x317 : Nat) : Int) ≤ c.y - c.sy := by omega
  have hleft : ¬ (c.x - c.sx) ≤ -((s.fnat 0x317 : Nat) : Int) := by omega
  have hright : ¬ ((s.fnat 0x317 : Nat) : Int) ≤ c.x - c.sx := by omega
  simp [swipe, hup, hdown, hleft, hright]

theorem mayTap_barred {s : State} {c : Contact} (h : c.barred = true) : mayTap s c = false := by
  simp [mayTap, h]

theorem barred_of_mayTap {s : State} {c : Contact} (h : mayTap s c = true) : c.barred = false := by
  cases hbar : c.barred with
  | false => rfl
  | true =>
    rw [mayTap_barred hbar] at h
    cases h

theorem id_of_find {cs : List Contact} {id : Nat} {c : Contact} (h : cs.find? (fun c => c.id == id) = some c) : c.id = id := by
  simpa using List.find?_some h

/-- A lifted contact: it has ended in the frame of the stamp and is no longer due, and its gestures are those given. -/
structure Lifted (u w : State) (id : Nat) (gests : List Gest) : Prop where
  contacts : w.trk.contacts = u.trk.contacts.filter (fun c => c.id != id)
  liftDue : w.trk.liftDue = u.trk.liftDue.erase id
  gests : w.trk.gests = u.trk.gests ++ gests
  ended : ∃ e ∈ w.trk.ended, e.id = id ∧ e.state = 3 ∧ e.stamp = u.trk.stamp
  frame : KeepsBut [.trk, .base] u w

/-- A barred contact lifts without a gesture (07 R214). -/
theorem liftOne_barred {id : Nat} {c : Contact} {s : State} (hfind : s.trk.contacts.find? (fun c => c.id == id) = some c)
    (hwait : s.trk.taps.filter (fun t => t.partner == some id) = []) (hbar : c.barred = true) :
    Lifted s (liftOne id s) id [] := by
  have hid : c.id = id := id_of_find hfind
  have halone := settleFor_none false (b := tapOf c s.trk.stamp) (s := endContact id 3 s) (by simpa [tapOf, hid] using hwait)
  have hstate : liftOne id s = (settleMates false (tapOf c s.trk.stamp) (endContact id 3 s)).2 := by
    simp [liftOne, hfind, hbar, mayTap_barred hbar, halone]
  rw [hstate, endContact_found hfind, settleMates]
  exact ⟨rfl, rfl, (List.append_nil _).symm, ⟨_, mem_insertBy_self _ _ _, hid, rfl, rfl⟩, keepsBut_trkBase _ _ _⟩

/-- A contact that may be a tap lifts with a TAP, with neither double taps nor two-finger taps enabled (07 R215, R216). -/
theorem liftOne_tap {id : Nat} {c : Contact} {s : State} (hfind : s.trk.contacts.find? (fun c => c.id == id) = some c)
    (hwait : s.trk.taps.filter (fun t => t.partner == some id) = []) (hmay : mayTap s c = true)
    (htap : s.gestOn 1 = true) (hdouble : s.gestOn 2 = false) (hpair : s.gestOn 9 = false)
    (hx : (c.x - c.sx).natAbs < s.fnat 0x317) (hy : (c.y - c.sy).natAbs < s.fnat 0x317) :
    Lifted s (liftOne id s) id [s.tapGest (tapOf c s.trk.stamp) s.trk.stamp] := by
  have hid : c.id = id := id_of_find hfind
  have halone := settleFor_none true (b := tapOf c s.trk.stamp) (s := endContact id 3 s) (by simpa [tapOf, hid] using hwait)
  have hswipe : swipe c (endContact id 3 s) = endContact id 3 s := swipe_short (by simpa using hx) (by simpa using hy)
  let q := settleMates true (tapOf c s.trk.stamp) (endContact id 3 s)
  have hstate : liftOne id s = resolveTap q.1
      { tapOf c s.trk.stamp with mate := if q.1 then none else partnerOf q.2 (tapOf c s.trk.stamp) } s.trk.stamp q.2 := by
    simp [liftOne, hfind, hmay, barred_of_mayTap hmay, halone, hswipe, hpair, q]
  rw [hstate, resolveTap_tap _ _ _ (by simpa [q] using htap) (.inl (by simpa [q] using hdouble))]
  simp only [q, endContact_found hfind, settleMates]
  exact ⟨rfl, rfl, rfl, ⟨_, mem_insertBy_self _ _ _, hid, rfl, rfl⟩, keepsBut_trkBase _ _ _⟩

/-- The only due lift is that of the contact. -/
theorem liftUpTo_single {id : Nat} {s : State} (h : s.trk.liftDue = [id]) : liftUpTo id s = liftOne id s := by
  simp [liftUpTo, h, sortBy, insertBy]

/-! ## The instant of a command bears on no contact -/

theorem State.entered_fnat (s : State) (tk : Tick) (id : Nat) : (s.entered tk).fnat id = s.fnat id := by
  rw [State.entered_eq]; rfl
theorem State.entered_gestOn (s : State) (tk : Tick) (code : Nat) : (s.entered tk).gestOn code = s.gestOn code := by
  rw [State.entered_eq]; rfl
theorem State.entered_tapGest (s : State) (tk : Tick) (a : TapRec) (t : Time) : (s.entered tk).tapGest a t = s.tapGest a t := by
  rw [State.entered_eq]; rfl
theorem mayTap_entered (s : State) (tk : Tick) (c : Contact) : mayTap (s.entered tk) c = mayTap s c := by
  rw [State.entered_eq]; rfl
theorem pressReady_entered (s : State) (tk : Tick) (c : Contact) : pressReady (s.entered tk) c = pressReady s c := by
  rw [State.entered_eq]; rfl
theorem settleReady_entered (s : State) (tk : Tick) (a : TapRec) : settleReady (s.entered tk) a = settleReady s a := by
  rw [State.entered_eq]; rfl
theorem firstTap_undefer_entered (s : State) (tk : Tick) (a b : TapRec) :
    firstTap (undefer a (s.entered tk)) b = firstTap (undefer a s) b := by
  rw [State.entered_eq]; rfl

/-! ## The commands -/

/-- CONTACT_LIFT of the only contact that is due. -/
theorem runs_contactLift (tk : Tick) {s : State} {id : Nat} {gs : List Gest} (hc : s.calm) (hdue : s.trk.liftDue = [id])
    (hlift : Lifted (s.entered tk) (liftOne id (s.entered tk)) id gs) :
    Runs (.contactLift tk id) s fun t =>
      t.trk.contacts = s.trk.contacts.filter (fun c => c.id != id) ∧ t.trk.liftDue = [] ∧ t.trk.gests = s.trk.gests ++ gs ∧
      (∃ e ∈ t.trk.ended, e.id = id ∧ e.state = 3 ∧ e.stamp = s.trk.stamp) ∧ KeepsBut [.trk, .base, .attn] (s.entered tk) t := by
  obtain ⟨hcontacts, hliftDue, hgests, hended, hk⟩ := hlift
  have hdue' : (s.entered tk).trk.liftDue = [id] := by rw [State.entered_trk, hdue]
  rw [State.entered_trk] at hcontacts hliftDue hgests hended
  rw [Runs, exec_contactLift, execContactLift]
  refine runs_toTrk tk hc ((if_pos (by simp [hdue])).trans (liftUpTo_single hdue')) hk (by decide) fun t ht hkt => ?_
  rw [ht]
  exact ⟨hcontacts, hliftDue.trans (by simp [hdue]), hgests, hended, keepsBut_mono hkt (by decide)⟩

/-- The LONG_PRESS of a contact at the position that the frame reports (07 Tables 7.5, 7.6). -/
def State.pressGest (s : State) (id : Nat) (c : Contact) : Gest :=
  ⟨3, id, gestBytes 3 id (c.gen.toNat + bitOf (bitAt (s.fnat 0x311) 3) 4) (reported s c).2.1 (reported s c).2.2
    (roundRoot c.travel2 : Nat) (ticksMs (since s.trk.stamp c.start) : Nat) s.trk.stamp⟩

theorem State.entered_pressGest (s : State) (tk : Tick) (id : Nat) (c : Contact) :
    (s.entered tk).pressGest id c = s.pressGest id c := by
  rw [State.entered_eq]; rfl

/-- A LONG_PRESS is marked, and written where it is enabled (07 R215, R219). -/
theorem pressOne_ready {id : Nat} {c : Contact} {s : State} (hfind : s.trk.contacts.find? (fun c => c.id == id) = some c)
    (hready : pressReady s c = true) :
    pressOne id s = { s with trk := { s.trk with
      contacts := s.trk.contacts.map fun (q : Contact) => if q.id = id then { q with longPressed := true } else q
      gests := s.trk.gests ++ if s.gestOn 3 then [s.pressGest id c] else [] } } := by
  simp only [pressOne, hfind, hready, if_true, gesture_eq]
  rfl

theorem runs_longPress (tk : Tick) {s : State} {id : Nat} {c : Contact} (hc : s.calm) (hstage : s.scan.stage = .tracked)
    (hfind : s.trk.contacts.find? (fun c => c.id == id) = some c) (hready : pressReady s c = true) :
    Runs (.longPress tk id) s fun t =>
      (∀ q ∈ t.trk.contacts, q.id = id → q.longPressed = true) ∧
      t.trk.gests = s.trk.gests ++ (if s.gestOn 3 then [s.pressGest id c] else []) ∧
      KeepsBut [.trk, .attn] (s.entered tk) t := by
  have hpress := pressOne_ready (s := s.entered tk) (by rw [State.entered_trk]; exact hfind) (by rwa [pressReady_entered])
  rw [Runs, exec_longPress, execLongPress]
  refine runs_toTrk tk hc ((if_pos (by rwa [State.entered_scan])).trans hpress) (keepsBut_trk _ _) (by decide)
    fun t ht hkt => ?_
  rw [ht, State.entered_trk, State.entered_gestOn, State.entered_pressGest]
  refine ⟨fun q hq hid => ?_, rfl, keepsBut_mono hkt (by decide)⟩
  obtain ⟨p, -, rfl⟩ := List.mem_map.mp hq
  by_cases hp : p.id = id
  · rw [if_pos hp]
  · rw [if_neg hp] at hid
    exact absurd hid hp

/-- A deferral that settles without a lift gives a TAP, by the same rules (07 R216). -/
theorem settleTap_tap {id : Nat} {a : TapRec} {s : State}
    (hfind : s.trk.taps.find? (fun t => t.id == id && settleReady s t) = some a) (htap : s.gestOn 1 = true)
    (hsingle : s.gestOn 2 = false ∨ firstTap (undefer a s) a = none) :
    settleTap id s = { s with trk := { s.trk with
      taps := s.trk.taps.filter (· != a) ++ [{ a with partner := none, spent := (firstTap (undefer a s) a).isSome }]
      gests := s.trk.gests ++ [s.tapGest a a.lift] } } := by
  simp only [settleTap, hfind]
  exact resolveTap_tap false a a.lift (s := undefer a s) htap hsingle

theorem runs_tapDeferralSettle (tk : Tick) {s : State} {id : Nat} {a : TapRec} (hc : s.calm) (hstage : s.scan.stage = .tracked)
    (hfind : s.trk.taps.find? (fun t => t.id == id && settleReady s t) = some a) (htap : s.gestOn 1 = true)
    (hsingle : s.gestOn 2 = false ∨ firstTap (undefer a s) a = none) :
    Runs (.tapDeferralSettle tk id) s fun t =>
      t.trk.taps = s.trk.taps.filter (· != a) ++
        [{ a with partner := none, spent := (firstTap (undefer a s) a).isSome }] ∧
      t.trk.gests = s.trk.gests ++ [s.tapGest a a.lift] ∧ KeepsBut [.trk, .attn] (s.entered tk) t := by
  have hsettle := settleTap_tap (id := id) (a := a) (s := s.entered tk)
    (by simpa only [State.entered_trk, settleReady_entered] using hfind) (by rwa [State.entered_gestOn])
    (by rwa [State.entered_gestOn, firstTap_undefer_entered])
  rw [Runs, exec_tapDeferralSettle, execTapDeferralSettle]
  refine runs_toTrk tk hc ((if_pos (by rwa [State.entered_scan])).trans hsettle) (keepsBut_trk _ _) (by decide)
    fun t ht hkt => ?_
  rw [ht, firstTap_undefer_entered, State.entered_trk, State.entered_tapGest]
  exact ⟨rfl, rfl, keepsBut_mono hkt (by decide)⟩

/-! ## Keys (07 R210 to R213) -/

theorem tabGet_tabPut_ne {α : Type} (d : Nat → α) (t : List (Nat × α)) {k j : Nat} (a : α) (h : j ≠ k) :
    tabGet d (tabPut t k a) j = tabGet d t j := by
  induction t with
  | nil => simp [tabPut, tabGet, h]
  | cons e r ih =>
    unfold tabPut
    split
    · simp [tabGet, h]
    · split
      next he => simp [tabGet, ← he, h]
      · simp only [tabGet, ih]

theorem tabGet_tabDel_ne {α : Type} (d : Nat → α) (t : List (Nat × α)) {k j : Nat} (h : j ≠ k) :
    tabGet d (tabDel t k) j = tabGet d t j := by
  induction t with
  | nil => rfl
  | cons e r ih =>
    by_cases he : e.1 = k
    · have hne : j ≠ e.1 := he ▸ h
      simpa [tabDel, he, tabGet, h] using ih
    · simp only [tabDel, List.filter_cons, bne_iff_ne, ne_eq, he, not_false_eq_true, if_true, tabGet] at ih ⊢
      rw [ih]

theorem tabGet_tabSet_ne {α : Type} [DecidableEq α] (d : Nat → α) (t : List (Nat × α)) {k j : Nat} (a : α) (h : j ≠ k) :
    tabGet d (tabSet d t k a) j = tabGet d t j := by
  unfold tabSet
  split
  · exact tabGet_tabDel_ne d t h
  · exact tabGet_tabPut_ne d t a h

@[simp] theorem key_setKey (s : State) (i : Nat) (k : Key) : (s.setKey i k).key i = k := tabGet_tabSet _ _ _ _

theorem key_setKey_ne (s : State) {i j : Nat} (k : Key) (h : j ≠ i) : (s.setKey i k).key j = s.key j :=
  tabGet_tabSet_ne _ _ _ h

/-- The keys are a matter of the tracker alone. -/
theorem key_congr {u v : State} (h : v.trk = u.trk) (i : Nat) : v.key i = u.key i := by
  simp only [State.key, h]

/-- A key whose transition to a phase is made at a stamp (07 R212, Table 7.4). -/
def Key.turned (k : Key) (ph : KeyPhase) (stamp : Time) : Key :=
  { k with
    phase := ph, due := none, stamp := stamp, changes := satAt 255 (k.changes + 1)
    onStamp := if ph == .on then stamp else k.onStamp
    onTime := if ph == .on then 0 else satAt 0xFFFFFFFF (since stamp k.onStamp)
    tValue := if k.cancelled then k.tValue else k.value
    tFlags := if k.cancelled then k.tFlags else keyFlags k
    cancelled := false }

theorem turnKey_due {i : Nat} {ph : KeyPhase} {s : State} (h : (s.key i).due = some ph) :
    turnKey i s = s.setKey i ((s.key i).turned ph s.trk.stamp) := by
  simp only [turnKey, h, Key.turned]

theorem runs_keyStateChange (tk : Tick) {s : State} {i : Nat} {ph : KeyPhase} (hc : s.calm) (hdue : (s.key i).due = some ph) :
    Runs (.keyStateChange tk i) s fun t =>
      t.key i = (s.key i).turned ph s.trk.stamp ∧ (∀ j, j ≠ i → t.key j = s.key j) ∧
      KeepsBut [.trk, .attn] (s.entered tk) t := by
  have hkey : ∀ j, (s.entered tk).key j = s.key j := key_congr (State.entered_trk s tk)
  have hturn := turnKey_due (s := s.entered tk) (by rwa [hkey])
  rw [Runs, exec_keyStateChange, execKeyStateChange]
  refine runs_toTrk tk hc hturn (keepsBut_trk _ _) (by decide) fun t ht hkt => ⟨?_, fun j hj => ?_, keepsBut_mono hkt (by decide)⟩
  · rw [key_congr ht, key_setKey, hkey, State.entered_trk]
  · rw [key_congr ht, key_setKey_ne _ _ hj, hkey]

/-! ## Owners (09 R286) -/

theorem passOwner_due {id owner : Nat} {e : Nat} {s : State}
    (h : s.trk.ownerDue.find? (fun e => e.1 == id) = some (e, owner)) :
    passOwner id s = { s with trk := { s.trk with
      ownerDue := s.trk.ownerDue.filter fun e => e.1 != id
      contacts := s.trk.contacts.map fun (c : Contact) =>
        if c.id = id then { c with owner := owner, rival := none } else c } } := by
  simp only [passOwner, h]

theorem runs_contactOwnerChange (tk : Tick) {s : State} {id owner : Nat} {e : Nat} (hc : s.calm)
    (hdue : s.trk.ownerDue.find? (fun e => e.1 == id) = some (e, owner)) :
    Runs (.contactOwnerChange tk id) s fun t =>
      t.trk.contacts = s.trk.contacts.map (fun c => if c.id = id then { c with owner := owner, rival := none } else c) ∧
      KeepsBut [.trk, .attn] (s.entered tk) t := by
  rw [Runs, exec_contactOwnerChange, execContactOwnerChange]
  refine runs_toTrk tk hc (passOwner_due (by rw [State.entered_trk]; exact hdue)) (keepsBut_trk _ _) (by decide)
    fun t ht hkt => ?_
  rw [ht, State.entered_trk]
  exact ⟨rfl, keepsBut_mono hkt (by decide)⟩

/-- Settles O43: each command's effect is on the tracker's registers, and a lift's on the rest clocks too, which settling
leaves. -/
theorem contactsAndKeysTurn : Obligations.ContactsAndKeysTurn := by
  unfold Obligations.ContactsAndKeysTurn
  intro s tk hc u tapGest
  refine ⟨fun id c hdue hfind hwait => ⟨fun hbar => ?_, fun hmay htap hdouble hpair hx hy => ?_⟩,
    fun id c hstage hfind hready => runs_longPress tk hc hstage hfind hready,
    fun id a hstage hfind htap hsingle => runs_tapDeferralSettle tk hc hstage hfind htap hsingle,
    fun i ph hdue hcancel => ?_, fun id e owner hdue => runs_contactOwnerChange tk hc hdue⟩
  · have hlift := liftOne_barred (s := s.entered tk) (by rw [State.entered_trk]; exact hfind)
      (by rw [State.entered_trk]; exact hwait) hbar
    simpa only [List.append_nil] using runs_contactLift tk hc hdue hlift
  · have hlift := liftOne_tap (s := s.entered tk) (by rw [State.entered_trk]; exact hfind)
      (by rw [State.entered_trk]; exact hwait) (by rwa [mayTap_entered]) (by rwa [State.entered_gestOn])
      (by rwa [State.entered_gestOn]) (by rwa [State.entered_gestOn]) (by rwa [State.entered_fnat]) (by rwa [State.entered_fnat])
    rw [State.entered_tapGest, State.entered_trk] at hlift
    exact runs_contactLift tk hc hdue hlift
  · obtain ⟨t, ht, hkey, hothers, hk⟩ := runs_keyStateChange tk hc hdue
    refine ⟨t, ht, ?_⟩
    dsimp only
    rw [hkey]
    refine ⟨rfl, rfl, rfl, rfl, ?_, ?_, ?_, hothers, hk⟩
    · simp [Key.turned, hcancel]
    · rintro rfl
      exact ⟨rfl, rfl⟩
    · rintro rfl
      rfl

end Sys2Proof.Machine
end

section
/-! Proofs of family 07_contacts_keys_gestures: the tracker's frame without a peak (O42). -/

namespace Sys2Proof.Machine

/-! ## What comes before the tracker -/

theorem inCascade_standalone {s : State} (h : s.casc.role = .standalone) : s.inCascade = false := by
  rw [State.inCascade, h]
  rfl

/-- Nothing is left of the baseline unit's steps on a standalone tile. -/
theorem beforeTracker_idle {s : State} (hphase : phase1Due s = none) (hrelease : s.base.releaseDue = [])
    (hrole : s.casc.role = .standalone) : beforeTracker s = s := by
  have hflush : flushReleases s = s := by simp [flushReleases, hrelease]
  simp [beforeTracker, hphase, hflush, inCascade_standalone hrole]

/-! ## Keys, taps and the idle time -/

/-- The keys alone change. -/
def KeysOnly (u w : State) : Prop := w = { u with trk := { u.trk with keys := w.trk.keys } }

theorem KeysOnly.refl (u : State) : KeysOnly u u := rfl

theorem KeysOnly.trans {u v w : State} (h : KeysOnly u v) (h' : KeysOnly v w) : KeysOnly u w :=
  Eq.trans h' (by rw [h])

theorem KeysOnly.foldl {α : Type} {f : State → α → State} (hf : ∀ s a, KeysOnly s (f s a)) (l : List α) (s : State) :
    KeysOnly s (l.foldl f s) := by
  induction l generalizing s with
  | nil => exact KeysOnly.refl s
  | cons a r ih => exact (hf s a).trans (ih _)

theorem evalKey_keysOnly (i : Nat) (u : State) : KeysOnly u (evalKey i u) := by
  unfold evalKey
  dsimp only
  split
  · exact KeysOnly.refl u
  · rfl

theorem frameKeys_keysOnly {u : State} (h : u.trk.keySkip = []) : KeysOnly u (frameKeys u) := by
  rw [frameKeys, h, List.foldl_nil]
  split
  · exact KeysOnly.refl u
  · exact KeysOnly.foldl (fun s i => evalKey_keysOnly i s) _ u

/-- Between two states the tracker changed keys and taps alone, and the power registers the idle time alone. -/
structure Rounded (u w : State) : Prop where
  trk : ∃ keys taps, w.trk = { u.trk with keys := keys, taps := taps }
  pwr : ∃ t, w.pwr = { u.pwr with idleFrom := t }
  frame : KeepsBut [.trk, .pwr] u w

theorem pruneTaps_rounded {u v : State} (h : KeysOnly u v) : Rounded u (pruneTaps v) := by
  rw [h]
  exact ⟨⟨_, _, rfl⟩, ⟨u.pwr.idleFrom, rfl⟩, keepsBut_mono (keepsBut_trk u _) (by decide)⟩

theorem Rounded.restartIdle {u w : State} (h : Rounded u w) : Rounded u (restartIdle w) := by
  obtain ⟨htrk, ⟨t, hpwr⟩, hk⟩ := h
  exact ⟨htrk, ⟨w.now, by rw [Machine.restartIdle, hpwr]⟩,
    keepsBut_trans hk (keepsBut_mono (keepsBut_pwr w _) (by decide))⟩

/-- The frame's stamp is taken, with no seed refused. -/
def State.stamped (s : State) : State := { s with trk := { s.trk with stamp := s.frameStamp, refused := 0 } }

/-- With no ownership to pass and no changed key, what follows the contacts is keys, taps and the idle time. -/
theorem trackFrame_rounded {s : State} (howner : s.trk.ownerDue = []) (hskip : (frameContacts s.stamped).trk.keySkip = []) :
    Rounded (frameContacts s.stamped) (trackFrame s) := by
  have hpruned := pruneTaps_rounded (frameKeys_keysOnly hskip)
  unfold trackFrame
  extract_lets _ begun passed tracked
  have hpassed : passed = s.stamped := by
    unfold passed
    rw [show begun.trk.ownerDue = [] from howner]
    rfl
  have htracked : Rounded (frameContacts s.stamped) tracked := by
    unfold tracked
    rwa [hpassed]
  split
  · exact htracked
  · exact htracked.restartIdle

/-! ## A frame with no node in a footprint -/

theorem footprints_nil : footprints [] = [] := rfl

/-- No footprint and no peak is seen. -/
theorem joinPeaks_untouched {s : State} (hin : s.inCascade = false) (h : touched s = []) :
    joinPeaks s (allPieces s) (allPeaks s) = [] := by
  have hpieces : allPieces s = [] := by simp [allPieces, tilePieces, h, footprints_nil, hin]
  have hpeaks : allPeaks s = [] := by simp [allPeaks, tilePeaks, h, footprints_nil, hin, sortBy]
  simp [joinPeaks, hpieces, hpeaks, footprints_nil]

theorem framePalms_untouched (frozen : Nat → Bool) {s : State} (h : ∀ c ∈ s.trk.contacts, c.palm = false) :
    framePalms frozen ⟨s, [], []⟩ = ⟨s, [], []⟩ := by
  have hpalms : s.trk.contacts.filter (·.palm) = [] := by
    rw [List.filter_eq_nil_iff]
    exact fun c hc => by simp [h c hc]
  simp [framePalms, hpalms, sortBy]

/-- A contact that no peak matches (07 R198). -/
def Contact.miss (s : State) (c : Contact) : Contact := { c.keep s with missed := c.missed + 1 }

@[simp] theorem Contact.keep_id (s : State) (c : Contact) : (c.keep s).id = c.id := by
  unfold Contact.keep; dsimp only; split <;> rfl
@[simp] theorem Contact.keep_palm (s : State) (c : Contact) : (c.keep s).palm = c.palm := by
  unfold Contact.keep; dsimp only; split <;> rfl
@[simp] theorem Contact.miss_id (s : State) (c : Contact) : (c.miss s).id = c.id := Contact.keep_id s c
@[simp] theorem Contact.miss_palm (s : State) (c : Contact) : (c.miss s).palm = c.palm := Contact.keep_palm s c
@[simp] theorem Contact.miss_missed (s : State) (c : Contact) : (c.miss s).missed = c.missed + 1 := rfl

theorem pairsOf_nil (s : State) (cs : List Contact) : pairsOf s cs [] = [] := by
  have hnone : (cs.flatMap fun _ => ([] : List Pair)) = [] := List.flatMap_eq_nil_iff.mpr fun _ _ => rfl
  simp [pairsOf, hnone, sortBy]

/-- Every contact misses the frame, and those that have missed enough are due to lift. -/
theorem frameFingers_untouched {s : State} (h : ∀ c ∈ s.trk.contacts, c.palm = false ∧ 0 < c.age) :
    frameFingers (fun _ => false) ⟨s, [], []⟩ = ⟨{ s with trk := { s.trk with
      contacts := s.trk.contacts.map (Contact.miss s)
      liftDue := s.trk.liftDue ++ (s.trk.contacts.filter fun c => decide (s.fnat 0x306 ≤ c.missed + 1)).map (·.id) } }, [], []⟩ := by
  have hcontacts : (s.trk.contacts.map fun (c : Contact) =>
      if c.palm || c.age == 0 then c else { c.keep s with missed := c.missed + 1 }) = s.trk.contacts.map (Contact.miss s) := by
    refine List.map_congr_left fun c hc => ?_
    obtain ⟨hpalm, hage⟩ := h c hc
    have hold : (c.palm || c.age == 0) = false := by simp [hpalm, Nat.pos_iff_ne_zero.mp hage]
    simp [hold, Contact.miss]
  have hlifts : (((s.trk.contacts.map (Contact.miss s)).filter fun (c : Contact) =>
      !c.palm && decide (0 < c.missed) && decide (s.fnat 0x306 ≤ c.missed)).map (·.id)) =
      (s.trk.contacts.filter fun c => decide (s.fnat 0x306 ≤ c.missed + 1)).map (·.id) := by
    have hids : (fun c : Contact => c.id) ∘ Contact.miss s = fun c => c.id := funext fun c => Contact.miss_id s c
    rw [List.filter_map, List.map_map, hids]
    refine congrArg (List.map _) (List.filter_congr fun c hc => ?_)
    show (!(c.miss s).palm && decide (0 < c.missed + 1) && decide (s.fnat 0x306 ≤ c.missed + 1)) = _
    simp [(h c hc).1]
  simp only [frameFingers, List.flatMap_nil, pairsOf_nil, matchPairs, List.find?_nil, Bool.false_eq_true, if_false, hcontacts,
    hlifts, List.filter_nil, List.map_nil, List.append_nil, sortBy, List.foldl_nil]

@[simp] theorem Contact.rivalStep_id (s : State) (c : Contact) : (c.rivalStep s).id = c.id := by
  unfold Contact.rivalStep; repeat' split
  all_goals rfl
@[simp] theorem Contact.rivalStep_missed (s : State) (c : Contact) : (c.rivalStep s).missed = c.missed := by
  unfold Contact.rivalStep; repeat' split
  all_goals rfl

theorem finishContacts_missed (s : State) :
    (finishContacts s).trk.contacts.map (fun c => (c.id, c.missed)) = s.trk.contacts.map (fun c => (c.id, c.missed)) := by
  simp [finishContacts, List.map_map, Function.comp_def]

/-- The contacts of a frame in which no peak matches one: each has missed one more, those that have missed enough are due to
lift, and nothing but tracker and rest clocks changes. -/
structure Missed (u w : State) : Prop where
  contacts : w.trk.contacts.map (fun c => (c.id, c.missed)) = u.trk.contacts.map (fun c => (c.id, c.missed + 1))
  liftDue : w.trk.liftDue = u.trk.liftDue ++
    (u.trk.contacts.filter fun c => decide (u.fnat 0x306 ≤ c.missed + 1)).map (·.id)
  stamp : w.trk.stamp = u.trk.stamp
  keySkip : w.trk.keySkip = u.trk.keySkip
  frame : KeepsBut [.trk, .base] u w

theorem frameContacts_missed {s : State} (hforced : s.base.forcedNow = false) (hlate : s.noContacts = false)
    (hrole : s.casc.role = .standalone) (hrefused : s.trk.refused = 0) (htouched : touched s = [])
    (hfingers : ∀ c ∈ s.trk.contacts, c.palm = false ∧ 0 < c.age) : Missed s (frameContacts s) := by
  have hin : s.inCascade = false := inCascade_standalone hrole
  let v : State := { s with trk := { s.trk with tooMany := false } }
  have hfrozen : unreported s = fun _ => false := by
    funext t
    rw [unreported, hin, Bool.false_and]
  have hjoined : joinPeaks v (allPieces v) (allPeaks v) = [] := joinPeaks_untouched hin htouched
  have hpalms : framePalms (fun _ => false) ⟨v, [], []⟩ = ⟨v, [], []⟩ :=
    framePalms_untouched _ fun c hc => (hfingers c hc).1
  have hstate : frameContacts s = finishContacts (frameRests [] (fun _ => false)
      { v with trk := { v.trk with
        contacts := v.trk.contacts.map (Contact.miss v)
        liftDue := v.trk.liftDue ++ (v.trk.contacts.filter fun c => decide (v.fnat 0x306 ≤ c.missed + 1)).map (·.id) } }) := by
    have hbegun : ({ s with trk := { s.trk with tooMany := s.inCascade && decide (40 < (tilePeaks s).length) } } : State) = v := by
      simp only [hin, Bool.false_and, v]
    rw [frameContacts]
    simp only [hforced, hlate, Bool.false_eq_true, if_false, hbegun, hfrozen, hjoined, hpalms]
    rw [frameFingers_untouched (s := v) hfingers]
    exact if_pos hrefused
  rw [hstate]
  refine ⟨?_, rfl, rfl, rfl, keepsBut_trkBase s _ _⟩
  rw [finishContacts_missed]
  simp [frameRests, List.map_map, Function.comp_def, v]

theorem frameContacts_late {s : State} (hforced : s.base.forcedNow = false) (hlate : s.noContacts = true) :
    frameContacts s = s := by
  simp [frameContacts, hforced, hlate]

/-! ## TRACKER_FRAME -/

/-- The frame's stage once it is tracked. -/
def State.withTracked (s : State) : State := { s with scan := { s.scan with stage := .tracked } }

theorem withTracked_keepsBut (u : State) : KeepsBut [.scan] u u.withTracked := keepsBut_scan u _

@[simp] theorem withTracked_stamped_trk (u : State) :
    u.withTracked.stamped.trk = { u.trk with stamp := u.frameStamp, refused := 0 } := rfl
@[simp] theorem withTracked_stamped_scan (u : State) : u.withTracked.stamped.scan = { u.scan with stage := .tracked } := rfl

theorem stamped_keepsBut (u : State) : KeepsBut [.scan, .trk] u u.withTracked.stamped :=
  keepsBut_trans (keepsBut_mono (withTracked_keepsBut u) (by decide))
    (keepsBut_mono (keepsBut_trk u.withTracked _) (by decide))

theorem trackerFrame_dropped {u : State} (h : u.scan.dropped = true) : trackerFrame u = u.withTracked := if_pos h

theorem trackerFrame_standalone {u : State} (hdropped : u.scan.dropped = false) (hrole : u.casc.role = .standalone)
    (hphase : phase1Due u = none) (hrelease : u.base.releaseDue = []) : trackerFrame u = trackFrame u.withTracked := by
  have hbefore : beforeTracker u.withTracked = u.withTracked := beforeTracker_idle hphase hrelease hrole
  have hrole' : u.withTracked.casc.role = .standalone := hrole
  rw [trackerFrame, if_neg (by simp [hdropped])]
  simp only [show beforeTracker { u with scan := { u.scan with stage := .tracked } } = u.withTracked from hbefore, hrole']

theorem calm_idle {u w : State} (h : u.calm) (hphase : w.scan.phase = u.scan.phase) (hstop : w.scan.stopAt = u.scan.stopAt)
    (hpwr : ∃ t, w.pwr = { u.pwr with idleFrom := t }) (hcasc : w.casc = u.casc) : w.calm := by
  obtain ⟨t, hpwr⟩ := hpwr
  unfold State.calm at h ⊢
  rw [hphase, hstop, hpwr, hcasc]
  exact h

/-- TRACKER_FRAME of a combined frame, of effect `w`, whose idle time may restart. -/
theorem runs_trackerFrame (tk : Tick) {s w : State} {cs : List Comp} (hc : s.calm) (hstage : s.scan.stage = .combined)
    (hout : s.scan.dropped = true ∨ s.casc.role = .standalone) (hw : trackerFrame (s.entered tk) = w)
    (hscan : w.scan = { s.scan with stage := .tracked }) (hpwr : ∃ t, w.pwr = { s.pwr with idleFrom := t })
    (hk : KeepsBut cs (s.entered tk) w) (hcasc : .casc ∉ cs) (ha : .attn ∈ cs) :
    Runs (.trackerFrame tk) s fun t =>
      t.scan = { s.scan with stage := .tracked } ∧ t.trk = w.trk ∧ KeepsBut cs (s.entered tk) t := by
  have hmerge : ((s.entered tk).inCascade && !(s.entered tk).casc.merged && !(s.entered tk).scan.dropped) = false := by
    obtain h | h := hout
    · simp [h]
    · simp [inCascade_standalone (s := s.entered tk) (by rw [State.entered_casc]; exact h)]
  have hcalm : w.calm := calm_idle (u := s.entered tk) (by simpa using hc) (by rw [hscan, State.entered_scan])
    (by rw [hscan, State.entered_scan]) (by simpa using hpwr) (hk .casc hcasc)
  rw [Runs, exec_trackerFrame, execTrackerFrame]
  refine runAt_quiet tk (w := w) ?_ hcalm.quiet hk ha fun t ht hkt =>
    ⟨(ht .scan (by decide)).trans hscan, ht .trk (by decide), hkt⟩
  rw [State.entered_scan, if_pos hstage, ← State.entered_scan s tk, hmerge]
  exact hw

/-- TRACKER_FRAME on a standalone tile with nothing left of the baseline unit's steps and no owner to pass: `v` is the state
after its contacts. -/
theorem runs_trackerFrame_standalone (tk : Tick) {s v : State} {cs : List Comp} (hc : s.calm)
    (hstage : s.scan.stage = .combined) (hdropped : s.scan.dropped = false) (hrole : s.casc.role = .standalone)
    (hphase : phase1Due s = none) (hrelease : s.base.releaseDue = []) (howner : s.trk.ownerDue = [])
    (hv : frameContacts (s.entered tk).withTracked.stamped = v) (hskip : v.trk.keySkip = [])
    (hk : KeepsBut cs (s.entered tk).withTracked.stamped v) (hcs : .scan ∉ cs ∧ .pwr ∉ cs ∧ .casc ∉ cs) :
    Runs (.trackerFrame tk) s fun t =>
      t.scan = { s.scan with stage := .tracked } ∧ (∃ keys taps, t.trk = { v.trk with keys := keys, taps := taps }) ∧
      KeepsBut ([.scan, .trk, .pwr, .attn] ++ cs) (s.entered tk) t := by
  subst hv
  obtain ⟨hscan, hpwr, hcasc⟩ := hcs
  have hrounded : Rounded _ (trackFrame (s.entered tk).withTracked) :=
    trackFrame_rounded (s := (s.entered tk).withTracked) (by
      rw [State.withTracked, State.entered_trk]
      exact howner) hskip
  obtain ⟨htrk, ⟨t0, hidle⟩, hround⟩ := hrounded
  have hframe : KeepsBut ([.scan, .trk, .pwr, .attn] ++ cs) (s.entered tk) (trackFrame (s.entered tk).withTracked) :=
    keepsBut_trans (keepsBut_mono (stamped_keepsBut _) (by simp))
      (keepsBut_trans (keepsBut_mono hk (by simp +contextual)) (keepsBut_mono hround (by simp)))
  have hstamped : (s.entered tk).withTracked.stamped.scan = { s.scan with stage := .tracked } := by
    rw [withTracked_stamped_scan, State.entered_scan]
  have hkept : (frameContacts (s.entered tk).withTracked.stamped).pwr = s.pwr := (hk .pwr hpwr).trans (State.entered_pwr s tk)
  obtain ⟨t, ht, htscan, httrk, htk⟩ := runs_trackerFrame tk hc hstage (.inr hrole)
    (trackerFrame_standalone (u := s.entered tk) (by rwa [State.entered_scan]) (by rw [State.entered_casc]; exact hrole)
      (by rw [State.entered_eq]; exact hphase) (by rwa [State.entered_base]))
    (((hround .scan (by decide)).trans (hk .scan hscan)).trans hstamped)
    ⟨t0, by rw [hidle, hkept]⟩ hframe (by simp [hcasc]) (by simp)
  exact ⟨t, ht, htscan, httrk ▸ htrk, htk⟩

/-- Settles O42: a dropped frame is only marked; with no peak the tracker's frame stamps, or lets every contact miss one, and
what follows touches keys, taps and the idle time. -/
theorem theTrackerMisses : Obligations.TheTrackerMisses := by
  unfold Obligations.TheTrackerMisses
  intro s tk hc hstage u
  refine ⟨fun hdropped => ?_, fun hdropped hrole hphase hrelease hforced howner hskip => ⟨fun hlate => ?_,
    fun hlate htouched hfingers => ?_⟩⟩
  · obtain ⟨t, ht, hscan, -, hk⟩ := runs_trackerFrame tk hc hstage (.inl hdropped)
      (trackerFrame_dropped (u := s.entered tk) (by rwa [State.entered_scan]))
      (by rw [State.withTracked, State.entered_scan])
      ⟨s.pwr.idleFrom, State.entered_pwr s tk⟩
      (keepsBut_mono (ds := [.scan, .attn]) (withTracked_keepsBut _) (by decide)) (by decide) (by decide)
    exact ⟨t, ht, hscan, hk⟩
  · have hstate : frameContacts (s.entered tk).withTracked.stamped = (s.entered tk).withTracked.stamped :=
      frameContacts_late (by rw [State.entered_eq]; exact hforced) (by rw [State.entered_eq]; exact hlate)
    have hskip' : (s.entered tk).withTracked.stamped.trk.keySkip = [] := by
      rw [withTracked_stamped_trk, State.entered_trk]
      exact hskip
    obtain ⟨t, ht, hscan, ⟨keys, taps, htrk⟩, hk⟩ := runs_trackerFrame_standalone tk hc hstage hdropped hrole hphase hrelease
      howner hstate hskip' (keepsBut_refl [] _) (by decide)
    refine ⟨t, ht, hscan, ?_⟩
    rw [htrk, withTracked_stamped_trk, State.entered_trk]
    exact ⟨rfl, rfl, rfl, hk⟩
  · obtain ⟨hcontacts, hlifts, hstamp, hskips, hkeeps⟩ := frameContacts_missed (s := (s.entered tk).withTracked.stamped)
      (by rw [State.entered_eq]; exact hforced) (by rw [State.entered_eq]; exact hlate) (by rw [State.entered_eq]; exact hrole)
      rfl (by rw [State.entered_eq]; exact htouched) (by rw [State.entered_eq]; exact hfingers)
    rw [withTracked_stamped_trk, State.entered_trk] at hcontacts hlifts hstamp hskips
    obtain ⟨t, ht, hscan, ⟨keys, taps, htrk⟩, hk⟩ := runs_trackerFrame_standalone tk hc hstage hdropped hrole hphase hrelease
      howner rfl (hskips.trans hskip) hkeeps (by decide)
    refine ⟨t, ht, hscan, ?_⟩
    rw [htrk]
    refine ⟨hstamp, ?_, ?_, keepsBut_mono hk (by decide)⟩
    · exact hcontacts
    · rw [← State.entered_fnat s tk]
      exact hlifts

end Sys2Proof.Machine
end

section
/-! Proofs of family 07_contacts_keys_gestures: the frame group (O44). -/

namespace Sys2Proof.Machine

/-- A standalone tile whose frame still owes the end of an acquisition's phase 2, with BASELINE_ACQUIRE outstanding, a
HOST_SLEEP whose reply waits for its turn, and DORMANT as its sleep_state. -/
def sleepReplyWaits : State :=
  { State.reset with
    boot := { State.reset.boot with phase := .done, heldT := none, nodeInit := true }
    pwr := { State.reset.pwr with pd1 := true, pd2 := true, pd4 := true }
    link := { State.reset.link with busy := false, mode := 0 }
    front := { State.reset.front with driveCount := 4, senseCount := 3 }
    scan := { State.reset.scan with phase := .frames, stage := .tracked }
    base := { State.reset.base with acq := .phase2 1 0xFE 64 0 }
    bench := { State.reset.bench with
      outstanding := [⟨3, 0x18, 0, [0], 0⟩, ⟨4, 0x06, 1, [], 0⟩]
      turn := [⟨4, 0x06, 0, 2, 1, [], .plain⟩] }
    params := [(0x40C, [3])] }

/-- Its group fits beside the reserve. -/
theorem sleepReplyWaits_fits :
    let v := snapFrame (streamFrame (flushFrame (takeMargin 50 (sleepReplyWaits.entered 0))))
    groupSize v + sleepReplyWaits.fnat 0x309 ≤ v.report.free v.reportSize := by
  decide +kernel

/-- The end of phase 2 finishes BASELINE_ACQUIRE and writes the waiting reply after it, by which the host is asleep (08
R244): the entry to DORMANT is requested, and once the group is written scanning ends. -/
theorem sleepReplyWaits_stage {t : State} (ht : exec (.frameGroupWrite 0 50) sleepReplyWaits = .next t) :
    t.scan.stage = .none := by
  rw [← Host.Outcome.next.inj ht]
  decide +kernel

/-- Refutes O44: the statement has every written group leave the frame at stage written. It asks that no transition wait
before the command, and leaves open what Bench's replies set off in what the frame still owes: a HOST_SLEEP reply that
waits for its turn is written with BASELINE_ACQUIRE's there, sleep_state is requested, and scanning ends with the command.
The model's own HOST_SLEEP is answered at once and waits for no turn; no premise says so of the state. -/
theorem not_groupsAreWrittenWhole : ¬ Obligations.GroupsAreWrittenWhole := by
  unfold Obligations.GroupsAreWrittenWhole
  intro h
  obtain ⟨-, hgroup⟩ := h sleepReplyWaits 0 50 (by unfold State.calm; decide) rfl rfl rfl
  obtain ⟨hfits, -⟩ := hgroup rfl rfl
  obtain ⟨t, ht, -, hstage, -⟩ := hfits sleepReplyWaits_fits
  exact absurd (hstage.symm.trans (sleepReplyWaits_stage ht)) (by decide)

end Sys2Proof.Machine
end

section
/-! Proofs of family 08_sill_scan_power: the host's sleep, idle time and the wake check (O48). -/

namespace Sys2Proof.Machine

/-! ## Settling within a frame -/

/-- The seal changes nothing of an effect on other registers. -/
theorem sealed_eq {s w : State} (hpart : w.part = s.part) (hdie : w.dieRevision = s.dieRevision)
    (hpending : w.pending = s.pending) : sealed s w = w := by
  simp only [sealed, ← hpart, ← hdie, ← hpending]

/-- A command of effect `w`, which settling leaves to the attention controller and the order of messages, completes with that
effect and its frame. -/
theorem runAt_unmoved (tk : Tick) {s w : State} {f : State → State} {cs : List Comp} {q : State → Prop}
    (hf : f (s.entered tk) = w)
    (hw : settle w = { w with attn := (settleAttn w).attn, casc := (settleOut w).casc })
    (hk : KeepsBut cs (s.entered tk) w) (hcs : ∀ c ∈ [Comp.part, .dieRevision, .pending, .casc], c ∉ cs)
    (ha : .attn ∈ cs) (hq : ∀ t, KeepsBut [.attn] w t → KeepsBut cs (s.entered tk) t → q t) :
    ∃ t, runAt tk s f = .next t ∧ q t := by
  have hpart : w.part = (s.entered tk).part := hk .part (hcs _ (by simp))
  have hdie : w.dieRevision = (s.entered tk).dieRevision := hk .dieRevision (hcs _ (by simp))
  have hpending : w.pending = (s.entered tk).pending := hk .pending (hcs _ (by simp))
  have hcasc : w.casc = (s.entered tk).casc := hk .casc (hcs _ (by simp))
  have hsealed : sealed s w = w := sealed_eq (by simpa using hpart) (by simpa using hdie) (by simpa using hpending)
  have hset : KeepsBut [.attn] w (settle w) := by
    intro c hc
    rw [hw]
    cases c
    case attn => simp at hc
    case casc => exact settleOut_casc (by rw [hcasc]; simp)
    all_goals rfl
  exact ⟨settle w, by rw [runAt, hf, hsealed], hq _ hset (keepsBut_trans hk (keepsBut_mono hset (by simp [ha])))⟩

/-- A frame is in progress whose end no step of settling brings about: driving goes on, scanning that is to stop waits for
the frame's records, an entry that the idle time asked for waits for the tracker, and no sleep request is due. -/
structure State.InFrame (s : State) : Prop where
  stopAt : s.scan.stopAt = none
  sleepDue : s.pwr.sleepDue = false
  scans : s.scan.phase ≠ .stopped
  stopping : s.scan.phase = .stopping → s.scan.stage ≠ .none ∧ s.scan.stage ≠ .written
  idle : s.pwr.entry = some ⟨1, 8, none⟩ → s.scan.phase = .frames →
    s.scan.stage = .started ∨ s.scan.stage = .decoded ∨ s.scan.stage = .combined

/-- Then a command is followed by the attention controller alone, whatever entry waits. -/
theorem settle_inFrame {s : State} (h : s.InFrame) :
    settle s = { s with attn := (settleAttn s).attn, casc := (settleOut s).casc } := by
  have hdrive : settleDrive s = s := by simp [settleDrive, h.stopAt]
  have hidle : idleStop s = s := by
    rw [idleStop, if_neg]
    rintro ⟨he, hp, h1, h2, h3⟩
    exact (h.idle he hp).elim h1 fun h => h.elim h2 h3
  have hreply : entryReply s = s := by
    rw [entryReply.eq_def]
    split
    next hp _ => exact absurd hp h.scans
    · rfl
  have hscan : settleScan s = s := by
    have hwaits : ¬ (s.scan.phase = .stopping ∧ (s.scan.stage = .none ∨ s.scan.stage = .written)) :=
      fun ⟨hp, hs⟩ => hs.elim (h.stopping hp).1 (h.stopping hp).2
    simp only [settleScan, hidle, if_neg hwaits, hreply]
  have hcheck : settleCheck s = s := by simp [settleCheck, h.scans]
  have hsleep : settleSleep s = s := by simp [settleSleep, h.sleepDue]
  have hdoze : settleDoze s = s := by rw [settleDoze, if_pos (.inr (.inl h.scans))]
  have hredo : settleRedo s = s := by simp [settleRedo, h.scans]
  rw [settle, hdrive, hscan, hcheck, hsleep, hdoze, hredo, settleAttn_eq]
  rfl

/-- Scanning that is to stop waits for the records of the frame in progress. -/
theorem State.InFrame.of_stopping {s : State} (hstop : s.scan.stopAt = none) (hdue : s.pwr.sleepDue = false)
    (hp : s.scan.phase = .stopping) (hstage : s.scan.stage ≠ .none ∧ s.scan.stage ≠ .written) : s.InFrame where
  stopAt := hstop
  sleepDue := hdue
  scans := by simp [hp]
  stopping _ := hstage
  idle _ hframes := by simp [hp] at hframes

/-! ## Power requests -/

@[simp] theorem State.entered_pnat (s : State) (tk : Tick) (id : Nat) : (s.entered tk).pnat id = s.pnat id :=
  pnat_congr (by simp) (by simp) id

theorem askStop_frames {s : State} (h : s.scan.phase = .frames) :
    askStop s = { s with scan := { s.scan with phase := .stopping } } := by
  rw [askStop, h]

theorem askDoze_active {s : State} (cause : Nat) (hst : s.pwr.st = 3) (he : s.pwr.entry = none)
    (hb : s.trust.boundary = false) :
    askDoze cause s = { s with pwr := { s.pwr with next := some (2, cause, s.pnat 0x408) } } := by
  simp [askDoze, hst, he, hb]

theorem requestSleep_none {s : State} (h : s.pnat 0x40C = 0) : requestSleep s = s := by
  simp [requestSleep, h]

theorem requestSleep_dormant {s : State} (h : s.pnat 0x40C = 3) (hst : 2 ≤ s.pwr.st.toNat) (he : s.pwr.entry = none) :
    requestSleep s = askEntry 0 7 none s := by
  simp [requestSleep, h, he, Nat.not_lt.mpr hst]

/-- An entry asked for while frames run: scanning is to stop, and PD5 follows what is left of the Level converter's work. -/
theorem askEntry_frames {s : State} (target cause : Nat) (tag : Option Nat) (hb : s.trust.boundary = false)
    (hp : s.scan.phase = .frames) :
    (askEntry target cause tag s).scan = { s.scan with phase := .stopping } ∧
      (askEntry target cause tag s).pwr = { s.pwr with
        entry := some ⟨target, cause, tag⟩, entryRan := ranBefore s, next := none, ordered := none } := by
  rw [askEntry, if_neg (by simp [hb])]
  rw [askStop_frames (by exact hp)]
  simp

theorem askEntry_keepsBut (target cause : Nat) (tag : Option Nat) (s : State) :
    KeepsBut [.scan, .plane, .pwr, .lvl] s (askEntry target cause tag s) := by
  intro c hc
  cases c
  case scan | plane | pwr | lvl => simp at hc
  all_goals simp [Comp.same]

/-- A host that falls asleep while no wake check runs requests sleep_state at once (08 R244). -/
theorem fallAsleep_requests {s : State} (h : s.pwr.wakeCheck = false) :
    ∃ a, fallAsleep s = requestSleep { s with attn := a, pwr := { s.pwr with sleepFrom := some s.now } } := by
  unfold fallAsleep
  split
  · rw [wakeAsk_eq]
    exact ⟨_, if_neg (by simp [h])⟩
  · exact ⟨s.attn, if_neg (by simp [h])⟩

/-! ## HSLEEP (08 R243, R244) -/

/-- The host has fallen asleep by HSLEEP; sleep_state is not yet requested. -/
def State.fellAsleep (s : State) (a : Attn) : State :=
  { s with attn := a, pwr := { s.pwr with hsleep := true, sleepFrom := some s.now } }

theorem fellAsleep_keepsBut (s : State) (a : Attn) : KeepsBut [.pwr, .attn] s (s.fellAsleep a) := by
  intro c hc
  cases c
  case pwr | attn => simp at hc
  all_goals rfl

/-- HSLEEP_RISE on a host that was awake: what sleep_state requests is the effect. -/
theorem exec_hsleepRise_awake (tk : Tick) {s : State} (hlow : s.pwr.hsleep = false) (hawake : s.asleep = false)
    (hcheck : s.pwr.wakeCheck = false) :
    ∃ a, exec (.hsleepRise tk) s = runAt tk s fun u => requestSleep (u.fellAsleep a) := by
  obtain ⟨a, ha⟩ := fallAsleep_requests (s := { s.entered tk with pwr := { (s.entered tk).pwr with hsleep := true } })
    (by simpa using hcheck)
  have hlow' : (s.entered tk).pwr.hsleep = false := by simpa using hlow
  have hawake' : (s.entered tk).asleep = false := by simpa [State.asleep] using hawake
  refine ⟨a, ?_⟩
  rw [exec_hsleepRise, execHsleepRise, runAt, runAt]
  simp only [hlow', hawake', Bool.false_eq_true, if_false, ha]
  rfl

/-- HSLEEP_RISE with no sleep_state. -/
theorem runs_hsleepRise_stays (tk : Tick) {s : State} (hc : s.calm) (hlow : s.pwr.hsleep = false)
    (hawake : s.asleep = false) (hcheck : s.pwr.wakeCheck = false) (hstate : s.pnat 0x40C = 0) :
    Runs (.hsleepRise tk) s fun t =>
      t.pwr = { s.pwr with hsleep := true, sleepFrom := some (s.entered tk).now } ∧
        KeepsBut [.pwr, .attn] (s.entered tk) t := by
  obtain ⟨a, ha⟩ := exec_hsleepRise_awake tk hlow hawake hcheck
  rw [Runs, ha]
  refine runAt_unmoved tk (w := (s.entered tk).fellAsleep a)
    (requestSleep_none (by exact (State.entered_pnat s tk _).trans hstate))
    (settle_calm _ (by simpa [State.calm, State.fellAsleep] using hc)) (fellAsleep_keepsBut _ a) (by decide) (by decide)
    fun t ht hk => ⟨?_, hk⟩
  rw [show t.pwr = _ from ht .pwr (by decide), State.fellAsleep, State.entered_pwr]

/-- HSLEEP_RISE with DORMANT as sleep_state, in a frame: the entry waits for the frame's records. -/
theorem runs_hsleepRise_dormant (tk : Tick) {s : State} (hc : s.calm) (hlow : s.pwr.hsleep = false)
    (hawake : s.asleep = false) (hcheck : s.pwr.wakeCheck = false) (hstate : s.pnat 0x40C = 3)
    (hst : 2 ≤ s.pwr.st.toNat) (hb : s.trust.boundary = false) (hp : s.scan.phase = .frames)
    (hnone : s.scan.stage ≠ .none) (hwritten : s.scan.stage ≠ .written) :
    Runs (.hsleepRise tk) s fun t =>
      t.pwr.hsleep = true ∧ t.pwr.entry = some ⟨0, 7, none⟩ ∧ t.scan.phase = .stopping := by
  obtain ⟨a, ha⟩ := exec_hsleepRise_awake tk hlow hawake hcheck
  obtain ⟨hscan, hpwr⟩ := askEntry_frames (s := (s.entered tk).fellAsleep a) 0 7 none
    (by simpa [State.fellAsleep] using hb) (by simpa [State.fellAsleep] using hp)
  have hframe : ((s.entered tk).fellAsleep a).scan = s.scan := State.entered_scan s tk
  rw [hframe] at hscan
  rw [Runs, ha]
  refine runAt_unmoved tk (w := askEntry 0 7 none ((s.entered tk).fellAsleep a)) (cs := [.scan, .plane, .pwr, .lvl, .attn])
    (requestSleep_dormant (by exact (State.entered_pnat s tk _).trans hstate)
      (by simpa [State.fellAsleep] using hst) (by simpa [State.fellAsleep] using hc.quiet.entry))
    (settle_inFrame (State.InFrame.of_stopping ?_ ?_ ?_ ?_)) ?_ (by decide) (by decide) fun t ht _ => ?_
  · rw [hscan]; exact hc.quiet.stopAt
  · rw [hpwr]; simpa [State.fellAsleep] using hc.quiet.sleepDue
  · rw [hscan]
  · rw [hscan]; exact ⟨hnone, hwritten⟩
  · exact keepsBut_trans (keepsBut_mono (fellAsleep_keepsBut _ a) (by decide))
      (keepsBut_mono (askEntry_keepsBut _ _ _ _) (by decide))
  · rw [show t.pwr = _ from ht .pwr (by decide), show t.scan = _ from ht .scan (by decide), hpwr, hscan]
    exact ⟨rfl, rfl, rfl⟩

/-- The host is awake, and no sleep request waits for it. -/
theorem wakeHost_awake {s : State} (h : s.asleep = false) (hdue : s.pwr.sleepDue = false) :
    wakeHost s = { s with pwr := { s.pwr with sleepFrom := none } } := by
  rw [wakeHost, h]
  simp only [Bool.false_eq_true, if_false, hdue]

/-- HSLEEP_FALL on a host that is asleep by HSLEEP alone. -/
theorem runs_hsleepFall (tk : Tick) {s : State} (hc : s.calm) (hhost : s.pwr.hostAsleep = false) :
    Runs (.hsleepFall tk) s fun t =>
      t.pwr = { s.pwr with hsleep := false, sleepFrom := none } ∧ KeepsBut [.pwr, .attn] (s.entered tk) t := by
  rw [Runs, exec_hsleepFall, execHsleepFall]
  refine runAt_unmoved (w := { s.entered tk with pwr := { s.pwr with hsleep := false, sleepFrom := none } }) tk ?_
    (settle_calm _ (by simpa [State.calm] using hc)) (keepsBut_mono (keepsBut_pwr _ _) (by decide)) (by decide) (by decide)
    fun t ht hk => ⟨ht .pwr (by decide), hk⟩
  have hawake : (State.asleep { s.entered tk with pwr := { (s.entered tk).pwr with hsleep := false } }) = false := by
    simp only [State.asleep, State.entered_pwr, hhost, Bool.or_self]
  rw [wakeHost_awake hawake (by rw [State.entered_pwr]; exact hc.quiet.sleepDue), State.entered_pwr]

/-! ## Idle time (08 R233, R544) -/

/-- The idle time has run from an instant. -/
theorem idle_late {s : State} {tk : Tick} {from_ : Time} {id : Nat} (h0 : s.pnat id ≠ 0)
    (hr : reached (s.entered tk).now (from_ + BitVec.ofNat 56 (8388608 * s.pnat id)) = true) :
    (s.pnat id != 0 && reached (s.entered tk).now (tAdd from_ (8388608 * s.pnat id))) = true := by
  simp [h0, tAdd, hr]

/-- IDLE_TIMEOUT while frames run with no contact, in ACTIVE: DOZE is asked for. -/
theorem runs_idleTimeout_active (tk : Tick) {s : State} (hc : s.calm) (hp : s.scan.phase = .frames)
    (hm : s.casc.role ≠ .member) (hcont : s.trk.contacts = []) (hcheck : s.pwr.wakeCheck = false) (hst : s.pwr.st = 3)
    (h0 : s.pnat 0x409 ≠ 0)
    (hr : reached (s.entered tk).now (s.pwr.idleFrom + BitVec.ofNat 56 (8388608 * s.pnat 0x409)) = true)
    (hb : s.trust.boundary = false) :
    Runs (.idleTimeout tk) s fun t =>
      t.pwr = { s.pwr with next := some (2, 8, s.pnat 0x408) } ∧ KeepsBut [.pwr, .attn] (s.entered tk) t := by
  have hentry := hc.quiet.entry
  rw [Runs, exec_idleTimeout, execIdleTimeout]
  refine runAt_unmoved (w := { s.entered tk with pwr := { s.pwr with next := some (2, 8, s.pnat 0x408) } }) tk ?_
    (settle_inFrame ?_) (keepsBut_mono (keepsBut_pwr _ _) (by decide)) (by decide) (by decide)
    fun t ht hk => ⟨ht .pwr (by decide), hk⟩
  · dsimp only
    rw [if_neg (by simp [hp, hm, hcont, hcheck, hentry, hc.next]),
      if_pos ⟨by simpa using hst, by simpa using idle_late h0 hr⟩,
      askDoze_active 8 (by simpa using hst) (by simpa using hentry) (by simpa using hb)]
    simp
  · exact ⟨by simpa using hc.quiet.stopAt, hc.quiet.sleepDue, by simp [hp], by simp [hp], by simp [hentry]⟩

/-- IDLE_TIMEOUT while frames run with no contact, in DOZE with the host asleep: WATCH is asked for, once the tracker is done
with the frame. -/
theorem runs_idleTimeout_doze (tk : Tick) {s : State} (hc : s.calm) (hp : s.scan.phase = .frames)
    (hm : s.casc.role ≠ .member) (hcont : s.trk.contacts = []) (hcheck : s.pwr.wakeCheck = false) (hst : s.pwr.st = 2)
    (hasleep : s.asleep = true) (h0 : s.pnat 0x40A ≠ 0)
    (hr : reached (s.entered tk).now
      (laterOf s.pwr.idleFrom s.pwr.sleepFrom + BitVec.ofNat 56 (8388608 * s.pnat 0x40A)) = true)
    (hb : s.trust.boundary = false) (hstage : s.scan.stage = .decoded) :
    Runs (.idleTimeout tk) s fun t =>
      t.pwr = { s.pwr with entry := some ⟨1, 8, none⟩, next := none } ∧ KeepsBut [.pwr, .attn] (s.entered tk) t := by
  have hentry := hc.quiet.entry
  rw [Runs, exec_idleTimeout, execIdleTimeout]
  refine runAt_unmoved (w := { s.entered tk with pwr := { s.pwr with entry := some ⟨1, 8, none⟩, next := none } }) tk ?_
    (settle_inFrame ?_) (keepsBut_mono (keepsBut_pwr _ _) (by decide)) (by decide) (by decide)
    fun t ht hk => ⟨ht .pwr (by decide), hk⟩
  · have hasleep' : (s.entered tk).asleep = true := by simpa [State.asleep] using hasleep
    dsimp only
    rw [if_neg (by simp [hp, hm, hcont, hcheck, hentry, hc.next]), if_neg (by simp [hst]),
      if_pos ⟨by simpa using hst, hasleep', by simpa using idle_late h0 hr⟩, if_neg (by simp [hb])]
    simp
  · exact ⟨by simpa using hc.quiet.stopAt, hc.quiet.sleepDue, by simp [hp], by simp [hp], fun _ _ => by simp [hstage]⟩

/-! ## The wake check (08 R242) -/

/-- What the wake check held for the host is dropped, and the report ring is back at the check's write pointer. -/
def State.checkDropped (s : State) : State :=
  { s with
    report := { s.report with items := s.report.items.take s.pwr.checkRecs, head := s.pwr.checkHead }
    trk := { s.trk with heldSources := 0, withheld := 0, queue := [], ended := [] }
    pwr := { s.pwr with checkFailed := true } }

theorem checkDropped_keepsBut (s : State) : KeepsBut [.report, .trk, .pwr] s s.checkDropped := by
  intro c hc
  cases c
  case report | trk | pwr => simp at hc
  all_goals rfl

/-- The wake check that fails while frames run: event 0x0405, and scanning is to stop. -/
theorem failCheck_frames {s : State} (hp : s.scan.phase = .frames) {w : State}
    (hw : tally 0x405 (d48 [(8, s.pwr.wakeCause.toNat), (16, satAt 65535 s.pwr.checkFrames)]) s.checkDropped = w) :
    failCheck s = { w with scan := { s.scan with phase := .stopping } } := by
  have hscan : w.scan = s.scan := by rw [← hw]; simp [State.checkDropped]
  rw [← hscan, ← askStop_frames (by rw [hscan, hp]), ← hw]
  rfl

/-- WAKE_CHECK_TIMEOUT in a frame, when no record ended the check. -/
theorem runs_wakeCheckTimeout (tk : Tick) {s : State} (hc : s.calm) (hover : checkOver (s.entered tk) = true)
    (htriv : trivialCheck s = false) (hp : s.scan.phase = .frames) (hnone : s.scan.stage ≠ .none)
    (hwritten : s.scan.stage ≠ .written) :
    Runs (.wakeCheckTimeout tk) s fun t =>
      t.pwr.checkFailed = true ∧ t.scan.phase = .stopping ∧
      t.tally = (tally 0x405 (d48 [(8, s.pwr.wakeCause.toNat), (16, satAt 65535 s.pwr.checkFrames)]) (s.entered tk)).tally ∧
      t.report.items = s.report.items.take s.pwr.checkRecs ∧ t.report.head = s.pwr.checkHead ∧
      t.report.tail = s.report.tail ∧ KeepsBut ([.pwr, .scan, .report] ++ tallyComps) (s.entered tk) t := by
  have htriv' : trivialCheck (s.entered tk) = false := by simpa [trivialCheck] using htriv
  generalize hw : tally 0x405 (d48 [(8, s.pwr.wakeCause.toNat), (16, satAt 65535 s.pwr.checkFrames)])
    (s.entered tk).checkDropped = w
  have hpwr : w.pwr = (s.entered tk).checkDropped.pwr := by rw [← hw, tally_pwr]
  have hreport : w.report = (s.entered tk).checkDropped.report := by rw [← hw, tally_report]
  have htally : w.tally = (tally 0x405 (d48 [(8, s.pwr.wakeCause.toNat), (16, satAt 65535 s.pwr.checkFrames)])
    (s.entered tk)).tally := by
    rw [← hw]; exact tally_same _ _ ⟨rfl, rfl, rfl, rfl, rfl, rfl, rfl⟩
  rw [Runs, exec_wakeCheckTimeout, execWakeCheckTimeout]
  refine runAt_unmoved (w := { w with scan := { s.scan with phase := .stopping } })
    (cs := [.pwr, .scan, .report] ++ tallyComps) tk ?_ (settle_inFrame (State.InFrame.of_stopping ?_ ?_ rfl ⟨hnone, hwritten⟩))
    ?_ (by decide) (by decide) fun t ht hk => ?_
  · rw [if_pos ⟨hover, by simp [htriv']⟩, failCheck_frames (by simpa using hp) (by simpa using hw), State.entered_scan]
  · exact hc.quiet.stopAt
  · show w.pwr.sleepDue = false
    rw [hpwr]; simpa [State.checkDropped] using hc.quiet.sleepDue
  · have hdrop : KeepsBut ([.pwr, .scan, .report] ++ tallyComps) (s.entered tk) w := hw ▸
      keepsBut_trans (keepsBut_mono (checkDropped_keepsBut _) (by decide)) (keepsBut_mono (tally_keepsBut _ _ _) (by decide))
    exact keepsBut_trans hdrop (keepsBut_mono (keepsBut_scan _ _) (by decide))
  · have htp : t.pwr = w.pwr := ht .pwr (by decide)
    have htr : t.report = w.report := ht .report (by decide)
    have hts : t.scan = { s.scan with phase := .stopping } := ht .scan (by decide)
    have htt : t.tally = w.tally := ht .tally (by decide)
    rw [htp, htr, hts, htt, hpwr, hreport]
    exact ⟨rfl, rfl, htally, by simp [State.checkDropped], by simp [State.checkDropped], by simp [State.checkDropped], hk⟩

/-- Settles O48: each command's effect is the one stated, and settling leaves it, for in a frame neither the entry nor the
failed check goes on before the frame's records. -/
theorem sleepingHostAndIdleTime : Obligations.SleepingHostAndIdleTime := by
  unfold Obligations.SleepingHostAndIdleTime
  intro s tk hc u
  have hu : u = s.entered tk := rfl
  clear_value u
  subst hu
  refine ⟨fun hlow hawake hcheck => ⟨fun hstate => ?_, fun hstate hst hb hp hnone hwritten => ?_⟩, fun _ hhost => ?_,
    fun hp hm hcont hcheck hst h0 hr hb => ?_, fun hp hm hcont hcheck hst hasleep h0 hr hb hstage => ?_,
    fun hover htriv hp hnone hwritten => ?_⟩
  · exact runs_hsleepRise_stays tk hc hlow hawake hcheck hstate
  · exact runs_hsleepRise_dormant tk hc hlow hawake hcheck hstate hst hb hp hnone hwritten
  · exact runs_hsleepFall tk hc hhost
  · exact runs_idleTimeout_active tk hc hp hm hcont hcheck hst h0 hr hb
  · exact runs_idleTimeout_doze tk hc hp hm hcont hcheck hst hasleep h0 hr hb hstage
  · exact runs_wakeCheckTimeout tk hc hover htriv hp hnone hwritten

end Sys2Proof.Machine
end

section
/-! Proofs of family 08_sill_scan_power: Sill scan (O47). -/

namespace Sys2Proof.Machine

/-! ## Sill parameters -/

@[simp] theorem State.entered_snat (s : State) (tk : Tick) (id : Nat) : (s.entered tk).snat id = s.snat id := by
  simp only [State.snat, State.entered_part, State.entered_pwr]

@[simp] theorem State.entered_sillEntry (s : State) (tk : Tick) (g : Nat) : (s.entered tk).sillEntry g = s.sillEntry g := by
  simp only [State.sillEntry, State.entered_part, State.entered_pwr]

/-! ## Transitions and wakes -/

/-- No transition has been set off or made: what decides on them is as before. -/
structure KeepsPlans (u w : State) : Prop where
  scan : w.scan = u.scan
  casc : w.casc = u.casc
  entry : w.pwr.entry = u.pwr.entry
  next : w.pwr.next = u.pwr.next
  checkFailed : w.pwr.checkFailed = u.pwr.checkFailed
  sleepDue : w.pwr.sleepDue = u.pwr.sleepDue

theorem KeepsPlans.trans {u v w : State} (h : KeepsPlans u v) (h' : KeepsPlans v w) : KeepsPlans u w :=
  ⟨h'.scan.trans h.scan, h'.casc.trans h.casc, h'.entry.trans h.entry, h'.next.trans h.next,
    h'.checkFailed.trans h.checkFailed, h'.sleepDue.trans h.sleepDue⟩

theorem KeepsPlans.calm {u w : State} (h : KeepsPlans u w) (hu : u.calm) : w.calm := by
  simpa only [State.calm, h.scan, h.casc, h.entry, h.next, h.checkFailed, h.sleepDue] using hu

theorem keepsPlans_tally (code data : Nat) (s : State) : KeepsPlans s (tally code data s) := by
  constructor <;> simp

/-- A command of effect `w` that keeps the plans completes with that effect and its frame. -/
theorem runAt_keepsPlans (tk : Tick) {s w : State} {f : State → State} {cs : List Comp} {q : State → Prop} (hc : s.calm)
    (hf : f (s.entered tk) = w) (hw : KeepsPlans (s.entered tk) w) (hk : KeepsBut cs (s.entered tk) w)
    (hcs : ∀ c ∈ [Comp.part, .dieRevision, .pending, .casc], c ∉ cs) (ha : .attn ∈ cs)
    (hq : ∀ t, KeepsBut [.attn] w t → KeepsBut cs (s.entered tk) t → q t) : ∃ t, runAt tk s f = .next t ∧ q t :=
  runAt_unmoved tk hf (settle_calm w (hw.calm (by simpa using hc))) hk hcs ha hq

/-- A wake has begun (08 Table 8.3); `low` is the instant until which this tile holds SYNC low. -/
def State.wakeBegun (s : State) (w : Wake) (low : Option Time) : State :=
  { s with
    time := { s.time with stage := .waitEdge, vcoreMv := 900 }
    pwr := { s.pwr with waking := some w, wakeT := s.now, periodT := none, syncLow := low } }

theorem wakeBegun_keepsBut (s : State) (w : Wake) (low : Option Time) : KeepsBut [.time, .pwr] s (s.wakeBegun w low) := by
  intro c hc
  cases c
  case time | pwr => simp at hc
  all_goals rfl

theorem keepsPlans_wakeBegun (s : State) (w : Wake) (low : Option Time) : KeepsPlans s (s.wakeBegun w low) := by
  constructor <;> rfl

/-- A wake begins while none does. -/
theorem startWake_begins {s : State} (w : Wake) (h : s.pwr.waking = none) : ∃ low, startWake w s = s.wakeBegun w low := by
  simp only [startWake, h, pullSync]
  split
  · exact ⟨_, rfl⟩
  · exact ⟨s.pwr.syncLow, rfl⟩

/-! ## The next window (08 R238, R239) -/

/-- The groups that a period measures, armed ones first, then the others, each in ascending order (08 R239). -/
def sillOrder (sills : List Sill) : List Nat :=
  let live := (List.range 8).filter fun g => (sills.getD g .idle).live
  (live.filter fun g => (sills.getD g .idle).armed) ++ live.filter fun g => !(sills.getD g .idle).armed

/-- A live group comes first when every other live group comes after it and is not armed. -/
theorem sillOrder_head? {sills : List Sill} {g : Nat} (hg : g < 8) (hlive : (sills.getD g .idle).live = true)
    (hothers : ∀ h < 8, h ≠ g → (sills.getD h .idle).live = true → g < h ∧ (sills.getD h .idle).armed = false) :
    (sillOrder sills).head? = some g := by
  have hbefore : ∀ j < g, (sills.getD j .idle).live = false := fun j hj =>
    Bool.eq_false_iff.mpr fun hl => absurd (hothers j (by omega) (by omega) hl).1 (by omega)
  rw [sillOrder, List.head?_append, List.filter_filter, List.filter_filter, List.head?_filter, List.head?_filter]
  cases ha : (sills.getD g .idle).armed
  case true =>
    have hfirst : (List.range 8).find? (fun h => (sills.getD h .idle).armed && (sills.getD h .idle).live) = some g := by
      rw [List.find?_range_eq_some]
      exact ⟨by simp only [ha, hlive, Bool.and_self], List.mem_range.mpr hg,
        fun j hj => by rw [hbefore j hj, Bool.and_false]; rfl⟩
    rw [hfirst, Option.some_or]
  case false =>
    have hnone : (List.range 8).find? (fun h => (sills.getD h .idle).armed && (sills.getD h .idle).live) = none := by
      rw [List.find?_eq_none]
      intro h hh hand
      obtain ⟨harm, hl⟩ := Bool.and_eq_true_iff.mp hand
      by_cases hne : h = g
      · rw [hne, ha] at harm; exact Bool.false_ne_true harm
      · exact Bool.false_ne_true ((hothers h (List.mem_range.mp hh) hne hl).2.symm.trans harm)
    have hfirst : (List.range 8).find? (fun h => !(sills.getD h .idle).armed && (sills.getD h .idle).live) = some g := by
      rw [List.find?_range_eq_some]
      exact ⟨by simp only [ha, hlive, Bool.not_false, Bool.and_self], List.mem_range.mpr hg,
        fun j hj => by rw [hbefore j hj, Bool.and_false]; rfl⟩
    rw [hnone, hfirst, Option.none_or]

/-- The first group due is measured when its window ends by the next period start. -/
theorem pickWindow_first {s : State} {t next : Time} {todo : List Nat} {g : Nat} (hfirst : todo.head? = some g)
    (hlive : (s.pwr.sills.getD g .idle).live = true)
    (hr : reached next (tAdd t (256 * byteAt (s.sillEntry g) 0)) = true) :
    (pickWindow s t next todo).1 = some (g, tAdd t (256 * byteAt (s.sillEntry g) 0)) := by
  cases todo with
  | nil => simp at hfirst
  | cons a r =>
    obtain rfl : a = g := by simpa using hfirst
    rw [pickWindow, if_pos (by rw [hlive, hr]; rfl)]

/-- The choice of the next window changes the window and what is still to measure. -/
theorem nextWindow_eq (t : Time) (s : State) :
    ∃ w l, nextWindow t s = { s with pwr := { s.pwr with window := w, todo := l } } := by
  unfold nextWindow
  split
  · exact ⟨_, _, rfl⟩
  · exact ⟨s.pwr.window, s.pwr.todo, rfl⟩

theorem nextWindow_keepsBut (t : Time) (s : State) : KeepsBut [.pwr] s (nextWindow t s) := by
  obtain ⟨w, l, h⟩ := nextWindow_eq t s
  rw [h]
  exact keepsBut_pwr s _

theorem keepsPlans_nextWindow (t : Time) (s : State) : KeepsPlans s (nextWindow t s) := by
  obtain ⟨w, l, h⟩ := nextWindow_eq t s
  rw [h]
  constructor <;> rfl

@[simp] theorem nextWindow_sills (t : Time) (s : State) : (nextWindow t s).pwr.sills = s.pwr.sills := by
  obtain ⟨w, l, h⟩ := nextWindow_eq t s
  rw [h]

@[simp] theorem nextWindow_waking (t : Time) (s : State) : (nextWindow t s).pwr.waking = s.pwr.waking := by
  obtain ⟨w, l, h⟩ := nextWindow_eq t s
  rw [h]

@[simp] theorem nextWindow_st (t : Time) (s : State) : (nextWindow t s).pwr.st = s.pwr.st := by
  obtain ⟨w, l, h⟩ := nextWindow_eq t s
  rw [h]

@[simp] theorem nextWindow_periodT (t : Time) (s : State) : (nextWindow t s).pwr.periodT = s.pwr.periodT := by
  obtain ⟨w, l, h⟩ := nextWindow_eq t s
  rw [h]

@[simp] theorem nextWindow_tally (t : Time) (s : State) : (nextWindow t s).tally = s.tally :=
  nextWindow_keepsBut t s .tally (by decide)

theorem nextWindow_window {t next : Time} {s : State} (h : s.pwr.periodT = some next) :
    (nextWindow t s).pwr.window = (pickWindow s t next s.pwr.todo).1 := by
  rw [nextWindow, h]

/-! ## SILL_PERIOD_START (08 R238) -/

/-- A period has begun whose first window is not yet chosen. -/
def State.periodBegun (s : State) (p : Time) : State :=
  { s with pwr := { s.pwr with periodT := some (tAdd p (256 * s.snat 0x400)), todo := sillOrder s.pwr.sills } }

theorem periodBegun_periodT (s : State) (p : Time) :
    (nextWindow p (s.periodBegun p)).pwr.periodT = some (tAdd p (256 * s.snat 0x400)) :=
  nextWindow_periodT p _

/-- The first group of the order is measured from the period's start. -/
theorem periodBegun_window {s : State} {p : Time} {g : Nat} (hfirst : (sillOrder s.pwr.sills).head? = some g)
    (hlive : (s.pwr.sills.getD g .idle).live = true)
    (hr : reached (tAdd p (256 * s.snat 0x400)) (tAdd p (256 * byteAt (s.sillEntry g) 0)) = true) :
    (nextWindow p (s.periodBegun p)).pwr.window = some (g, tAdd p (256 * byteAt (s.sillEntry g) 0)) :=
  (nextWindow_window rfl).trans (pickWindow_first (s := s.periodBegun p) hfirst hlive hr)

/-- SILL_PERIOD_START when its instant has come and no window runs. -/
theorem runs_sillPeriodStart (tk : Tick) {s : State} {p : Time} (hc : s.calm) (hst : s.pwr.st = 1)
    (hwake : s.pwr.waking = none) (hp : s.pwr.periodT = some p) (hr : reached (s.entered tk).now p = true)
    (hw : s.pwr.window = none) :
    Runs (.sillPeriodStart tk) s fun t =>
      t.pwr = (nextWindow p ((s.entered tk).periodBegun p)).pwr ∧ KeepsBut [.pwr, .attn] (s.entered tk) t := by
  rw [Runs, exec_sillPeriodStart, execSillPeriodStart]
  refine runAt_keepsPlans tk (w := nextWindow p ((s.entered tk).periodBegun p)) hc ?_
    (KeepsPlans.trans (by constructor <;> rfl) (keepsPlans_nextWindow _ _)) ?_ (by decide) (by decide)
    fun t ht hk => ⟨ht .pwr (by decide), hk⟩
  · simp only [State.entered_pwr, hp]
    rw [if_pos ⟨hst, hr, hw, hwake⟩, State.periodBegun, sillOrder, State.entered_pwr]
  · exact keepsBut_trans (keepsBut_mono (keepsBut_pwr _ _) (by decide)) (keepsBut_mono (nextWindow_keepsBut _ _) (by decide))

/-! ## A reading (08 R239, R240) -/

/-- What a reading does to its group. -/
def State.readSill (s : State) (g count : Nat) : Sill × Bool × Bool :=
  sillRead (fieldAt (s.sillEntry g) 2 2) (s.snat 0x402) (s.snat 0x403) count (s.pwr.sills.getD g .idle)

/-- The state with a group as it is after its reading; an armed one is measured again at once. -/
def State.withSill (s : State) (g : Nat) (q : Sill) : State :=
  { s with pwr := { s.pwr with
      sills := s.pwr.sills.set g q, todo := if q.armed then g :: s.pwr.todo else s.pwr.todo } }

/-- The fourth reading since the entry gives the baseline, the mean of the four. -/
theorem sillRead_fourth {g : Sill} (th confirm shift count : Nat) (h : g.acq = 3) :
    sillRead th confirm shift count g =
      ({ g with last := count, acq := 4, acqSum := g.acqSum + count, above := false
                b := 64 * ((g.acqSum + count : Nat) : Int) }, false, false) := by
  simp [sillRead, h]

/-- A quiet reading moves the baseline. -/
theorem sillRead_quiet {g : Sill} {th count : Nat} (confirm shift : Nat) (hacq : 4 ≤ g.acq) (harm : g.armed = false)
    (hd : g.b / 256 - (count : Int) < (th : Int)) :
    sillRead th confirm shift count g =
      ({ g with last := count, above := false
                b := g.b + asr (256 * (count : Int) - g.b) (if g.b / 256 - (count : Int) < 0 then 2 else shift) },
        false, false) := by
  simp [sillRead, Nat.not_lt.mpr hacq, harm, Int.not_le.mpr hd]

/-- A first reading at the threshold, with no more to confirm, is an onset and a detection, and arms nothing. -/
theorem sillRead_detects {g : Sill} {th confirm count : Nat} (shift : Nat) (hacq : 4 ≤ g.acq) (harm : g.armed = false)
    (habove : g.above = false) (hd : (th : Int) ≤ g.b / 256 - (count : Int)) (hconfirm : confirm ≤ 1) :
    sillRead th confirm shift count g =
      ({ g with last := count, above := true, armed := false, confirms := 1 }, true, true) := by
  simp [sillRead, Nat.not_lt.mpr hacq, harm, habove, hd, hconfirm]

/-- A count in range. -/
theorem count_inRange {edges : Nat} (h16 : 16 ≤ edges) (hmax : edges < 65535) :
    satAt 65535 edges = edges ∧ ¬ (satAt 65535 edges = 65535 ∨ satAt 65535 edges < 16) := by
  have h : satAt 65535 edges = edges := if_pos (Nat.le_of_lt hmax)
  exact ⟨h, by omega⟩

/-- What follows a reading: an onset's run of groups, the wake that a confirmed detection begins, or the next window. -/
def afterReading (g : Nat) (t : Time) (onset confirmed : Bool) (s : State) : State :=
  let s := if onset then sillOnset g t s else s
  let s := if confirmed ∧ s.snat 0x404 = 0 then startWake (1, 3, some (s.pnat 0x111)) s else s
  if s.pwr.waking.isSome then s else nextWindow t s

theorem sillReading_inRange {s : State} {g edges : Nat} {q : Sill} {onset confirmed : Bool} (t : Time) (h16 : 16 ≤ edges)
    (hmax : edges < 65535) (hread : s.readSill g edges = (q, onset, confirmed)) :
    sillReading g t edges s = afterReading g t onset confirmed (s.withSill g q) := by
  obtain ⟨hcount, hin⟩ := count_inRange h16 hmax
  rw [State.readSill] at hread
  rw [sillReading, if_neg hin]
  simp only [hcount, hread]
  rfl

/-- A reading that is neither is followed by the next window. -/
theorem afterReading_plain {s : State} (g : Nat) (t : Time) (hwake : s.pwr.waking = none) :
    afterReading g t false false s = nextWindow t s := by
  simp [afterReading, hwake]

/-- A detection, where no swipe is asked for, begins the wake. -/
theorem afterReading_detects {s : State} (g : Nat) (t : Time) (hwake : s.pwr.waking = none) (hmode : s.snat 0x404 = 0) :
    ∃ low, afterReading g t true true s = s.wakeBegun (1, 3, some (s.pnat 0x111)) low := by
  obtain ⟨low, hlow⟩ := startWake_begins (1, 3, some (s.pnat 0x111)) hwake
  have honset : sillOnset g t s = s := by rw [sillOnset, if_pos (by simp [hmode])]
  refine ⟨low, ?_⟩
  simp only [afterReading, honset, hmode, and_self, if_true, hlow]
  rfl

/-- A group with a count out of range is disabled (08 R240). -/
def State.sillDisabled (s : State) (g count : Nat) : State :=
  { s with pwr := { s.pwr with
    sills := modAt s.pwr.sills g fun (q : Sill) => { q with faulty := true, armed := false, last := count } } }

/-- The chip stays in WATCH while another group is live. -/
theorem sillFault_stays {s : State} {g count : Nat}
    (h : ∃ h, h ≠ g ∧ h < s.pwr.sills.length ∧ (s.pwr.sills.getD h .idle).live = true) :
    sillFault g count s = tally 0x407 (d48 [(8, g), (8, 0), (16, count)]) (s.sillDisabled g count) := by
  obtain ⟨h, hne, hlt, hlive⟩ := h
  have hany : (s.sillDisabled g count).pwr.sills.any (·.live) = true := by
    rw [List.any_eq_true]
    refine ⟨s.pwr.sills.getD h .idle, ?_, hlive⟩
    rw [State.sillDisabled, modAt_eq_modify]
    refine List.mem_iff_getElem.mpr ⟨h, by simpa using hlt, ?_⟩
    simp [hne.symm, hlt]
  rw [sillFault]
  refine if_pos ?_
  rw [tally_pwr]
  exact hany

/-- A count below 16 is out of range. -/
theorem sillReading_low {s : State} {g edges : Nat} (t : Time) (h : edges < 16) :
    sillReading g t edges s = nextWindow t (sillFault g edges s) := by
  have hcount : satAt 65535 edges = edges := if_pos (by omega)
  rw [sillReading, hcount, if_pos (.inr h)]

/-! ## SILL_READING -/

/-- The window that ran has ended. -/
def State.windowEnded (s : State) : State := { s with pwr := { s.pwr with window := none } }

/-- SILL_READING at the end of its group's window is the group's reading. -/
theorem exec_sillReading_ended (tk : Tick) {s : State} {g edges : Nat} {e : Time} (hst : s.pwr.st = 1)
    (hwake : s.pwr.waking = none) (hw : s.pwr.window = some (g, e)) (hr : reached (s.entered tk).now e = true) :
    exec (.sillReading tk g edges) s = runAt tk s fun u => sillReading g e edges u.windowEnded := by
  rw [exec_sillReading, execSillReading, runAt, runAt]
  simp only [State.entered_pwr, hw]
  rw [if_pos ⟨hst, trivial, hr, .inl hwake⟩, State.windowEnded, State.entered_pwr]

/-- The state in which a group's reading acts once its register is as the reading leaves it. -/
def State.readingTaken (s : State) (g : Nat) (q : Sill) : State := s.windowEnded.withSill g q

theorem readingTaken_keepsBut (s : State) (g : Nat) (q : Sill) : KeepsBut [.pwr] s (s.readingTaken g q) := keepsBut_pwr s _

theorem keepsPlans_readingTaken (s : State) (g : Nat) (q : Sill) : KeepsPlans s (s.readingTaken g q) := by
  constructor <;> rfl

theorem readingTaken_sill {s : State} {g : Nat} (q : Sill) (hg : g < s.pwr.sills.length) :
    (s.readingTaken g q).pwr.sills.getD g .idle = q := by
  simp [State.readingTaken, State.withSill, State.windowEnded, hg]

/-- What a reading in range answers of: its group's register, and what follows. -/
theorem sillReading_taken (tk : Tick) {s : State} {g edges : Nat} {e : Time} {q : Sill} {onset confirmed : Bool}
    (h16 : 16 ≤ edges) (hmax : edges < 65535) (hread : s.readSill g edges = (q, onset, confirmed)) :
    sillReading g e edges (s.entered tk).windowEnded = afterReading g e onset confirmed ((s.entered tk).readingTaken g q) := by
  refine sillReading_inRange e h16 hmax ?_
  rw [← hread, State.readSill, State.readSill, ← State.entered_snat s tk, ← State.entered_snat s tk,
    ← State.entered_sillEntry s tk, ← State.entered_pwr s tk]
  rfl

/-- A reading that is neither an onset nor a detection. -/
theorem runs_sillReading_plain (tk : Tick) {s : State} {g edges : Nat} {e : Time} {q : Sill} (hc : s.calm)
    (hst : s.pwr.st = 1) (hwake : s.pwr.waking = none) (hw : s.pwr.window = some (g, e))
    (hr : reached (s.entered tk).now e = true) (hg : g < s.pwr.sills.length) (h16 : 16 ≤ edges) (hmax : edges < 65535)
    (hread : s.readSill g edges = (q, false, false)) :
    Runs (.sillReading tk g edges) s fun t =>
      t.pwr.sills.getD g .idle = q ∧ t.pwr.waking = none ∧ KeepsBut [.pwr, .attn] (s.entered tk) t := by
  have hwake' : ((s.entered tk).readingTaken g q).pwr.waking = none := (congrArg Power.waking (State.entered_pwr s tk)).trans hwake
  rw [Runs, exec_sillReading_ended tk hst hwake hw hr]
  refine runAt_keepsPlans tk hc ((sillReading_taken tk h16 hmax hread).trans (afterReading_plain g e hwake'))
    ((keepsPlans_readingTaken _ g q).trans (keepsPlans_nextWindow _ _)) (cs := [.pwr, .attn]) ?_ (by decide) (by decide)
    fun t ht hk => ?_
  · exact keepsBut_trans (keepsBut_mono (readingTaken_keepsBut _ g q) (by decide))
      (keepsBut_mono (nextWindow_keepsBut _ _) (by decide))
  · rw [show t.pwr = _ from ht .pwr (by decide), nextWindow_sills, nextWindow_waking,
      readingTaken_sill q (by simpa using hg)]
    exact ⟨rfl, hwake', hk⟩

/-- A reading that confirms a detection begins the wake, where no swipe is asked for. -/
theorem runs_sillReading_detects (tk : Tick) {s : State} {g edges : Nat} {e : Time} {q : Sill} (hc : s.calm)
    (hst : s.pwr.st = 1) (hwake : s.pwr.waking = none) (hw : s.pwr.window = some (g, e))
    (hr : reached (s.entered tk).now e = true) (h16 : 16 ≤ edges) (hmax : edges < 65535)
    (hread : s.readSill g edges = (q, true, true)) (hmode : s.snat 0x404 = 0) :
    Runs (.sillReading tk g edges) s fun t =>
      t.pwr.waking = some (1, 3, some (s.pnat 0x111)) ∧ t.pwr.wakeT = (s.entered tk).now ∧ t.pwr.periodT = none ∧
        KeepsBut [.time, .pwr, .attn] (s.entered tk) t := by
  have hwake' : ((s.entered tk).readingTaken g q).pwr.waking = none := (congrArg Power.waking (State.entered_pwr s tk)).trans hwake
  obtain ⟨low, hafter⟩ := afterReading_detects (s := (s.entered tk).readingTaken g q) g e hwake'
    ((State.entered_snat s tk _).trans hmode)
  rw [Runs, exec_sillReading_ended tk hst hwake hw hr]
  refine runAt_keepsPlans tk hc ((sillReading_taken tk h16 hmax hread).trans hafter)
    ((keepsPlans_readingTaken _ g q).trans (keepsPlans_wakeBegun _ _ _)) (cs := [.time, .pwr, .attn]) ?_ (by decide)
    (by decide) fun t ht hk => ?_
  · exact keepsBut_trans (keepsBut_mono (readingTaken_keepsBut _ g q) (by decide))
      (keepsBut_mono (wakeBegun_keepsBut _ _ _) (by decide))
  · rw [show t.pwr = _ from ht .pwr (by decide), ← State.entered_pnat s tk]
    exact ⟨rfl, rfl, rfl, hk⟩

/-- The state in which event 0x0407 is recorded, the group disabled. -/
def State.sillFaulty (s : State) (g count : Nat) : State := s.windowEnded.sillDisabled g count

theorem sillFaulty_keepsBut (s : State) (g count : Nat) : KeepsBut [.pwr] s (s.sillFaulty g count) := keepsBut_pwr s _

theorem keepsPlans_sillFaulty (s : State) (g count : Nat) : KeepsPlans s (s.sillFaulty g count) := by
  constructor <;> rfl

theorem sillFaulty_sameForTally (s : State) (g count : Nat) : SameForTally s (s.sillFaulty g count) :=
  ⟨rfl, rfl, rfl, rfl, rfl, rfl, rfl⟩

theorem sillFaulty_faulty {s : State} {g : Nat} (count : Nat) (hg : g < s.pwr.sills.length) :
    ((s.sillFaulty g count).pwr.sills.getD g .idle).faulty = true := by
  simp [State.sillFaulty, State.sillDisabled, State.windowEnded, modAt_eq_modify, hg]

/-- A count below 16 while another group is live. -/
theorem runs_sillReading_fault (tk : Tick) {s : State} {g edges : Nat} {e : Time} (hc : s.calm)
    (hst : s.pwr.st = 1) (hwake : s.pwr.waking = none) (hw : s.pwr.window = some (g, e))
    (hr : reached (s.entered tk).now e = true) (hg : g < s.pwr.sills.length) (hlow : edges < 16)
    (hother : ∃ h, h ≠ g ∧ h < s.pwr.sills.length ∧ (s.pwr.sills.getD h .idle).live = true) :
    Runs (.sillReading tk g edges) s fun t =>
      (t.pwr.sills.getD g .idle).faulty = true ∧ t.pwr.st = 1 ∧
      t.tally = (tally 0x407 (d48 [(8, g), (8, 0), (16, edges)]) (s.entered tk)).tally ∧
      KeepsBut (.pwr :: tallyComps) (s.entered tk) t := by
  have hother' : ∃ h, h ≠ g ∧ h < (s.entered tk).windowEnded.pwr.sills.length ∧
      ((s.entered tk).windowEnded.pwr.sills.getD h .idle).live = true := by
    simpa [State.windowEnded] using hother
  rw [Runs, exec_sillReading_ended tk hst hwake hw hr]
  refine runAt_keepsPlans tk hc ((sillReading_low e hlow).trans (congrArg (nextWindow e) (sillFault_stays hother')))
    (((keepsPlans_sillFaulty _ g edges).trans (keepsPlans_tally _ _ _)).trans (keepsPlans_nextWindow _ _))
    (cs := .pwr :: tallyComps) ?_ (by decide) (by decide) fun t ht hk => ?_
  · exact keepsBut_trans (keepsBut_trans (keepsBut_mono (sillFaulty_keepsBut _ g edges) (by decide))
      (keepsBut_mono (tally_keepsBut _ _ _) (by decide))) (keepsBut_mono (nextWindow_keepsBut _ _) (by decide))
  · rw [show t.pwr = _ from ht .pwr (by decide), show t.tally = _ from ht .tally (by decide), nextWindow_sills,
      nextWindow_st, nextWindow_tally, tally_pwr]
    exact ⟨sillFaulty_faulty edges (by simpa using hg), (congrArg Power.st (State.entered_pwr s tk)).trans hst,
      tally_same _ _ (sillFaulty_sameForTally (s.entered tk) g edges), hk⟩

/-- Settles O47: a period's start chooses the first group due; a reading's effect is that of its case in 08 R239, R240. -/
theorem sillScanDetects : Obligations.SillScanDetects := by
  unfold Obligations.SillScanDetects
  intro s tk hc hst hwake u
  have hu : u = s.entered tk := rfl
  clear_value u
  subst hu
  refine ⟨fun p hp hr hw => ?_, fun g e edges hw hr hg => ?_⟩
  · intro next
    obtain ⟨t, ht, hpwr, hk⟩ := runs_sillPeriodStart tk hc hst hwake hp hr hw
    refine ⟨t, ht, ?_, hk, fun g hg hlive hothers => ?_⟩
    · rw [hpwr, periodBegun_periodT, State.entered_snat]
      rfl
    · intro e he
      rw [hpwr, periodBegun_window (by simpa using sillOrder_head? hg hlive hothers) (by simpa using hlive)
        (by rw [State.entered_snat, State.entered_sillEntry]; exact he), State.entered_sillEntry]
      rfl
  · refine ⟨fun h16 hmax => ⟨fun hacq => ?_, fun hacq harm hd => ?_, fun hacq harm habove hd hconfirm hmode => ?_⟩,
      fun hlow hother => ?_⟩
    · obtain ⟨t, ht, hsill, -, hk⟩ := runs_sillReading_plain tk hc hst hwake hw hr hg h16 hmax (sillRead_fourth _ _ _ _ hacq)
      exact ⟨t, ht, hsill, hk⟩
    · exact runs_sillReading_plain tk hc hst hwake hw hr hg h16 hmax (sillRead_quiet _ _ hacq harm hd)
    · exact runs_sillReading_detects tk hc hst hwake hw hr h16 hmax (sillRead_detects _ hacq harm habove hd hconfirm) hmode
    · exact runs_sillReading_fault tk hc hst hwake hw hr hg hlow hother

end Sys2Proof.Machine
end

section
/-! Proofs of family 08_sill_scan_power: sleep and wakes (O46). -/

namespace Sys2Proof.Machine

/-! ## What is asked of the present state -/

@[simp] theorem State.entered_anySill (s : State) (tk : Tick) : (s.entered tk).anySill = s.anySill := by
  rw [State.entered_eq]; rfl

@[simp] theorem State.entered_dozeOk (s : State) (tk : Tick) : (s.entered tk).dozeOk = s.dozeOk := by
  rw [State.entered_eq]; rfl

@[simp] theorem State.entered_dormant (s : State) (tk : Tick) : (s.entered tk).dormant = s.dormant := by
  rw [State.entered_eq]; rfl

@[simp] theorem State.entered_inCascade (s : State) (tk : Tick) : (s.entered tk).inCascade = s.inCascade := by
  rw [State.entered_eq]; rfl

/-! ## Messages set no enumeration off (09 R264 to R267) -/

@[simp] theorem sendOne_redo (m : TenonMsg) (s : State) : (sendOne m s).casc.redo = s.casc.redo := by
  unfold sendOne
  split
  · rfl
  · rw [countDropped_casc]

@[simp] theorem sendTo_redo (acked : Bool) (type dest : Nat) (payload : TenonBody) (s : State) :
    (sendTo acked type dest payload s).casc.redo = s.casc.redo := by
  have hone : (sendOne (newMsg type dest payload s).1 (newMsg type dest payload s).2).casc.redo = s.casc.redo :=
    sendOne_redo _ _
  unfold sendTo
  split
  · exact hone
  · exact hone

@[simp] theorem sendCopies_redo (acked : Bool) (type : Nat) (payload : TenonBody) (ts : List Nat) (s : State) :
    (sendCopies acked type payload ts s).casc.redo = s.casc.redo :=
  foldl_keeps (fun s => s.casc.redo) _ (fun s t => sendTo_redo acked type t payload s) ts s

@[simp] theorem awaitAll_redo (m : TenonMsg) (ts : List Nat) (s : State) : (awaitAll m ts s).casc.redo = s.casc.redo :=
  foldl_keeps (fun s => s.casc.redo) (fun s t => awaitAck { m with dest := t } s) (fun _ _ => rfl) ts s

@[simp] theorem sendMsg_redo (type dest : Nat) (payload : TenonBody) (s : State) :
    (sendMsg type dest payload s).casc.redo = s.casc.redo := by
  unfold sendMsg
  dsimp only
  split
  · rw [sendCopies_redo]
    split
    · rw [awaitAll_redo]; rfl
    · rfl
  · exact sendTo_redo _ _ _ _ _

/-! ## Powering down (08 R230 to R232) -/

theorem closeSession_keepsBut (reset : Bool) (s : State) : KeepsBut [.mem] s (closeSession reset s) := by
  have hmem : ∃ m, closeSession reset s = { s with mem := m } := by
    unfold closeSession
    split
    · exact ⟨s.mem, rfl⟩
    · cases reset
      · exact ⟨_, rfl⟩
      · exact ⟨_, rfl⟩
  obtain ⟨m, hmem⟩ := hmem
  intro c hc
  rw [hmem]
  cases c
  case mem => simp at hc
  all_goals rfl

/-- Node memory and the tracker lose what is not retained (08 R230). -/
def State.nodesDown (s : State) : State :=
  if s.pnat 0x40B == 1 then discardBlock s
  else loseBaselines { s with
    plane := { Plane.initial with dets := s.plane.dets, detAt := s.plane.detAt, detCfg := s.plane.detCfg }
    trk := Tracker.initial }

theorem nodesDown_keepsBut (s : State) : KeepsBut [.base, .plane, .trk] s s.nodesDown := by
  intro c hc
  unfold State.nodesDown
  split
  · cases c
    case base | plane | trk => simp at hc
    all_goals rfl
  · cases c
    case base | plane | trk => simp at hc
    all_goals rfl

/-- The units that PD1 and PD5 feed are off (08 R231, R232). -/
def State.unitsDown (s : State) : State := busSleep (pd5Off (closeSession false s.nodesDown))

theorem unitsDown_keepsBut (s : State) : KeepsBut [.base, .plane, .trk, .mem, .lvl, .bus] s s.unitsDown := by
  have hoff : ∀ v : State, KeepsBut [.base, .plane, .trk, .mem, .lvl, .bus] v (busSleep (pd5Off v)) := by
    intro v c hc
    cases c
    case base | plane | trk | mem | lvl | bus => simp at hc
    all_goals rfl
  exact keepsBut_trans (keepsBut_trans (keepsBut_mono (nodesDown_keepsBut s) (by decide))
    (keepsBut_mono (closeSession_keepsBut false _) (by decide))) (hoff _)

/-- The power registers once the domains are off. -/
def Power.down (p : Power) (keep : Bool) (now : Time) : Power :=
  { p with
    pd1 := false, pd2 := false, pd4 := false, nodesHeld := keep, entry := none, entryRan := none, next := none
    entryT := some now }

/-- What the domains' powering down leaves, but for the power registers: `u` is the state before. -/
structure DomainsOff (u w : State) : Prop where
  scan : w.scan = u.scan
  report : w.report = u.report
  params : w.params = u.params
  tally : w.tally = u.tally
  redo : w.casc.redo = u.casc.redo
  stage : w.time.stage = .off
  now : u.now.toNat % 256 = 0 → w.now = u.now
  level : w.lvl.pd5 = false
  pending : w.attn.pending = 0
  image : w.image.items = []
  record : w.record.items = []

theorem unitsDown_pd5 (s : State) : s.unitsDown.lvl.pd5 = false := rfl

/-- Powering down is the units' turning off and then the registers' of PD1, PD4 and the attention controller. -/
theorem powerDown_effect (u : State) : DomainsOff u (powerDown u) ∧
    (powerDown u).pwr = u.pwr.down (u.pnat 0x40B == 1) u.now := by
  have h := unitsDown_keepsBut u
  have hpd5 := unitsDown_pd5 u
  unfold State.unitsDown State.nodesDown at h hpd5
  unfold powerDown
  dsimp only
  generalize busSleep (pd5Off (closeSession false _)) = v at h hpd5 ⊢
  have htime : v.time = u.time := h .time (by decide)
  have hcasc : v.casc = u.casc := h .casc (by decide)
  have hpwr : v.pwr = u.pwr := h .pwr (by decide)
  refine ⟨⟨h .scan (by decide), h .report (by decide), h .params (by decide), h .tally (by decide), ?_, rfl, fun h0 => ?_,
    hpd5, rfl, rfl, rfl⟩, ?_⟩
  · exact (congrArg Cascade.redo hcasc : v.casc.redo = u.casc.redo)
  · show v.time.t - BitVec.ofNat 56 (v.time.t.toNat % 256) = u.time.t
    rw [htime, show u.time.t.toNat % 256 = 0 from h0]
    simp
  · simp only [poleOff, Power.down, State.now, hpwr, htime]

/-! ## The entry to DORMANT or WATCH (08 R231, R232) -/

/-- The entry is recorded, and the master has ordered it in a cascade. -/
def State.entryOrdered (s : State) (target cause : Nat) : State :=
  let v := tallyBy (powerOrigin cause) 0x403 (d48 [(8, s.pwr.st.toNat), (8, target), (8, cause)]) s
  if v.casc.role = .master then sendMsg 0x0B 0xFF (.direct { directBody v with power := some target }) v else v

theorem entryOrdered_keepsBut (s : State) (target cause : Nat) :
    KeepsBut (.casc :: .tel :: tallyComps) s (s.entryOrdered target cause) := by
  intro c hc
  unfold State.entryOrdered
  dsimp only
  split
  · cases c
    case casc | tel | attn | tally | record | trk => simp [tallyComps] at hc
    all_goals simp [Comp.same]
  · cases c
    case casc | tel | attn | tally | record | trk => simp [tallyComps] at hc
    all_goals simp [Comp.same]

theorem entryOrdered_tally (s : State) (target cause : Nat) : (s.entryOrdered target cause).tally =
    (tallyBy (powerOrigin cause) 0x403 (d48 [(8, s.pwr.st.toNat), (8, target), (8, cause)]) s).tally := by
  unfold State.entryOrdered
  dsimp only
  split
  · rw [sendMsg_tally]
  · rfl

theorem entryOrdered_redo (s : State) (target cause : Nat) : (s.entryOrdered target cause).casc.redo = s.casc.redo := by
  unfold State.entryOrdered
  dsimp only
  split
  · rw [sendMsg_redo, tallyBy_casc]
  · rw [tallyBy_casc]

/-- The power state is reached. -/
def State.inState (s : State) (target : Nat) : State := { s with pwr := { s.pwr with st := BitVec.ofNat 2 target } }

/-- The domains turn off and the state is reached; Sill scan begins in WATCH. -/
theorem sleepNow_eq (target cause : Nat) (s : State) : sleepNow target cause s =
    if target = 1 then startSill (cause == 12) ((powerDown (s.entryOrdered target cause)).inState target)
    else (powerDown (s.entryOrdered target cause)).inState target := rfl

/-- The power registers of a chip asleep: `u` is the state before. -/
structure PowerAsleep (u : State) (target : Nat) (p : Power) : Prop where
  st : p.st = BitVec.ofNat 2 target
  domains : p.pd1 = false ∧ p.pd2 = false ∧ p.pd4 = false
  entry : p.entry = none
  next : p.next = none
  entryT : p.entryT = some u.now
  checkFailed : p.checkFailed = u.pwr.checkFailed
  sleepDue : p.sleepDue = u.pwr.sleepDue

/-- The power registers bear on nothing else that the domains leave. -/
theorem DomainsOff.withPwr {u w : State} (h : DomainsOff u w) (p : Power) : DomainsOff u { w with pwr := p } :=
  ⟨h.scan, h.report, h.params, h.tally, h.redo, h.stage, h.now, h.level, h.pending, h.image, h.record⟩

theorem PowerAsleep.startSill {u w : State} {target : Nat} (h : PowerAsleep u target w.pwr) (keep : Bool) :
    PowerAsleep u target (startSill keep w).pwr :=
  ⟨h.st, h.domains, h.entry, h.next, h.entryT, h.checkFailed, h.sleepDue⟩

/-- The domains turn off, and the state is reached. -/
theorem sleepNow_asleep (target cause : Nat) (s : State) :
    DomainsOff (s.entryOrdered target cause) (sleepNow target cause s) ∧
      PowerAsleep s target (sleepNow target cause s).pwr ∧
      (target = 1 → (sleepNow target cause s).pwr.periodT = some ((sleepNow target cause s).now + 1024)) := by
  have h := entryOrdered_keepsBut s target cause
  have hpwr : (s.entryOrdered target cause).pwr = s.pwr := h .pwr (by decide)
  have htime : (s.entryOrdered target cause).time = s.time := h .time (by decide)
  obtain ⟨hoff, hdown⟩ := powerDown_effect (s.entryOrdered target cause)
  rw [hpwr, State.now, htime] at hdown
  rw [sleepNow_eq]
  generalize powerDown (s.entryOrdered target cause) = v at hoff hdown ⊢
  have hasleep : PowerAsleep s target (v.inState target).pwr := by
    rw [State.inState, hdown]
    exact ⟨rfl, ⟨rfl, rfl, rfl⟩, rfl, rfl, rfl, rfl, rfl⟩
  split
  · exact ⟨hoff.withPwr _, hasleep.startSill _, fun _ => rfl⟩
  · next hne => exact ⟨hoff.withPwr _, hasleep, fun h => absurd h hne⟩

/-- The state that an entry reaches, but for one to WATCH by sleep or idle time without a Sill group (08 R544). -/
theorem entryTarget_some {asked cause : Nat} {s : State} (h : ¬ (asked = 1 ∧ (cause = 7 ∨ cause = 8) ∧ s.anySill = false)) :
    entryTarget asked cause s = some (if cause = 12 then (if s.anySill then 1 else 0) else asked) := by
  unfold entryTarget
  split
  · rfl
  · exact if_neg (by simpa using h)

theorem entryTarget_none {cause : Nat} {s : State} (hcause : cause = 7 ∨ cause = 8) (h : s.anySill = false) :
    entryTarget 1 cause s = none := by
  unfold entryTarget
  rw [if_neg (by omega), if_pos ⟨rfl, hcause, by simp [h]⟩]

/-- While PD1 is off nothing becomes pending, and ATTN_N is released. -/
theorem settleAttn_off {s : State} (hpd1 : s.pwr.pd1 = false) :
    (settleAttn s).attn.attnN = false ∧ (settleAttn s).attn.pending = s.attn.pending := by
  have hoff : s.attnOn = false := by simp [State.attnOn, hpd1]
  have hsync : synced s = { s with attn := acksEnded s } := by rw [synced, hoff]; rfl
  have hdrives : drivesAttn { s with attn := acksEnded s } = false := by simp [drivesAttn, State.attnOn, hpd1]
  rw [settleAttn, hsync, followAttn_attn, hdrives]
  refine ⟨rfl, ?_⟩
  show (acksEnded s).pending = _
  rw [acksEnded_eq]

/-- An entry is due: scanning has stopped, and at a beat nothing is owed to the host (08 R231). -/
structure EntryDue (s : State) (tk : Tick) (asked cause : Nat) : Prop where
  entry : s.pwr.entry = some ⟨asked, cause, none⟩
  stopped : s.scan.phase = .stopped
  boundary : s.trust.boundary = false
  paid : nothingOwed (s.entered tk) = true
  beat : (s.entered tk).now.toNat % 256 = 0

theorem EntryDue.exec_made {s : State} {tk : Tick} {asked cause target : Nat} (h : EntryDue s tk asked cause)
    (ht : entryTarget asked cause (s.entered tk) = some target) :
    exec (.sleepEntry tk) s = runAt tk s (sleepNow target cause) := by
  rw [exec_sleepEntry, execSleepEntry, runAt, runAt]
  simp only [State.entered_pwr, h.entry]
  rw [if_pos ⟨by simpa using h.stopped, h.paid, h.beat, by simp [h.boundary]⟩, ht]

theorem EntryDue.exec_notMade {s : State} {tk : Tick} {asked cause : Nat} (h : EntryDue s tk asked cause)
    (ht : entryTarget asked cause (s.entered tk) = none) : exec (.sleepEntry tk) s = runAt tk s stayAwake := by
  rw [exec_sleepEntry, execSleepEntry, runAt, runAt]
  simp only [State.entered_pwr, h.entry]
  rw [if_pos ⟨by simpa using h.stopped, h.paid, h.beat, by simp [h.boundary]⟩, ht]

/-- SLEEP_ENTRY to a state that is reached. -/
theorem runs_sleepEntry (tk : Tick) {s : State} {asked cause target : Nat} (hfailed : s.pwr.checkFailed = false)
    (hdue : s.pwr.sleepDue = false) (hredo : s.casc.redo = false) (hstop : s.scan.stopAt = none)
    (h : EntryDue s tk asked cause) (ht : entryTarget asked cause (s.entered tk) = some target) :
    Runs (.sleepEntry tk) s fun t =>
      DomainsOff ((s.entered tk).entryOrdered target cause) t ∧ PowerAsleep (s.entered tk) target t.pwr ∧
      t.attn.attnN = false ∧ (target = 1 → t.pwr.periodT = some (t.now + 1024)) := by
  obtain ⟨hoff, hpwr, hperiod⟩ := sleepNow_asleep target cause (s.entered tk)
  rw [Runs, h.exec_made ht, runAt]
  generalize sleepNow target cause (s.entered tk) = v at hoff hpwr hperiod
  have hscan : v.scan = s.scan := by
    rw [hoff.scan, entryOrdered_keepsBut _ _ _ .scan (by decide), State.entered_scan]
  have hcascRedo : v.casc.redo = false := by
    rw [hoff.redo, entryOrdered_redo, State.entered_casc]; exact hredo
  have hquiet : (sealed s v).Quiet := ⟨by simpa [hscan] using hstop, hpwr.entry, hpwr.checkFailed.trans (by simpa using hfailed),
    hpwr.sleepDue.trans (by simpa using hdue), hcascRedo, fun hs => by simp [hscan, h.stopped] at hs, fun _ => hpwr.next⟩
  obtain ⟨hattn, hpending⟩ := settleAttn_off (s := sealed s v) hpwr.domains.1
  rw [settle_quiet hquiet]
  refine ⟨_, rfl, ⟨hoff.scan, hoff.report, hoff.params, hoff.tally, hoff.redo, hoff.stage, hoff.now, hoff.level,
    hpending.trans hoff.pending, hoff.image, hoff.record⟩, hpwr, hattn, hperiod⟩

/-- An entry that is not made out of DOZE, where none scanned before it: the chip stays as it is (08 R544). -/
theorem stayAwake_stopped {s : State} (hst : s.pwr.st ≠ 2) (hran : s.pwr.entryRan = none) :
    stayAwake s = { s with pwr := { s.pwr with entry := none, entryRan := none, idleFrom := s.now } } := by
  rw [stayAwake, hran]
  exact if_neg hst

/-- SLEEP_ENTRY to WATCH by sleep or idle time without a Sill group, while nothing scanned before the request. -/
theorem runs_sleepEntry_notMade (tk : Tick) {s : State} {cause : Nat} (hnext : s.pwr.next = none)
    (hfailed : s.pwr.checkFailed = false) (hdue : s.pwr.sleepDue = false) (hredo : s.casc.redo = false)
    (hstop : s.scan.stopAt = none) (h : EntryDue s tk 1 cause) (hcause : cause = 7 ∨ cause = 8) (hsill : s.anySill = false)
    (hst : s.pwr.st ≠ 2) (hran : s.pwr.entryRan = none) :
    Runs (.sleepEntry tk) s fun t =>
      t.pwr = { s.pwr with entry := none, idleFrom := (s.entered tk).now } ∧ KeepsBut [.pwr, .attn] (s.entered tk) t := by
  have hpwr : (s.entered tk).pwr = s.pwr := State.entered_pwr s tk
  rw [Runs, h.exec_notMade (entryTarget_none hcause (by simpa using hsill))]
  refine runAt_quiet tk (stayAwake_stopped (by rwa [hpwr]) (by rwa [hpwr])) ?_ (keepsBut_mono (keepsBut_pwr _ _) (by decide))
    (by decide) fun t ht hk => ⟨?_, hk⟩
  · exact ⟨by simpa using hstop, rfl, by simpa using hfailed, by simpa using hdue, by simpa using hredo,
      fun hs => by simp [h.stopped] at hs, fun _ => by simpa using hnext⟩
  · rw [show t.pwr = _ from ht .pwr (by decide), hpwr, ← hran]

/-! ## The begin of a wake (08 R235, R245, R247) -/

/-- What holds once a wake has begun that a command acting at `u` calls for. -/
structure WakeBegins (u : State) (w : Wake) (t : State) : Prop where
  waking : t.pwr.waking = some w
  wakeT : t.pwr.wakeT = u.now
  periodT : t.pwr.periodT = none
  window : t.pwr.window = u.pwr.window
  st : t.pwr.st = u.pwr.st
  time : t.time = { u.time with stage := .waitEdge, vcoreMv := 900 }
  keeps : KeepsBut [.time, .pwr, .attn] u t

/-- A command that calls for a wake while none has begun. -/
theorem runAt_wakes (tk : Tick) {s : State} {f : State → State} {w : Wake} (hc : s.calm) (hwake : s.pwr.waking = none)
    (hf : f (s.entered tk) = startWake w (s.entered tk)) :
    ∃ t, runAt tk s f = .next t ∧ WakeBegins (s.entered tk) w t := by
  obtain ⟨low, hlow⟩ := startWake_begins (s := s.entered tk) w (by simpa using hwake)
  refine runAt_keepsPlans tk hc (hf.trans hlow) (keepsPlans_wakeBegun _ _ _) (cs := [.time, .pwr, .attn])
    (keepsBut_mono (wakeBegun_keepsBut _ _ _) (by decide)) (by decide) (by decide) fun t ht hk => ?_
  have hpwr : t.pwr = ((s.entered tk).wakeBegun w low).pwr := ht .pwr (by decide)
  have htime : t.time = ((s.entered tk).wakeBegun w low).time := ht .time (by decide)
  exact ⟨by rw [hpwr]; rfl, by rw [hpwr]; rfl, by rw [hpwr]; rfl, by rw [hpwr]; rfl, by rw [hpwr]; rfl, by rw [htime]; rfl, hk⟩

theorem runs_hostCsNWake (tk : Tick) {s : State} (hc : s.calm) (hd : s.dormant = true) (hwake : s.pwr.waking = none) :
    Runs (.hostCsNWake tk) s (WakeBegins (s.entered tk) (3, 3, none)) := by
  rw [Runs, exec_hostCsNWake, execHostCsNWake]
  exact runAt_wakes tk hc hwake (if_pos (by simpa using hd))

/-- TIMER_WAKE once wake_timer has run: DOZE where its profile has an admissible set, else ACTIVE (08 R544). -/
theorem runs_timerWake (tk : Tick) {s : State} {t0 : Time} (hc : s.calm) (hd : s.dormant = true)
    (hwake : s.pwr.waking = none) (ht : s.pwr.entryT = some t0) (h0 : s.pnat 0x40D ≠ 0)
    (hr : reached (s.entered tk).now (t0 + BitVec.ofNat 56 (8388608 * s.pnat 0x40D)) = true) :
    Runs (.timerWake tk) s
      (WakeBegins (s.entered tk) (if s.dozeOk then (4, 2, some (s.pnat 0x408)) else (4, 3, none))) := by
  rw [Runs, exec_timerWake, execTimerWake]
  refine runAt_wakes tk hc hwake ?_
  simp only [State.entered_pwr, ht, State.entered_dormant, State.entered_pnat, State.entered_dozeOk]
  exact if_pos ⟨hd, h0, hr⟩

theorem runs_syncWakePulse (tk : Tick) {s : State} {low : Nat} (hc : s.calm) (hd : s.dormant = true)
    (hwake : s.pwr.waking = none) (hcasc : s.inCascade = true) (hlow : 512 ≤ low) :
    Runs (.syncWakePulse tk low) s (WakeBegins (s.entered tk) (5, 3, some (s.pnat 0x111))) := by
  rw [Runs, exec_syncWakePulse, execSyncWakePulse]
  refine runAt_wakes tk hc hwake ?_
  rw [if_pos (by simpa using ⟨hd, hcasc, hlow, hwake⟩), State.entered_pnat]

/-! ## The return of the domains (08 R235, R236) -/

/-- Lost content is recorded where it had been held (08 R235). -/
def lossTold (bad : Nat) (s : State) : State :=
  if s.pwr.nodesHeld && bad != 0 then tally 0x406 (d48 [(16, bad)]) s else s

theorem lossTold_keepsBut (bad : Nat) (s : State) : KeepsBut tallyComps s (lossTold bad s) := by
  unfold lossTold
  split
  · exact tally_keepsBut _ _ s
  · exact keepsBut_refl _ s

/-- What node memory's return leaves of the power registers: it tells there whether content was retained. -/
def Power.nodesBack (p : Power) (bad : Nat) : Power :=
  { p with nodesRetained := p.nodesHeld && bad == 0, nodesHeld := true }

/-- Node memory's return touches what it holds, the power registers and Tally. -/
theorem returnNodes_effect (bad : Nat) (s : State) :
    KeepsBut ([.base, .plane, .mem, .pwr] ++ tallyComps) s (returnNodes bad s) ∧
      (returnNodes bad s).pwr = s.pwr.nodesBack bad := by
  have h := lossTold_keepsBut bad s
  have hpwr : (lossTold bad s).pwr = s.pwr := h .pwr (by decide)
  unfold lossTold at h hpwr
  unfold returnNodes
  dsimp only
  generalize (if s.pwr.nodesHeld && bad != 0 then tally 0x406 (d48 [(16, bad)]) s else s) = v at h hpwr ⊢
  have hback : ∀ w : State, KeepsBut [.base, .plane, .mem, .pwr, .trk] v w →
      KeepsBut ([.base, .plane, .mem, .pwr] ++ tallyComps) s w := fun w hw =>
    keepsBut_trans (keepsBut_mono h (by decide)) (keepsBut_mono hw (by decide))
  split
  · refine ⟨hback _ fun c hc => ?_, by rw [hpwr]; rfl⟩
    cases c
    case base | plane | mem | pwr | trk => simp at hc
    all_goals rfl
  · refine ⟨hback _ fun c hc => ?_, by rw [hpwr]; rfl⟩
    cases c
    case base | plane | mem | pwr | trk => simp at hc
    all_goals rfl

/-- Retained content is as it was, and re-seeds Plane. -/
theorem returnNodes_retained {s : State} (h : s.pwr.nodesHeld = true) :
    returnNodes 0 s = { s with pwr := s.pwr.nodesBack 0, plane := { s.plane with reseedAll := true } } := by
  simp [returnNodes, Power.nodesBack, h]

/-- What the arrival's events and the units of PD1 and PD5 change besides: no transition is set off. -/
structure UnitsUp (u w : State) : Prop where
  keeps : KeepsBut [.front, .attn, .report, .pwr, .trk, .bench, .tally, .record, .bus, .lvl] u w
  pwr : ∃ b, w.pwr = { u.pwr with wakeCheck := b }

theorem UnitsUp.trans {u v w : State} (h : UnitsUp u v) (h' : UnitsUp v w) : UnitsUp u w := by
  refine ⟨keepsBut_trans h.keeps h'.keeps, ?_⟩
  obtain ⟨a, ha⟩ := h.pwr
  obtain ⟨b, hb⟩ := h'.pwr
  exact ⟨b, by rw [hb, ha]⟩

theorem LineEffect.unitsUp {u w : State} (h : LineEffect u w) : UnitsUp u w := ⟨keepsBut_mono h.keeps (by decide), h.pwr⟩

theorem unitsUp_bus (u : State) (b : Bus) : UnitsUp u { u with bus := b } :=
  ⟨keepsBut_mono (keepsBut_bus u b) (by decide), u.pwr.wakeCheck, rfl⟩

theorem unitsUp_raise (src : Nat) (u : State) : UnitsUp u (raise src u) := by
  refine ⟨fun c hc => ?_, u.pwr.wakeCheck, raise_pwr _ _⟩
  cases c
  case front | attn | report | pwr | trk | bench | tally | record | bus | lvl => simp at hc
  all_goals simp [Comp.same]

theorem unitsUp_pd5Check (u : State) : UnitsUp u (pd5Check u) := by
  refine ⟨fun c hc => ?_, u.pwr.wakeCheck, pd5Check_pwr _⟩
  cases c
  case front | attn | report | pwr | trk | bench | tally | record | bus | lvl => simp at hc
  all_goals simp [Comp.same]

/-- The bus starts on a tile that is no member (13 R401, R409). -/
theorem unitsUp_busWake {u : State} (hm : u.casc.role ≠ .member) : UnitsUp u (busWake u) := by
  have hrecord : ∀ v : State, v.casc.role ≠ .member → UnitsUp v (partnerRecord 8 0xFF 0xFF 0xFF u.bus.closings 0 v) :=
    fun v hv => (unitsUp_raise 12 v).trans (lineEffect_faultRecord _ (by rwa [raise_casc])).unitsUp
  have hstart : ∀ v : State, UnitsUp u v →
      UnitsUp u (if v.pnat 0x700 = 1 then requestStart v.now (v.bus.vbr == 1) v else v) := by
    intro v hv
    split
    · exact hv.trans (unitsUp_bus v _)
    · exact hv
  refine hstart _ ?_
  split
  · have hbus : UnitsUp u { u with bus := { u.bus with limitSlept := false } } := unitsUp_bus u _
    exact (hbus.trans (hrecord _ hm)).trans (lineEffect_tally _ _ _).unitsUp
  · exact (LineEffect.refl u).unitsUp

/-- The Level converter's timers start. -/
theorem unitsUp_startTimers (l : List Nat) (u : State) : UnitsUp u (l.foldl (fun s n => startTimer n none s) u) := by
  induction l generalizing u with
  | nil => exact (LineEffect.refl u).unitsUp
  | cons n r ih =>
    have hone : UnitsUp u (startTimer n none u) := by
      refine ⟨fun c hc => ?_, u.pwr.wakeCheck, rfl⟩
      cases c
      case front | attn | report | pwr | trk | bench | tally | record | bus | lvl => simp at hc
      all_goals rfl
    exact hone.trans (ih _)

/-- The power registers at an arrival that starts no scanning. -/
def Power.arrived (p : Power) (cause target : Nat) (u : State) : Power :=
  { p with
    waking := none, st := BitVec.ofNat 2 target, wakeCause := BitVec.ofNat 3 cause, entryT := none
    hostAsleep := p.hostAsleep && cause != 3, idleFrom := u.now, wakeCheck := false, checkFailed := false
    checkHead := u.report.head, checkRecs := u.report.items.length, checkFrom := none, checkFrames := 0 }

/-- An arrival whose event is not yet recorded. -/
def State.arrived (v : State) (cause target : Nat) : State :=
  { v with boot := { v.boot with discovered := false }, pwr := v.pwr.arrived cause target v }

/-- PD1 and PD4 are back with node memory. -/
def State.domainsBack (s : State) (bad : Nat) : State := returnNodes bad (domainsUp (stopSill s))

/-- An arrival without a profile: the state is reached and recorded, and the units of PD1 and PD5 follow. -/
theorem wakeReady_noProfile (cause target bad : Nat) (s : State) : wakeReady (cause, target, none) bad s =
    (List.range 16).foldl (fun s n => startTimer n none s) (raise 23 (pd5Check (busWake
      (tally 0x403 (d48 [(8, s.pwr.st.toNat), (8, target), (8, cause)]) ((s.domainsBack bad).arrived cause target))))) :=
  rfl

theorem wakeReady_unitsUp {s : State} (cause target bad : Nat) (hm : (s.domainsBack bad).casc.role ≠ .member) :
    UnitsUp ((s.domainsBack bad).arrived cause target) (wakeReady (cause, target, none) bad s) := by
  rw [wakeReady_noProfile]
  generalize hv : tally 0x403 _ _ = v
  have htold : UnitsUp ((s.domainsBack bad).arrived cause target) v := hv ▸ (lineEffect_tally _ _ _).unitsUp
  have hmv : v.casc.role ≠ .member := by rw [← hv, tally_casc]; exact hm
  exact (((htold.trans (unitsUp_busWake hmv)).trans (unitsUp_pd5Check _)).trans (unitsUp_raise 23 _)).trans
    (unitsUp_startTimers _ _)

/-- The registers that the domains' return leaves, or sets alike whatever node memory held. -/
structure DomainsOn (u v : State) (bad : Nat) : Prop where
  scan : v.scan = u.scan
  boot : v.boot = u.boot
  stage : v.time.stage = u.time.stage
  vcore : v.time.vcoreMv = 900
  role : v.casc.role = u.casc.role
  redo : v.casc.redo = u.casc.redo
  domains : v.pwr.pd1 = true ∧ v.pwr.pd4 = true
  retained : v.pwr.nodesRetained = (u.pwr.nodesHeld && bad == 0)
  plans : v.pwr.entry = u.pwr.entry ∧ v.pwr.next = u.pwr.next ∧ v.pwr.sleepDue = u.pwr.sleepDue

theorem domainsBack_on (s : State) (bad : Nat) : DomainsOn s (s.domainsBack bad) bad := by
  obtain ⟨hk, hpwr⟩ := returnNodes_effect bad (domainsUp (stopSill s))
  have htime : (s.domainsBack bad).time = (domainsUp (stopSill s)).time := hk .time (by decide)
  have hcasc : (s.domainsBack bad).casc = (domainsUp (stopSill s)).casc := hk .casc (by decide)
  have hback : (s.domainsBack bad).pwr = (domainsUp (stopSill s)).pwr.nodesBack bad := hpwr
  constructor
  case scan => exact hk .scan (by decide)
  case boot => exact hk .boot (by decide)
  case stage | vcore => rw [htime]; rfl
  case role | redo => rw [hcasc]; rfl
  case domains => rw [hback]; exact ⟨rfl, rfl⟩
  case plans => rw [hback]; exact ⟨rfl, rfl, rfl⟩
  case retained => rw [hback]; rfl

/-- Content that was retained, as it is when the domains are back. -/
theorem domainsBack_retained {s : State} (h : s.pwr.nodesHeld = true) :
    (s.domainsBack 0).base = s.base ∧ (s.domainsBack 0).plane.reseedAll = true := by
  rw [State.domainsBack, returnNodes_retained (by exact h)]
  exact ⟨rfl, rfl⟩

/-- PD1_PD4_READY 4 beats after a wake began is the arrival. -/
theorem exec_pd1Pd4Ready_wake (tk : Tick) {s : State} {w : Wake} (bad : Nat) (hboot : s.boot.phase = .done)
    (hwake : s.pwr.waking = some w) (hr : reached (s.entered tk).now (s.pwr.wakeT + 1024) = true) :
    exec (.pd1Pd4Ready tk bad) s = runAt tk s (wakeReady w bad) := by
  rw [exec_pd1Pd4Ready, execPd1Pd4Ready, runAt, runAt]
  simp only [State.entered_boot, State.entered_pwr, hboot, hwake]
  rw [if_pos (by exact hr)]

/-- What the events, the units and settling can change once the state of an arrival without a profile is reached. -/
def arrivalComps : List Comp := [.front, .attn, .report, .pwr, .trk, .bench, .tally, .record, .bus, .lvl] ++ settleComps

/-- PD1_PD4_READY at an arrival that starts no scanning, on a tile that is no member. -/
theorem runs_pd1Pd4Ready (tk : Tick) {s : State} {cause target bad : Nat} (hc : s.calm) (hboot : s.boot.phase = .done)
    (hwake : s.pwr.waking = some (cause, target, none)) (hr : reached (s.entered tk).now (s.pwr.wakeT + 1024) = true)
    (hm : s.casc.role ≠ .member) :
    Runs (.pd1Pd4Ready tk bad) s fun t =>
      KeepsBut arrivalComps (((s.entered tk).domainsBack bad).arrived cause target) t ∧
      ∃ b, t.pwr = { (((s.entered tk).domainsBack bad).arrived cause target).pwr with wakeCheck := b } := by
  have hon := domainsBack_on (s.entered tk) bad
  have hup := wakeReady_unitsUp (s := s.entered tk) cause target bad (by rw [hon.role]; simpa using hm)
  rw [Runs, exec_pd1Pd4Ready_wake tk bad hboot hwake hr, runAt]
  generalize wakeReady (cause, target, none) bad (s.entered tk) = w at hup
  obtain ⟨b, hpwr⟩ := hup.pwr
  have hscan : w.scan = (s.entered tk).scan := (hup.keeps .scan (by decide)).trans hon.scan
  have hcasc : w.casc = ((s.entered tk).domainsBack bad).casc := hup.keeps .casc (by decide)
  obtain ⟨hentry, hnext, hdue⟩ := hon.plans
  have hu : (s.entered tk).Quiet := State.calm.quiet (by simpa using hc)
  have hquiet : w.Quiet := by
    constructor
    case stopAt => rw [hscan]; exact hu.stopAt
    case entry => rw [hpwr]; exact hentry.trans hu.entry
    case checkFailed => rw [hpwr]; rfl
    case sleepDue => rw [hpwr]; exact hdue.trans hu.sleepDue
    case redo => rw [hcasc, hon.redo]; exact hu.redo
    case stopping => rw [hscan]; exact hu.stopping
    case stopped => rw [hscan, hpwr]; exact fun hp => hnext.trans (hu.stopped hp)
  have hset := settle_quiet_keepsBut (s := s) hquiet
  exact ⟨_, rfl, keepsBut_trans (keepsBut_mono hup.keeps (by decide)) (keepsBut_mono hset (by decide)), b,
    (hset .pwr (by decide)).trans hpwr⟩

/-- What an entry that is made leaves, register by register. -/
theorem runs_sleepEntry_registers (tk : Tick) {s : State} {asked cause target : Nat} (hfailed : s.pwr.checkFailed = false)
    (hdue : s.pwr.sleepDue = false) (hredo : s.casc.redo = false) (hstop : s.scan.stopAt = none)
    (h : EntryDue s tk asked cause) (ht : entryTarget asked cause (s.entered tk) = some target) :
    Runs (.sleepEntry tk) s fun t =>
      PowerAsleep (s.entered tk) target t.pwr ∧ t.lvl.pd5 = false ∧ t.time.stage = .off ∧ t.time.t = (s.entered tk).now ∧
      t.attn.attnN = false ∧ t.attn.pending = 0 ∧ t.image.items = [] ∧ t.record.items = [] ∧ t.report = s.report ∧
      t.params = s.params ∧
      t.tally = (tallyBy (powerOrigin cause) 0x403 (d48 [(8, s.pwr.st.toNat), (8, target), (8, cause)])
        (s.entered tk)).tally ∧
      (target = 1 → t.pwr.periodT = some ((s.entered tk).now + 1024)) := by
  obtain ⟨t, hrun, hoff, hpwr, hattn, hperiod⟩ := runs_sleepEntry tk hfailed hdue hredo hstop h ht
  have hk := entryOrdered_keepsBut (s.entered tk) target cause
  have htime : ((s.entered tk).entryOrdered target cause).now = (s.entered tk).now :=
    congrArg TimeBase.t (hk .time (by decide))
  have hnow : t.now = (s.entered tk).now := (hoff.now (by rw [htime]; exact h.beat)).trans htime
  refine ⟨t, hrun, hpwr, hoff.level, hoff.stage, hnow, hattn, hoff.pending, hoff.image, hoff.record, ?_, ?_, ?_, fun h1 => ?_⟩
  · rw [hoff.report, hk .report (by decide), State.entered_report]
  · rw [hoff.params, hk .params (by decide), State.entered_params]
  · rw [hoff.tally, entryOrdered_tally, State.entered_pwr]
  · rw [hperiod h1, hnow]

/-- What an arrival leaves, register by register. -/
theorem runs_pd1Pd4Ready_registers (tk : Tick) {s : State} {cause target bad : Nat} (hc : s.calm)
    (hboot : s.boot.phase = .done) (hwake : s.pwr.waking = some (cause, target, none))
    (hr : reached (s.entered tk).now (s.pwr.wakeT + 1024) = true) (hm : s.casc.role ≠ .member) :
    Runs (.pd1Pd4Ready tk bad) s fun t =>
      (t.pwr.st = BitVec.ofNat 2 target ∧ t.pwr.wakeCause = BitVec.ofNat 3 cause ∧ t.pwr.waking = none ∧ t.pwr.entryT = none ∧
        t.pwr.pd1 = true ∧ t.pwr.pd4 = true ∧ t.pwr.nodesRetained = (s.pwr.nodesHeld && bad == 0)) ∧
      (t.time.stage = s.time.stage ∧ t.time.vcoreMv = 900 ∧ t.boot.discovered = false ∧ t.scan = s.scan) ∧
      (s.pwr.nodesHeld = true → bad = 0 → t.base.nodes = s.base.nodes ∧ t.plane.reseedAll = true) := by
  obtain ⟨t, hrun, hk, b, hpwr⟩ := runs_pd1Pd4Ready (bad := bad) tk hc hboot hwake hr hm
  have hon := domainsBack_on (s.entered tk) bad
  have htime : t.time = ((s.entered tk).domainsBack bad).time := hk .time (by decide)
  have hscan : t.scan = ((s.entered tk).domainsBack bad).scan := hk .scan (by decide)
  have hbase : t.base = ((s.entered tk).domainsBack bad).base := hk .base (by decide)
  have hplane : t.plane = ((s.entered tk).domainsBack bad).plane := hk .plane (by decide)
  have hdiscovered : t.boot.discovered = false := by rw [show t.boot = _ from hk .boot (by decide)]; rfl
  obtain ⟨hpd1, hpd4⟩ := hon.domains
  refine ⟨t, hrun, ?_, ⟨?_, ?_, hdiscovered, ?_⟩, fun hheld hbad => ?_⟩
  · rw [hpwr, ← State.entered_pwr s tk]
    exact ⟨rfl, rfl, rfl, rfl, hpd1, hpd4, hon.retained⟩
  · rw [htime, hon.stage, State.entered_time_stage]
  · rw [htime, hon.vcore]
  · rw [hscan, hon.scan, State.entered_scan]
  · subst hbad
    obtain ⟨hnodes, hreseed⟩ := domainsBack_retained (s := s.entered tk) (by simpa using hheld)
    exact ⟨by rw [hbase, hnodes, State.entered_base], by rw [hplane, hreseed]⟩

/-- Settles O46: an entry powers the domains down and reaches its state, or leaves the chip awake; a wake begins with its
cause, and 4 beats later its state is reached; settling makes no other transition. -/
theorem sleepsAndWakes : Obligations.SleepsAndWakes := by
  unfold Obligations.SleepsAndWakes
  intro s tk hphase hnext hfailed hdue hredo hstop u
  have hu : u = s.entered tk := rfl
  clear_value u
  subst hu
  refine ⟨fun asked cause _ he hp hb howed hbeat hmade => ?_, fun cause hcause he hp howed hbeat hsill hst hran hb => ?_,
    fun hentry hd hwake => ?_, fun cause target bad hentry hboot hwake hr hm => ?_⟩
  · intro target
    have htarget : entryTarget asked cause (s.entered tk) = some target := by
      rw [entryTarget_some (by simpa using hmade), State.entered_anySill]
    obtain ⟨t, hrun, hpwr, hlvl, hstage, hnow, hattn, hpending, himage, hrecord, hreport, hparams, htally, hperiod⟩ :=
      runs_sleepEntry_registers tk hfailed hdue hredo hstop ⟨he, hp, hb, howed, hbeat⟩ htarget
    obtain ⟨hpd1, hpd2, hpd4⟩ := hpwr.domains
    exact ⟨t, hrun, hpwr.st, hpd1, hpd2, hpd4, hpwr.entry, hpwr.entryT, hlvl, hstage, hnow, hattn, hpending, himage, hrecord,
      hreport, hparams, htally, hperiod⟩
  · exact runs_sleepEntry_notMade tk hnext hfailed hdue hredo hstop ⟨he, hp, hb, howed, hbeat⟩ hcause hsill hst hran
  · have hc : s.calm := ⟨hphase, hstop, hentry, hnext, hfailed, hdue, hredo⟩
    intro begins
    have hbegins : ∀ w t, WakeBegins (s.entered tk) w t → begins w t := fun w t h =>
      ⟨h.waking, h.wakeT, h.periodT, by rw [h.window, State.entered_pwr], by rw [h.st, State.entered_pwr], h.time, h.keeps⟩
    refine ⟨?_, fun t0 ht h0 hr => ?_, fun low hcasc hlow => ?_⟩
    · obtain ⟨t, hrun, h⟩ := runs_hostCsNWake tk hc hd hwake
      exact ⟨t, hrun, hbegins _ t h⟩
    · obtain ⟨t, hrun, h⟩ := runs_timerWake tk hc hd hwake ht h0 hr
      exact ⟨t, hrun, hbegins _ t h⟩
    · obtain ⟨t, hrun, h⟩ := runs_syncWakePulse tk hc hd hwake hcasc hlow
      exact ⟨t, hrun, hbegins _ t h⟩
  · have hc : s.calm := ⟨hphase, hstop, hentry, hnext, hfailed, hdue, hredo⟩
    obtain ⟨t, hrun, ⟨hst, hcause, hwaking, hentryT, hpd1, hpd4, hretained⟩, ⟨hstage, hvcore, hdisc, hscan⟩, hnodes⟩ :=
      runs_pd1Pd4Ready_registers (bad := bad) tk hc hboot hwake hr hm
    exact ⟨t, hrun, hst, hcause, hwaking, hentryT, hpd1, hpd4, hstage, hvcore, hdisc, hretained, hscan, fun _ => hnodes⟩

end Sys2Proof.Machine
end

section
/-! Proofs of family 10_level_converter: Level's conversions and supplies (O45). -/

namespace Sys2Proof.Machine

/-- A standalone tile at tick 16 of beat 2 whose excitation, of a half-period of 2 beats, has its reversal of beat 2 still to
make, and whose slot 1 has been given reversal edges as its trigger a moment ago: the old entry, command only, acts up to the
round boundary at tick 32 (10 R307, R313). -/
def reversalAfterTriggerWrite : State :=
  { State.reset with
    boot := { State.reset.boot with phase := .done, heldT := none, nodeInit := true }
    pwr := { State.reset.pwr with pd1 := true, pd4 := true }
    link := { State.reset.link with busy := false, mode := 0 }
    time := { State.reset.time with
      t := 528, stage := .placed, sourceFault := false, crystalRunning := true, declared := true }
    lvl := { State.reset.lvl with
      pd5 := true, excOn := true, excIn := true, excH := 2, halfPeriod := 2, nextEdge := some 512
      slots := State.reset.lvl.slots.set 1 { LvlSlot.initial with
        trigWas := some ([0, 0, 1, 0, 0, 0, 0, 0x80], none, 544) } }
    params := [(0x601, [0, 0, 10, 2, 1, 8, 0, 7, 0, 0xFF, 0, 0, 0, 0, 0, 0]), (0x611, [1]), (0x612, [2, 0]),
      (0x621, [2, 0, 1, 0, 0, 0, 0, 0x80])] }

/-- No slot has a reversal trigger in force before the command, and slot 1 has one at the command's instant, tick 32. -/
theorem reversalAfterTriggerWrite_triggersOf :
    triggersOf reversalAfterTriggerWrite 2 = [] ∧ triggersOf (reversalAfterTriggerWrite.entered 32) 2 = [1] := by
  decide

/-- The reversal, made at tick 32, fires the new trigger: slot 1's request is queued (10 R313, R314). -/
theorem reversalAfterTriggerWrite_queue {t : State}
    (ht : exec (.excitationReversal 32) reversalAfterTriggerWrite = .next t) :
    t.lvl.queue.map (fun q => (q.slot, q.source)) = [(1, 2)] := by
  rw [← Host.Outcome.next.inj ht]
  decide

/-- Refutes O45: the statement has a reversal change nothing of the queue of requests where no slot has reversal edges as its
trigger, and reads the triggers in the state before the command, `triggersOf s 2`, where the reversal reads those in force at
its own instant. A changed trigger entry acts from the next round boundary (10 R313), so the two differ where a boundary lies
between the state's instant and the command's, as in a reversal made late in its beat. -/
theorem not_levelConvertsAndSupplies : ¬ Obligations.LevelConvertsAndSupplies := by
  unfold Obligations.LevelConvertsAndSupplies
  rintro ⟨-, hsupplies⟩
  obtain ⟨hreversal, -⟩ := hsupplies reversalAfterTriggerWrite 32 (by unfold State.calm; decide)
  obtain ⟨t, ht, hlvl, -⟩ :=
    hreversal 512 rfl rfl (by decide) rfl reversalAfterTriggerWrite_triggersOf.1
  have hqueued := reversalAfterTriggerWrite_queue ht
  have hempty : t.lvl.queue = [] := by rw [hlvl]; rfl
  rw [hempty] at hqueued
  exact absurd hqueued (by decide)

end Sys2Proof.Machine
end
